-- ==== Sys2Proof/Word.lean ====
section
/-! DEFINITION. The word types of the AY1536 (R75 to R77, R99) and the sparse table type that the state uses. -/
namespace Sys2Proof

/-- A 32-bit word: a g register, a register of the host window, a channel word. -/
abbrev Word := BitVec 32

/-- One byte of main memory. -/
abbrev Byte := BitVec 8

/-- The data of one memory word of 32 bytes (R155); also a v register (R77). -/
abbrev MemWord := BitVec 256

/-- A 72-bit accumulator (R77). -/
abbrev Acc := BitVec 72

/-- A sparse table: keys rising, an absent key stands for a default value that the reader supplies. -/
abbrev Tab (α : Type) := List (Nat × α)

end Sys2Proof
end

