-- ==== Sys2Proof/Syntax.lean ====
section
/-! DEFINITION. The commands of the AY1536: one constructor per row of the table of operations and events, with the row's
operands. What the physical world supplies (a pad level, a measured voltage, the outcome of a code check, a received
frame) is an operand of the command that meets it. -/
namespace Sys2Proof

/-- A spoke by its global number (R4). -/
abbrev SpokeId := Fin 1664
/-- A g register number (R77). -/
abbrev GReg := Fin 16
/-- An accumulator number (R77). -/
abbrev AReg := Fin 4
/-- A v register number (R77). -/
abbrev VReg := Fin 8
/-- A segment register number (R77). -/
abbrev SReg := Fin 8

/-- ALU3 FUNC 0x02 to 0x0B (R87): the three-register forms of ADD to ROT. -/
inductive Alu3Fn where
  | add | sub | and | or | xor | cmp | lsl | lsr | asr | rot
  deriving DecidableEq, Repr

/-- SHI KIND (R86). -/
inductive ShiftKind where
  | lsl | lsr | asr | rot
  deriving DecidableEq, Repr

/-- LOGI OP (R86). -/
inductive LogiOp where
  | and | or | xor | andn
  deriving DecidableEq, Repr

/-- MUL TYPE (R87). -/
inductive MulType where
  | int | inth | q31 | q15
  deriving DecidableEq, Repr

/-- MAC TYPE (R87). -/
inductive MacType where
  | q31 | q15 | int | dual
  deriving DecidableEq, Repr

/-- DIV TYPE (R87). -/
inductive DivType where
  | signed | unsigned | q31
  deriving DecidableEq, Repr

/-- ROV (R89): the rounding of one instruction. -/
inductive Rov where
  | tsw | trn | rnu | rne | rnz
  deriving DecidableEq, Repr

/-- The part of an accumulator that RDA and WRA move (R87). -/
inductive AccPart where
  | lo | hi | guard
  deriving DecidableEq, Repr

/-- The access width of a scalar load or store (R86). -/
inductive Size where
  | b1 | b2 | b4
  deriving DecidableEq, Repr

/-- The access width of a vector load or store (R86). -/
inductive VSize where
  | b8 | b16 | b32
  deriving DecidableEq, Repr

/-- The width and destination of an LDA (R86): V = 0 loads into a g register, V = 1 into a v register. -/
inductive LdaForm where
  | scalar (size : Size) (rd : GReg)
  | vectorS (size : Size) (vd : VReg)
  | vectorV (size : VSize) (vd : VReg)
  deriving DecidableEq, Repr

/-- The item that SETCTX writes (R86). -/
inductive CtxItem where
  | pc | tsw | g (r : GReg)
  deriving DecidableEq, Repr

/-- The two forms of REP's count (R95). -/
inductive RepCount where
  | imm (n : BitVec 6)
  | reg (y : GReg)
  deriving DecidableEq, Repr

/-- What the next instruction in program order is, as a branch (R69) or a REP (R70) must know it. -/
inductive NextClass where
  /-- any instruction that is none of those below -/
  | plain
  /-- a BR-class instruction -/
  | branch
  /-- IN, POST, POSTU, WAITP or LCK -/
  | chnB
  /-- a SOLO instruction other than REP, CKPT and STOP -/
  | solo
  /-- REP, CKPT or STOP -/
  | repCkptStop
  deriving DecidableEq, Repr

/-- The condition of a BR (R91). -/
inductive Cond where
  | al | eq | ne | lt | ge | le | gt | hs | lo | hi | ls | mi | pl | vs | em | ce
  deriving DecidableEq, Repr

/-- What upsets of an array make of one read of a word (R167, R168): no symbol, one, two or more in error, where the decoder at most
corrects or reports; three, or four and more, that it may take for another codeword; five and more that make one. The word it then
delivers is given. What the state itself holds of a word, its POISON among it, comes before (Machine.onRead). -/
inductive Ecc where
  | clean | corr1 | corr2 | due
  | wrong3 (d : MemWord)
  | wrong (d : MemWord)
  | miss (d : MemWord)
  deriving DecidableEq, Repr

/-- The 288 bits of a memory word (R166), as the data whose code was formed and the bits in error: data in [255:0], c0 to c3 above. -/
structure CodeWord where
  data : MemWord
  err : BitVec 288 := 0
  deriving DecidableEq, Repr

/-- Who performs a register access (R84). -/
inductive Source where
  | host | spoke (g : SpokeId) | debug
  deriving DecidableEq, Repr

/-- The outcome of a replay (R263). -/
inductive ReplayResult where
  | agree | samePoint | elsewhere
  deriving DecidableEq, Repr

/-- The outcome of a vote (R264). -/
inductive VoteResult where
  | leaderWins | followerWins | noMajority
  deriving DecidableEq, Repr

/-- The error found in a program word (R71, R257). -/
inductive ProgErr where
  | none | single | double
  deriving DecidableEq, Repr

/-- A monitored clock (R271). -/
inductive MonClock where
  | sclk | bclk | eclk | refclk | osc | quad (q : Fin 16)
  deriving DecidableEq, Repr

/-- The limit that NRG_LIMIT_WRITE writes (R247). -/
inductive NrgLimit where
  | pin | current | energy
  deriving DecidableEq, Repr

/-- The pin wait of a HOLD (R127). -/
inductive HoldKind where
  | low | high | rise | fall
  deriving DecidableEq, Repr

/-- The source of a SEND (R130). -/
inductive SendSrc where
  | cap | pins | ta | tb | stamp | full
  deriving DecidableEq, Repr

/-- The destination of a TAKE without MSG (R131). -/
inductive TakeDst where
  | emt | ta | tb | refill
  deriving DecidableEq, Repr

/-- The destination of a COPY (R132). -/
inductive CopyDst where
  | pins | dirs | ta | tb | cap | emt | pc | pause
  deriving DecidableEq, Repr

/-- The source of a COPY (R132). -/
inductive CopySrc where
  | pins | ta | tb | cap | emt | zero | ones | status | notTa | notTb | inbox | revTa
  deriving DecidableEq, Repr

/-- The destination of a PUT (R133). -/
inductive PutDst where
  | pins | dirs | ta | tb
  deriving DecidableEq, Repr

/-- The loop bit L and the seam bit S of the stored word that a context executes (R125, R137). -/
structure WordBits where
  loop : Bool
  seam : Bool
  deriving DecidableEq, Repr

/-- A pin engine context (R122). -/
structure CtxId where
  engine : Fin 64
  ctx : Fin 64
  deriving DecidableEq, Repr

/-- One read of a memory word: what the decoder of the code meets, and what the re-read meets after a first DUE (R167, R168). -/
structure ReadOutcome where
  first : Ecc
  again : Ecc
  deriving DecidableEq, Repr

/-- What the checks of a received frame find (R194, R195): nothing; CRC-32C wrong; payload blocks differ from the START length; START CRC-8
wrong, or a control block other than END inside; or no frame but a control block of a type that R194 does not list. -/
inductive FrameCheck where
  | good | badCrc | badLength | badStart | unlisted
  deriving DecidableEq, Repr

/-- The header and payload of a received Duari frame with what its checks find, and the read of its RX descriptor (R194, R195, R199). -/
structure StreamFrame where
  stream : BitVec 8
  seq : BitVec 16
  words : List MemWord
  ackWanted : Bool
  check : FrameCheck
  desc : ReadOutcome
  deriving DecidableEq, Repr

/-- What has come over a word of a cocoon copy since it was last read (R285, R286): its read gives DUE once; until it is rewritten; or even
when it has been rewritten. -/
inductive UpsetKind where
  | transient | soft | lasting
  deriving DecidableEq, Repr

/-- An upset of one word of one cocoon copy. -/
structure CocoonUpset where
  copy : Fin 3
  word : BitVec 15
  kind : UpsetKind
  deriving DecidableEq, Repr

/-- One program-address or data region of a molt (R292). -/
inductive Region where
  | core (c : Fin 48)
  | engine (e : Fin 64)
  | group (g : Fin 8) (hold : Bool)
  | axis (n : Fin 17)
  | bank (b : Fin 32)
  | system
  deriving DecidableEq, Repr

/-- The kinds of a governor exceed that arise in one bc (R249). -/
structure ExceedKinds where
  ov : Bool
  pin : Option (Fin 64)
  grp : Bool
  nrg : Bool
  deriving DecidableEq, Repr

/-- The outcomes of the reads that one access needs: the lower (or only) word and the upper word of a split (R164). -/
structure MemOutcome where
  lo : ReadOutcome
  hi : ReadOutcome
  deriving DecidableEq, Repr

/-- What the march test of a region shows (R173): it passes, passes on the repeat, or fails twice in some of the 8 sub-arrays. -/
inductive MarchResult where
  | pass | once | lasting (subs : BitVec 8)
  deriving DecidableEq, Repr

/-- A GEAR block of the partner (R194, R197). -/
structure GearBlock where
  tandem : Bool
  lo : BitVec 8
  hi : BitVec 8
  minor : BitVec 8
  caps : BitVec 8
  crcOk : Bool
  deriving DecidableEq, Repr

/-- A received IEEE 802.3 frame: its payload padded to words, its length in bytes, the FCS check, the read of its RX descriptor (R192,
R199). -/
structure EthFrame where
  words : List MemWord
  bytes : BitVec 15
  fcsOk : Bool
  desc : ReadOutcome
  deriving DecidableEq, Repr

/-- A received HEARTBEAT block (R201). -/
structure HeartbeatBlock where
  role : BitVec 8
  count : BitVec 32
  inSync : Bool
  maint : Bool
  crcOk : Bool
  deriving DecidableEq, Repr

/-- How a transfer or a measurement ends: at once, on its one repeat, or not at all (R245, R256). -/
inductive XferEnd where
  | clean | retried | failed
  deriving DecidableEq, Repr

/-- What one telemetry poll of a sequence entry returns: READ_VOUT, READ_IOUT, READ_TEMPERATURE_1, STATUS_WORD (R245). -/
structure PollResult where
  entry : Fin 32
  ends : Vector XferEnd 4
  vals : Vector (BitVec 16) 4
  deriving DecidableEq, Repr

/-- What the devices answer in a sequence step (R244, R245): to PAGE, to OPERATION, to STATUS_WORD, and the ms after which POWER_GOOD#
clears, if it does. -/
structure SeqResult where
  page : XferEnd
  op : XferEnd
  status : XferEnd
  good : Option Nat
  deriving DecidableEq, Repr

/-- What the integrator's straps of one group give (R246). -/
structure Straps where
  uo : BitVec 8
  io : BitVec 10
  po : BitVec 16
  co : BitVec 16
  deriving DecidableEq, Repr

/-- A command or event of the block. Every constructor is one row of the table; its docstring names the rule that gives
its effect. -/
inductive Instr where
  -- Cadence (R18 to R36)
  /-- the last 16 samples of the input's first and second pin, the newest in bit 0 (R19) -/
  | axisEdge (n : Fin 17) (onSecondary : Bool) (a b : BitVec 16)
  | zResync (n : Fin 17) (onSecondary : Bool)
  | rxFault (pin : Fin 512)
  | lossTimeout (n : Fin 17)
  | coastLimit (n : Fin 17)
  | axisDisagree (n : Fin 17)
  | axisEnable (n : Fin 17)
  | axisDisable (n : Fin 17)
  | comparatorFire (c : Fin 512)
  | comparatorRearm (c : Fin 512)
  | cadenceTokenDeliver (c : Fin 512)
  | engineTrigger (x : CtxId)
  | epochLineOpen (l : Fin 32)
  | cadCapture (n : Fin 17)
  | captureAll (mask : BitVec 17)
  | setPos (n : Fin 17)
  | clrDis
  | cadEvtTgtHiWrite (v : Word)
  | cadEvtCfgWrite (v : Word)
  | cadPtpRateWrite (v : Word)
  -- Spoke instructions (R85 to R119), each issued by spoke g
  | mov (g : SpokeId) (rd rs : GReg)
  | add (g : SpokeId) (rd rs : GReg)
  | sub (g : SpokeId) (rd rs : GReg)
  | andOp (g : SpokeId) (rd rs : GReg)
  | orOp (g : SpokeId) (rd rs : GReg)
  | xorOp (g : SpokeId) (rd rs : GReg)
  | cmp (g : SpokeId) (ra rb : GReg)
  | lsl (g : SpokeId) (rd rc : GReg)
  | lsr (g : SpokeId) (rd rc : GReg)
  | asr (g : SpokeId) (rd rc : GReg)
  | rot (g : SpokeId) (rd rc : GReg)
  | shi (g : SpokeId) (kind : ShiftKind) (rd ra : GReg) (count : BitVec 8)
  | alu3 (g : SpokeId) (fn : Alu3Fn) (rd ra rb : GReg)
  | andn (g : SpokeId) (rd ra rb : GReg)
  | orn (g : SpokeId) (rd ra rb : GReg)
  | min (g : SpokeId) (rd ra rb : GReg)
  | max (g : SpokeId) (rd ra rb : GReg)
  | minu (g : SpokeId) (rd ra rb : GReg)
  | maxu (g : SpokeId) (rd ra rb : GReg)
  | adc (g : SpokeId) (rd ra rb : GReg)
  | sbc (g : SpokeId) (rd ra rb : GReg)
  | addi (g : SpokeId) (rd ra : GReg) (imm : BitVec 14)
  | ldi (g : SpokeId) (rd : GReg) (imm : BitVec 14)
  | orh (g : SpokeId) (rd ra : GReg) (imm : BitVec 14)
  | cmpi (g : SpokeId) (ra : GReg) (imm : BitVec 14)
  | logi (g : SpokeId) (op : LogiOp) (rd ra : GReg) (imm : BitVec 12)
  | snb (g : SpokeId) (sd ss : SReg) (rg : GReg) (mask : BitVec 3)
  | snl (g : SpokeId) (sd ss : SReg) (rg : GReg) (mask : BitVec 3)
  | smov (g : SpokeId) (sd ss : SReg) (mask : BitVec 3)
  | srb (g : SpokeId) (rd : GReg) (ss : SReg)
  | srl (g : SpokeId) (rd : GReg) (ss : SReg)
  | srr (g : SpokeId) (rd : GReg) (ss : SReg)
  | sinv (g : SpokeId) (sd : SReg)
  | tsr (g : SpokeId) (rd : GReg)
  | tswr (g : SpokeId) (rs : GReg)
  | tswm (g : SpokeId) (dzt sat : Bool) (rnd : BitVec 2) (wDzt wSat wRnd cls : Bool)
  | mul (g : SpokeId) (ty : MulType) (rov : Rov) (rd ra rb : GReg)
  | mac (g : SpokeId) (ty : MacType) (sub : Bool) (ai : AReg) (ra rb : GReg)
  | ext (g : SpokeId) (rov : Rov) (x : GReg) (y : AReg) (sh : BitVec 4)
  | ext16 (g : SpokeId) (rov : Rov) (x : GReg) (y : AReg) (sh : BitVec 4)
  | clra (g : SpokeId) (x : AReg)
  | mova (g : SpokeId) (x : AReg) (y : GReg)
  | adda (g : SpokeId) (x y : AReg)
  | shra (g : SpokeId) (rov : Rov) (x : AReg) (sh : BitVec 4)
  | rda (g : SpokeId) (x : GReg) (y : AReg) (part : AccPart)
  | wra (g : SpokeId) (x : AReg) (y : GReg) (part : AccPart)
  | div (g : SpokeId) (ty : DivType) (rq rr ra rb : GReg)
  | vadd (g : SpokeId) (t : Bool) (vd va vb : VReg)
  | vsub (g : SpokeId) (t : Bool) (vd va vb : VReg)
  | vand (g : SpokeId) (vd va vb : VReg)
  | vor (g : SpokeId) (vd va vb : VReg)
  | vxor (g : SpokeId) (vd va vb : VReg)
  | vshl (g : SpokeId) (t : Bool) (vd va vb : VReg)
  | vshr (g : SpokeId) (t : Bool) (vd va vb : VReg)
  | vmin (g : SpokeId) (t : Bool) (vd va vb : VReg)
  | vmax (g : SpokeId) (t : Bool) (vd va vb : VReg)
  | vabs (g : SpokeId) (t : Bool) (vd va : VReg)
  | vneg (g : SpokeId) (t : Bool) (vd va : VReg)
  | vperm (g : SpokeId) (t : Bool) (vd va vb : VReg)
  | vmac (g : SpokeId) (t : Bool) (rov : Rov) (vd va vb : VReg)
  | vmsc (g : SpokeId) (t : Bool) (rov : Rov) (vd va vb : VReg)
  | vmul (g : SpokeId) (t : Bool) (rov : Rov) (vd va vb : VReg)
  | vdot (g : SpokeId) (t : Bool) (x : AReg) (va vb : VReg)
  | vins (g : SpokeId) (t : Bool) (k : BitVec 4) (x : VReg) (y : GReg)
  | vext (g : SpokeId) (t : Bool) (k : BitVec 4) (x : GReg) (y : VReg)
  | vspl (g : SpokeId) (t : Bool) (x : VReg) (y : GReg)
  | vmovv (g : SpokeId) (x y : VReg)
  | vzero (g : SpokeId) (x : VReg)
  | neg (g : SpokeId) (rd : GReg)
  | abs (g : SpokeId) (rd : GReg)
  | notOp (g : SpokeId) (rd : GReg)
  | sxb (g : SpokeId) (rd : GReg)
  | sxh (g : SpokeId) (rd : GReg)
  | zxb (g : SpokeId) (rd : GReg)
  | zxh (g : SpokeId) (rd : GReg)
  | clz (g : SpokeId) (rd : GReg)
  | cls (g : SpokeId) (rd : GReg)
  | brev (g : SpokeId) (rd : GReg)
  | bswp (g : SpokeId) (rd : GReg)
  | ld (g : SpokeId) (size : Size) (sx : Bool) (rd ro : GReg) (seg : SReg) (imm : BitVec 7)
  | st (g : SpokeId) (size : Size) (rs ro : GReg) (seg : SReg) (imm : BitVec 7) (o : MemOutcome)
  | vld (g : SpokeId) (size : VSize) (vd : VReg) (ro : GReg) (seg : SReg) (imm : BitVec 7)
  | vst (g : SpokeId) (size : VSize) (vs : VReg) (ro : GReg) (seg : SReg) (imm : BitVec 7) (o : MemOutcome)
  | ldl (g : SpokeId) (rd ro : GReg) (seg : SReg) (imm : BitVec 7)
  | stc (g : SpokeId) (rs ro rt : GReg) (seg : SReg) (imm : BitVec 7) (o : MemOutcome)
  | lda (g : SpokeId) (form : LdaForm) (ro : GReg) (seg : SReg) (imm : BitVec 7)
  | pst (g : SpokeId) (vs : VReg) (ro : GReg) (seg : SReg) (imm : BitVec 7)
  | psync (g : SpokeId)
  | inOp (g : SpokeId) (rd ri : GReg) (ch : BitVec 14)
  | out (g : SpokeId) (rs ri : GReg) (ch : BitVec 14)
  | post (g : SpokeId) (rs ri : GReg) (ch : BitVec 14)
  | postu (g : SpokeId) (rs ri : GReg) (ch : BitVec 14)
  | waitp (g : SpokeId) (rd ri : GReg) (ch : BitVec 14)
  | armp (g : SpokeId) (rd ra rb : GReg) (c : Fin 512)
  | lck (g : SpokeId) (rd ro : GReg) (seg : SReg) (imm : BitVec 11)
  | tryOp (g : SpokeId) (rd ro : GReg) (seg : SReg) (imm : BitVec 11)
  | ulk (g : SpokeId) (rd ro : GReg) (seg : SReg) (imm : BitVec 11)
  | setctx (g : SpokeId) (rd rs : GReg) (core : Fin 4) (spoke : Fin 32) (item : CtxItem)
  | setseg (g : SpokeId) (rd : GReg) (ss : SReg) (core : Fin 4) (spoke : Fin 32) (idx : SReg)
  | release (g : SpokeId) (rd : GReg) (core : Fin 4) (spoke : Fin 32)
  | stop (g : SpokeId) (self : Bool) (core : Fin 4) (spoke : Fin 32)
  | ckpt (g : SpokeId)
  | rep (g : SpokeId) (count : RepCount) (target : NextClass)
  | br (g : SpokeId) (cond : Cond) (annul : Bool) (off : BitVec 17) (slot : NextClass)
  | ja (g : SpokeId) (link : Bool) (target : BitVec 18) (slot : NextClass)
  | jr (g : SpokeId) (link : Bool) (rt : GReg) (slot : NextClass)
  | brk (g : SpokeId) (code : BitVec 8)
  | ill (g : SpokeId) (two : Bool) (cls : NextClass)
  -- Spoke events (R49 to R73, R257 to R270)
  | systemReportDeliver (cl : Fin 13)
  | loadComplete (g : SpokeId) (o : MemOutcome)
  | deferredFault (g : SpokeId)
  | inWake (g : SpokeId)
  | postWake (g : SpokeId)
  | truncatedMessageEnter (ch : BitVec 14)
  | deadlockDetected (cl : Fin 13) (grp : Fin 32)
  | programRereadComplete (g : SpokeId) (second ok : Bool)
  | programScrub (core : Fin 52) (w : Fin 49152) (err : ProgErr) (ok : Bool)
  | forcedCheckpoint (p : Fin 768)
  | pairMismatch (p : Fin 768)
  | replayEnd (p : Fin 768) (r : ReplayResult)
  | voteEnd (p : Fin 768) (r : VoteResult)
  | avlRetire (core : BitVec 6)
  | spokeWdgExpiry (g : SpokeId)
  | avlSwdgFeed (g : SpokeId)
  | clusterWdgExpiry (cl : Fin 13)
  | avlClFeed (src : Source) (cl : Fin 13)
  | recoveryComplete (cl : Fin 13)
  | blockWdgExpiry
  | avlBwdgFeed (v : BitVec 16)
  | clockFault (clk : MonClock)
  -- Memory banks (R155 to R180)
  | handoverGo (bank : Fin 32) (next : BitVec 5) (atEpoch : Bool) (line : Fin 32)
  | handoverCancel (bank : Fin 32)
  | handoverComplete (bank : Fin 32)
  | mothScrubVisit (word : Fin 2097152) (o : ReadOutcome) (after : Ecc)
  | marchRegion (region : Fin 69632) (save : List ReadOutcome) (r : MarchResult)
  | rowRemap (bank : Fin 32) (o : List ReadOutcome)
  | memCmdRow (bank : Fin 32)
  | memCmdSpare (bank : Fin 32)
  | bankSwap (o : List (Fin 65536 × ReadOutcome))
  | memCmdClr
  | remapAck
  | memHostDataRead (o : ReadOutcome)
  | memHostDataWrite (v : Word) (o : ReadOutcome)
  | penldGo (v : Word)
  | penldDone (o : List ReadOutcome)
  | memErrcntRead (bank : Fin 34)
  | memNownRead (bank : Fin 34)
  -- Lock unit (R181 to R191)
  | lockHolderLoss (who : BitVec 16)
  | penLockRequest (x : CtxId)
  | lockReplyDeliver (x : CtxId)
  | lckHostAcq
  | lckHostTry
  | lckHostRel
  | lckHostCancel
  | lckForce (index : Fin 4096)
  | lckClear (index : Fin 4096)
  -- Links and the tandem link (R192 to R203)
  | gearAnnounce (l : Fin 64) (b : GearBlock)
  | gearConfirm (l : Fin 64) (b : GearBlock)
  | gearRetry (l : Fin 64)
  | linkDown (l : Fin 64)
  | ethFrameReceived (l : Fin 64) (f : EthFrame)
  | streamFrameReceived (l : Fin 64) (f : StreamFrame)
  | ack (l : Fin 64) (stream : BitVec 8) (seq : BitVec 16)
  /-- the reads of the buffer for the resend -/
  | retry (l : Fin 64) (stream : BitVec 8) (seq : BitVec 16) (o : List ReadOutcome)
  | ackTimeout (l : Fin 64) (stream : BitVec 8) (seq : BitVec 16)
  | ringTailWrite (q : Fin 16) (v : Word)
  /-- the read of the descriptor, and those of the buffer -/
  | txFrameSend (l : Fin 64) (d : ReadOutcome) (o : List ReadOutcome)
  | strTokenDeliver (l : Fin 64) (tx : Bool)
  | heartbeat (l : Fin 64) (b : HeartbeatBlock)
  | heartbeatSend
  | peerLost
  | mirror (l : Fin 64) (f : StreamFrame)
  | mirrorSend (n : BitVec 9) (o : List ReadOutcome)
  | ckptRecord (l : Fin 64) (f : StreamFrame)
  | tndResync
  -- Fabric port (R204 to R215)
  | fabPortUp
  | fabPortDown
  | workDescriptor (d : Vector Word 32)
  | excDescriptor (d : Vector Word 32)
  /-- an inbound beat of type WRITE, or (not listed) of a type that R204 does not list -/
  | fabWrite (listed : Bool) (head : MemWord) (data : Vector CodeWord 3)
  | fabRead (head : MemWord) (o : List ReadOutcome)
  | creditReturn (rsp : Bool)
  | dispatch (cl : Fin 13) (grp : Fin 16)
  | workMessageDeliver (ch : BitVec 14)
  | resultRecord (ch : BitVec 14)
  | pelotonRelease
  | resultTimeout (entry : Fin 4096)
  | fabPortRestart
  -- Timers and performance counters (R216 to R232)
  | timerZero (n : Fin 32)
  | timerMatch (n : Fin 32)
  | tmrCapture (n : Fin 32)
  | tmrStop (n : Fin 32)
  | tmrReset (n : Fin 32)
  | tmrLoadNow (n : Fin 32)
  | tmrClamp (n : Fin 32)
  | tmrStart (n : Fin 32)
  | tmrReloadHiWrite (n : Fin 32) (v : Word)
  | tmrMatchHiWrite (n : Fin 32) (v : Word)
  | timerTokenDeliver (n : Fin 32)
  /-- the polarity of the edge, for a field pin -/
  | timerCaptureInput (n : Fin 32) (input : Fin 2) (rising : Bool)
  | tmrCapqRead (n : Fin 32)
  | pmcSnap
  | pmcFreeze
  | pmcUnfreeze
  | pmcClear
  | pmcDataLoRead (src : Source)
  -- Power and field energy (R233 to R253)
  | sag (mv : BitVec 16)
  /-- bc since VCORE passed −6 % and its filter (R237) -/
  | downshiftExit (above : Nat)
  | pwrForceDs (on : Bool)
  | sagMinRestart
  | vcoreReset (mv : BitVec 10)
  /-- VMEM, or VSD, has crossed a level and stands at this voltage (R234) -/
  | railWarn (vsd : Bool) (mv : BitVec 16)
  | tempSample (t : Vector (BitVec 12) 8)
  | avsStep (r : XferEnd)
  /-- the monitors that pass only on the repeat, and those that fail it (R240) -/
  | agingMeasure (counts : Vector (BitVec 32) 16) (again bad : BitVec 16)
  | ledgerHour
  | pmbUp
  | pmbDown
  | pmbSeqStep (r : SeqResult)
  | pmbRaw (r : XferEnd)
  | pmbRawrd (r : XferEnd) (data : BitVec 16)
  | pmbPoll (r : List PollResult)
  | vioGood (g : Fin 8) (mv : BitVec 12)
  | vioLost (g : Fin 8) (mv : BitVec 12)
  | nrgLimitWrite (g : Fin 8) (limit : NrgLimit) (v : Word)
  | governorExceed (g : Fin 8)
  | nrgMeasPeakRead (g : Fin 8) (energy : Bool)
  | pwrTempMaxRead
  -- Chrysalis mode (R144 to R154)
  | chryHold (g : Fin 8) (on entry40 : Bool)
  | chryRelease (g : Fin 8) (pinOk : Bool)
  | chryFastSelect (g : Fin 8) (fast : Bool)
  | chrysalisReturn (g : Fin 8)
  | chryHalt (g : Fin 8)
  | chryDrive (g : Fin 8) (pattern : Bool) (first last : Fin 64) (level : Bool)
  | chryFloat (g : Fin 8) (first last : Fin 64)
  | chrySample (g : Fin 8) (pin : Fin 64) (level : Bool)
  | chryWaitt (g : Fin 8) (n : BitVec 20)
  | chryWaitp (g : Fin 8) (pin : Fin 64) (level : Bool) (timeout : BitVec 11) (reads : Bool)
  | chryLoopDec (g : Fin 8) (target : BitVec 6)
  | chryLoopLoad (g : Fin 8) (v : BitVec 18)
  | chryLoopJumpF0 (g : Fin 8) (target : BitVec 6)
  | chryLoopJump (g : Fin 8) (target : BitVec 6)
  | chryShiftSend (g : Fin 8) (final : Bool) (data : BitVec 8)
  | chryShiftDummy (g : Fin 8) (final : Bool) (n : BitVec 6)
  | chryShiftStream (g : Fin 8) (final : Bool) (words : List Word)
  | chryStoreCocoon (g : Fin 8)
  | chryStoreResult (g : Fin 8)
  | chryStoreAddr (g : Fin 8)
  | chryCmp (g : Fin 8) (levels : BitVec 64)
  -- Pin engines (R120 to R143)
  | hold (x : CtxId) (b : WordBits) (stretch : BitVec 3) (kind : HoldKind) (off : BitVec 3) (level : Bool)
  | auxNop (x : CtxId) (b : WordBits) (stretch : BitVec 3)
  | auxTriggerWait (x : CtxId) (b : WordBits) (stretch : BitVec 3)
  | auxInboxWait (x : CtxId) (b : WordBits) (stretch : BitVec 3)
  | auxOutboxWait (x : CtxId) (b : WordBits) (stretch : BitVec 3)
  | auxShift0 (x : CtxId) (b : WordBits) (stretch : BitVec 3)
  | auxShift1 (x : CtxId) (b : WordBits) (stretch : BitVec 3)
  | auxShiftTa (x : CtxId) (b : WordBits) (stretch : BitVec 3)
  | auxShiftTb (x : CtxId) (b : WordBits) (stretch : BitVec 3)
  | auxEmitDiscard (x : CtxId) (b : WordBits) (stretch : BitVec 3)
  | auxEmitTa (x : CtxId) (b : WordBits) (stretch : BitVec 3)
  | auxEmitTb (x : CtxId) (b : WordBits) (stretch : BitVec 3)
  | samp (x : CtxId) (b : WordBits) (stretch : BitVec 3) (off : BitVec 5) (level : Bool)
  | emit (x : CtxId) (b : WordBits) (stretch : BitVec 3) (off : BitVec 5)
  | send (x : CtxId) (b : WordBits) (stretch : BitVec 3) (final blk : Bool) (src : SendSrc) (pins : BitVec 64)
  | take (x : CtxId) (b : WordBits) (stretch : BitVec 3) (blk : Bool) (dst : TakeDst)
  | takeMsg (x : CtxId) (b : WordBits) (stretch : BitVec 3) (blk : Bool)
  | copy (x : CtxId) (b : WordBits) (dst : CopyDst) (src : CopySrc) (pins : BitVec 64)
  | put (x : CtxId) (b : WordBits) (dst : PutDst) (imm : BitVec 6)
  | bAl (x : CtxId) (b : WordBits) (target : BitVec 8)
  | bLa (x : CtxId) (b : WordBits) (target : BitVec 8)
  | bLb (x : CtxId) (b : WordBits) (target : BitVec 8)
  | bZa (x : CtxId) (b : WordBits) (target : BitVec 8)
  | bEq (x : CtxId) (b : WordBits) (target : BitVec 8)
  | bPh (x : CtxId) (b : WordBits) (target : BitVec 8) (level : Bool)
  | bEe (x : CtxId) (b : WordBits) (target : BitVec 8)
  | bIb (x : CtxId) (b : WordBits) (target : BitVec 8)
  | wake (x : CtxId) (before pins later : BitVec 64)
  | inboxFill (x : CtxId)
  | outboxSend (x : CtxId)
  | engineStoreReread (x : CtxId) (ok : Bool)
  | engineStoreScrub (e : Fin 64) (bank : Bool) (word : Fin 256) (parityBad ok : Bool)
  | bankSwitch (e : Fin 64)
  | penSwitchAll (groups : BitVec 8)
  | forceSwitch (e : Fin 64)
  | penPwDataWrite (e : Fin 64) (v : Word)
  | penCtxWrite (e : Fin 64) (v : Word)
  | readbackMismatch (pin : Fin 512) (again : Bool)
  | penRbCountRead
  -- The bitstream and molt (R276 to R298)
  | cfgLoad (o : List ReadOutcome)
  | bootImageCheck
  | imageApplied (u : List CocoonUpset)
  | cfgCommit (o : List ReadOutcome)
  | autoCommit
  | blockRelease
  | cfgStage (o : List ReadOutcome)
  | moltStaged
  | cfgArm
  | cfgAbort
  | regionEnd (r : Region)
  | moltDone
  | cfgResolve
  | cfgScan
  | cocoonScan (u : List CocoonUpset)
  | recheckPass
  | cfgEpochOpen (lines : BitVec 32)
  | cocDataRead (u : List CocoonUpset)
  -- Host port, mailbox, registers (R299 to R315)
  | registerWrite (src : Source) (off : BitVec 18) (v : Word)
  | mbxTxData (slot : Fin 8) (v : Word)
  | mbxTxLast (slot : Fin 8) (v : Word)
  | mbxPendingEnter (slot : Fin 8)
  | mbxRxData (slot : Fin 8)
  | blkGearsPin (pin : BitVec 8)
  | blkRstCmd (v : Word)
  | blkBcLoRead (src : Source)
  | pmwRead (src : Source) (off : BitVec 16) (o : ReadOutcome)
  | strCntDataRead (q : Fin 16)
  | avlPairCntRead
  | avlTkovTake
  | avlTkovYield
  | takeRequestReceived
  | yieldConfirmReceived
  -- Debug wire (R316 to R339)
  | drwId (crcOk : Bool) (reserved : Bool)
  | drwRd (crcOk : Bool) (addr : Word) (o : ReadOutcome)
  | drwRdc (crcOk : Bool) (addr : Word) (o : ReadOutcome)
  | drwWr (crcOk : Bool) (addr data : Word) (o : ReadOutcome)
  | drwReset
  | dbgRstKeyWrite (v : BitVec 16)
  | sessionTimeout
  | vdbgLoss
  | authNew
  | authCheck (level : BitVec 2)
  | authDrop
  | dbgHalt
  | dbgRelease
  | dbgRun
  | dbgStep
  | dbgKill
  | dbgRunPcWrite (v : Word)
  | dbgInsn (v : BitVec 28)
  | dbgTermTx (v : BitVec 17)
  | dbgTermRx
  | freezeRequest (on : Bool)
  | dbgErrsRead
  -- Start-up and reset (R340 to R351)
  | powerOnReset (straps : Vector Straps 8) (vio : BitVec 8)
  | vmemPowerUp
  | coreResetRelease
  | memoryInitDone
  | vdbgPowerGood
  | linkUp (l : Fin 64)
  | vioBelowOvLevel (g : Fin 8)
  | vmemResetLevel
  | deviceLoadComplete (g : SpokeId)
  | engineIllegalWord (x : CtxId)
  | sequencerIllegalWord (g : Fin 8)
  deriving DecidableEq, Repr

end Sys2Proof
end

