-- ==== Sys2Proof/Decode.lean ====
section
/-! DEFINITION. The decoder of the table's words, and of the instruction parcels that the debugger feeds. -/
namespace Sys2Proof

/-- The command that a word of the table spells. No row of spec/opcode_table.json gives bits, so none is spelt. -/
def decodeTableWord (_nbits _w : Nat) : Option Instr := none

/-! ## Parcels (R75, R85 to R87, R95): what a fed instruction is (R331) -/

/-- A clean read of every word. -/
def cleanOutcome : MemOutcome := ⟨⟨.clean, .clean⟩, ⟨.clean, .clean⟩⟩

/-- n bits of a parcel from bit lo, as a number. -/
def pbits (p : BitVec 14) (lo n : Nat) : Nat := (p.toNat >>> lo) % 2 ^ n

/-- A g register field. -/
def gOf (n : Nat) : GReg := Fin.ofNat 16 n
/-- A v register field of four bits, whose high bit must be zero (R75). -/
def vOf (n : Nat) : Option VReg := if n < 8 then some (Fin.ofNat 8 n) else none
/-- An s register field of four bits. -/
def sOf (n : Nat) : Option SReg := if n < 8 then some (Fin.ofNat 8 n) else none
/-- An a register field of four bits. -/
def aOf (n : Nat) : Option AReg := if n < 4 then some (Fin.ofNat 4 n) else none

/-- ROV (R89). -/
def rovOf (n : Nat) : Option Rov :=
  match n with
  | 0 => some .tsw
  | 4 => some .trn
  | 5 => some .rnu
  | 6 => some .rne
  | 7 => some .rnz
  | _ => none

/-- SIZE of a scalar access (R86). -/
def sizeOf86 (n : Nat) : Option Size :=
  match n with
  | 0 => some .b1
  | 1 => some .b2
  | 2 => some .b4
  | _ => none

/-- SIZE of a vector access (R86). -/
def vsizeOf86 (n : Nat) : Option VSize :=
  match n with
  | 3 => some .b8
  | 4 => some .b16
  | 5 => some .b32
  | _ => none

/-- The condition of a BR (R91). -/
def condOf (n : Nat) : Cond :=
  match n with
  | 0 => .al | 1 => .eq | 2 => .ne | 3 => .lt | 4 => .ge | 5 => .le | 6 => .gt | 7 => .hs
  | 8 => .lo | 9 => .hi | 10 => .ls | 11 => .mi | 12 => .pl | 13 => .vs | 14 => .em | _ => .ce

/-- Fields that must be zero are zero. -/
def zeros (ok : Bool) (i : Instr) : Option Instr := if ok then some i else none

/-- ALU3 (R87). -/
def decodeAlu3 (g : SpokeId) (rd ra rb : GReg) (f : Nat) : Option Instr :=
  match f with
  | 0x02 => some (.alu3 g .add rd ra rb)
  | 0x03 => some (.alu3 g .sub rd ra rb)
  | 0x04 => some (.alu3 g .and rd ra rb)
  | 0x05 => some (.alu3 g .or rd ra rb)
  | 0x06 => some (.alu3 g .xor rd ra rb)
  | 0x07 => some (.alu3 g .cmp rd ra rb)
  | 0x08 => some (.alu3 g .lsl rd ra rb)
  | 0x09 => some (.alu3 g .lsr rd ra rb)
  | 0x0A => some (.alu3 g .asr rd ra rb)
  | 0x0B => some (.alu3 g .rot rd ra rb)
  | 0x20 => some (.andn g rd ra rb)
  | 0x21 => some (.orn g rd ra rb)
  | 0x22 => some (.min g rd ra rb)
  | 0x23 => some (.max g rd ra rb)
  | 0x24 => some (.minu g rd ra rb)
  | 0x25 => some (.maxu g rd ra rb)
  | 0x26 => some (.adc g rd ra rb)
  | 0x27 => some (.sbc g rd ra rb)
  | _ => none

/-- UNA (R87). -/
def decodeUna (g : SpokeId) (rd : GReg) (f : Nat) : Option Instr :=
  match f with
  | 0 => some (.neg g rd)
  | 1 => some (.abs g rd)
  | 2 => some (.notOp g rd)
  | 3 => some (.sxb g rd)
  | 4 => some (.sxh g rd)
  | 5 => some (.zxb g rd)
  | 6 => some (.zxh g rd)
  | 7 => some (.clz g rd)
  | 8 => some (.cls g rd)
  | 9 => some (.brev g rd)
  | 10 => some (.bswp g rd)
  | _ => none

/-- SEG (R82). A field that names no s register is illegal, SINV’s ss too (R96; log entry 88). -/
def decodeSeg (g : SpokeId) (x y : Nat) (p2 : BitVec 14) : Option Instr := do
  let ss ← sOf y
  let sd ← sOf x
  let r := gOf (pbits p2 10 4)
  let m := BitVec.ofNat 3 (pbits p2 0 3)
  if pbits p2 3 3 ≠ 0 then none
  else match pbits p2 6 4 with
    | 0 => some (.snb g sd ss r m)
    | 1 => some (.snl g sd ss r m)
    | 2 => some (.smov g sd ss m)
    | 3 => zeros (x == 0) (.srb g r ss)
    | 4 => zeros (x == 0) (.srl g r ss)
    | 5 => zeros (x == 0) (.srr g r ss)
    | 6 => some (.sinv g sd)
    | _ => none

/-- ACC (R87). -/
def decodeAcc (g : SpokeId) (x y : Nat) (p2 : BitVec 14) : Option Instr := do
  let sh := BitVec.ofNat 4 (pbits p2 10 4)
  let rov ← rovOf (pbits p2 7 3)
  let part : Option AccPart := match pbits p2 10 4 with | 0 => some .lo | 1 => some .hi | 2 => some .guard | _ => none
  if pbits p2 6 1 ≠ 0 then none
  else match pbits p2 0 6 with
    | 0 => (aOf y).map fun a => .ext g rov (gOf x) a sh
    | 1 => (aOf y).map fun a => .ext16 g rov (gOf x) a sh
    | 2 => (aOf x).map fun a => .clra g a
    | 3 => (aOf x).map fun a => .mova g a (gOf y)
    | 4 => (aOf x).bind fun a => (aOf y).map fun b => .adda g a b
    | 5 => (aOf x).map fun a => .shra g rov a sh
    | 6 => (aOf y).bind fun a => part.map fun q => .rda g (gOf x) a q
    | 7 => (aOf x).bind fun a => part.map fun q => .wra g a (gOf y) q
    | _ => none

/-- VOP (R87). -/
def decodeVop (g : SpokeId) (x y : Nat) (p2 : BitVec 14) : Option Instr := do
  let vd ← vOf x
  let va ← vOf y
  let vb : VReg := Fin.ofNat 8 (pbits p2 10 3)
  let t := p2.getLsbD 9
  let _ ← rovOf (pbits p2 6 3)
  if p2.getLsbD 13 then none
  else match pbits p2 0 6 with
    | 0 => some (.vadd g t vd va vb)
    | 1 => some (.vsub g t vd va vb)
    | 2 => some (.vand g vd va vb)
    | 3 => some (.vor g vd va vb)
    | 4 => some (.vxor g vd va vb)
    | 5 => some (.vshl g t vd va vb)
    | 6 => some (.vshr g t vd va vb)
    | 7 => some (.vmin g t vd va vb)
    | 8 => some (.vmax g t vd va vb)
    | 9 => zeros (vb == 0) (.vabs g t vd va)
    | 10 => zeros (vb == 0) (.vneg g t vd va)
    | 11 => some (.vperm g t vd va vb)
    | _ => none

/-- VMAC (R87). -/
def decodeVmac (g : SpokeId) (x y : Nat) (p2 : BitVec 14) : Option Instr := do
  let va ← vOf y
  let vb : VReg := Fin.ofNat 8 (pbits p2 10 3)
  let t := p2.getLsbD 9
  let rov ← rovOf (pbits p2 6 3)
  if p2.getLsbD 13 then none
  else match pbits p2 0 6 with
    | 0 => (vOf x).map fun v => .vmac g t rov v va vb
    | 1 => (vOf x).map fun v => .vmsc g t rov v va vb
    | 2 => (vOf x).map fun v => .vmul g t rov v va vb
    | 3 => (aOf x).map fun a => .vdot g t a va vb
    | _ => none

/-- VMOV (R87). -/
def decodeVmov (g : SpokeId) (x y : Nat) (p2 : BitVec 14) : Option Instr :=
  let k := BitVec.ofNat 4 (pbits p2 10 4)
  let t := p2.getLsbD 9
  if pbits p2 6 3 ≠ 0 ∨ (t ∧ 8 ≤ k.toNat) then none
  else match pbits p2 0 6 with
    | 0 => (vOf x).map fun v => .vins g t k v (gOf y)
    | 1 => (vOf y).map fun v => .vext g t k (gOf x) v
    | 2 => (vOf x).map fun v => .vspl g t v (gOf y)
    | 3 => (vOf x).bind fun v => (vOf y).map fun w => .vmovv g v w
    | 4 => (vOf x).map fun v => .vzero g v
    | _ => none

/-- LD, ST, VLD, VST, LDA (R86). -/
def decodeMem (g : SpokeId) (op x y : Nat) (p2 : BitVec 14) : Option Instr :=
  let seg : SReg := Fin.ofNat 8 (pbits p2 11 3)
  let n := pbits p2 8 3
  let b := p2.getLsbD 7
  let imm := BitVec.ofNat 7 (pbits p2 0 7)
  match op with
  | 0x20 => (sizeOf86 n).map fun z => .ld g z b (gOf x) (gOf y) seg imm
  | 0x21 => (sizeOf86 n).bind fun z => zeros (!b) (.st g z (gOf x) (gOf y) seg imm cleanOutcome)
  | 0x22 => (vOf x).bind fun v => (vsizeOf86 n).bind fun z => zeros (!b) (.vld g z v (gOf y) seg imm)
  | 0x23 => (vOf x).bind fun v => (vsizeOf86 n).bind fun z => zeros (!b) (.vst g z v (gOf y) seg imm cleanOutcome)
  | _ =>
    if ¬ b then (sizeOf86 n).map fun z => .lda g (.scalar z (gOf x)) (gOf y) seg imm
    else match vOf x, sizeOf86 n, vsizeOf86 n with
      | some v, some z, _ => some (.lda g (.vectorS z v) (gOf y) seg imm)
      | some v, none, some z => some (.lda g (.vectorV z v) (gOf y) seg imm)
      | _, _, _ => none

/-- Two-parcel opcodes from SHI to VMOV and the memory, channel and lock opcodes (R85, R86); none for an illegal encoding. -/
def decodeTwo (g : SpokeId) (op x y : Nat) (p2 : BitVec 14) : Option Instr :=
  let rb := gOf (pbits p2 10 4)
  let seg : SReg := Fin.ofNat 8 (pbits p2 11 3)
  let imm11 := BitVec.ofNat 11 (pbits p2 0 11)
  let imm7 := BitVec.ofNat 7 (pbits p2 0 7)
  match op with
  | 0x0C =>
    let k : ShiftKind := match pbits p2 12 2 with | 0 => .lsl | 1 => .lsr | 2 => .asr | _ => .rot
    zeros (pbits p2 8 4 == 0) (.shi g k (gOf x) (gOf y) (BitVec.ofNat 8 (pbits p2 0 8)))
  | 0x0D => if pbits p2 6 4 = 0 then decodeAlu3 g (gOf x) (gOf y) rb (pbits p2 0 6) else none
  | 0x0E => some (.addi g (gOf x) (gOf y) p2)
  | 0x0F => zeros (y == 0) (.ldi g (gOf x) p2)
  | 0x10 => some (.orh g (gOf x) (gOf y) p2)
  | 0x11 => zeros (x == 0) (.cmpi g (gOf y) p2)
  | 0x12 =>
    let o : LogiOp := match pbits p2 12 2 with | 0 => .and | 1 => .or | 2 => .xor | _ => .andn
    some (.logi g o (gOf x) (gOf y) (BitVec.ofNat 12 (pbits p2 0 12)))
  | 0x13 => decodeSeg g x y p2
  | 0x16 =>
    zeros (x == 0 && y == 0 && pbits p2 12 2 == 0 && pbits p2 0 4 == 0)
      (.tswm g (p2.getLsbD 11) (p2.getLsbD 10) (BitVec.ofNat 2 (pbits p2 8 2)) (p2.getLsbD 7) (p2.getLsbD 6) (p2.getLsbD 5)
        (p2.getLsbD 4))
  | 0x17 =>
    let ty : MulType := match pbits p2 0 2 with | 0 => .int | 1 => .inth | 2 => .q31 | _ => .q15
    (rovOf (pbits p2 7 3)).bind fun rov => zeros (pbits p2 2 5 == 0) (.mul g ty rov (gOf x) (gOf y) rb)
  | 0x18 =>
    let ty : MacType := match pbits p2 0 2 with | 0 => .q31 | 1 => .q15 | 2 => .int | _ => .dual
    (aOf x).bind fun a => zeros (pbits p2 3 7 == 0) (.mac g ty (p2.getLsbD 2) a (gOf y) rb)
  | 0x19 => decodeAcc g x y p2
  | 0x1A =>
    let ty : Option DivType := match pbits p2 0 2 with | 0 => some .signed | 1 => some .unsigned | 2 => some .q31 | _ => none
    ty.bind fun ty => zeros (pbits p2 2 4 == 0 && pbits p2 6 4 != x) (.div g ty (gOf x) (gOf (pbits p2 6 4)) (gOf y) rb)
  | 0x1B => decodeVop g x y p2
  | 0x1C => decodeVmac g x y p2
  | 0x1D => decodeVmov g x y p2
  | 0x20 | 0x21 | 0x22 | 0x23 | 0x26 => decodeMem g op x y p2
  | 0x24 => zeros (pbits p2 7 4 == 0) (.ldl g (gOf x) (gOf y) seg imm7)
  | 0x25 => some (.stc g (gOf x) (gOf y) (gOf (pbits p2 7 4)) seg imm7 cleanOutcome)
  | 0x27 => (vOf x).bind fun v => zeros (pbits p2 7 4 == 0) (.pst g v (gOf y) seg imm7)
  | 0x29 => some (.inOp g (gOf x) (gOf y) p2)
  | 0x2A => some (.out g (gOf x) (gOf y) p2)
  | 0x2B => some (.post g (gOf x) (gOf y) p2)
  | 0x2C => some (.postu g (gOf x) (gOf y) p2)
  | 0x2D => some (.waitp g (gOf x) (gOf y) p2)
  | 0x2E => zeros (!p2.getLsbD 9) (.armp g (gOf x) (gOf y) rb (Fin.ofNat 512 (pbits p2 0 9)))
  | 0x2F => some (.lck g (gOf x) (gOf y) seg imm11)
  | 0x30 => some (.tryOp g (gOf x) (gOf y) seg imm11)
  | 0x31 => some (.ulk g (gOf x) (gOf y) seg imm11)
  | _ => none

/-- The system and branch opcodes (R85, R86, R95). What follows a REP or a branch is not fed, so the class of the next instruction is
given as plain. -/
def decodeSys (g : SpokeId) (op x y : Nat) (p2 : BitVec 14) : Option Instr :=
  let core : Fin 4 := Fin.ofNat 4 (pbits p2 12 2)
  let spoke : Fin 32 := Fin.ofNat 32 (pbits p2 7 5)
  match op with
  | 0x32 =>
    let item : Option CtxItem :=
      if pbits p2 0 5 = 1 then some .pc else if pbits p2 0 5 = 2 then some .tsw
      else if 16 ≤ pbits p2 0 5 then some (.g (gOf (pbits p2 0 5 - 16))) else none
    item.bind fun i => zeros (pbits p2 5 2 == 0) (.setctx g (gOf x) (gOf y) core spoke i)
  | 0x33 => (sOf y).bind fun ss => zeros (pbits p2 3 4 == 0) (.setseg g (gOf x) ss core spoke (Fin.ofNat 8 (pbits p2 0 3)))
  | 0x34 => zeros (y == 0 && pbits p2 0 7 == 0) (.release g (gOf x) core spoke)
  | 0x35 =>
    zeros (x == 0 && y == 0 && pbits p2 1 6 == 0 && !(p2.getLsbD 0 && pbits p2 7 7 != 0)) (.stop g (p2.getLsbD 0) core spoke)
  | 0x36 => zeros (x == 0 && y == 0) (.ckpt g)
  | 0x37 =>
    if x / 8 = 1 then zeros (x / 4 % 2 == 0) (.rep g (.imm (BitVec.ofNat 6 (16 * (x % 4) + y))) .plain)
    else zeros (x == 0) (.rep g (.reg (gOf y)) .plain)
  | 0x38 => some (.br g (condOf x) (decide (8 ≤ y)) (BitVec.ofNat 17 (16384 * (y % 8) + p2.toNat)) .plain)
  | 0x39 => zeros (decide (x < 2)) (.ja g (x == 1) (BitVec.ofNat 18 (16384 * y + p2.toNat)) .plain)
  | 0x3A => zeros (decide (x < 2)) (.jr g (x == 1) (gOf y) .plain)
  | 0x3B => some (.brk g (BitVec.ofNat 8 (16 * x + y)))
  | _ => none

/-- One-parcel opcodes (R85). -/
def decodeOne (g : SpokeId) (op x y : Nat) : Option Instr :=
  match op with
  | 0x01 => some (.mov g (gOf x) (gOf y))
  | 0x02 => some (.add g (gOf x) (gOf y))
  | 0x03 => some (.sub g (gOf x) (gOf y))
  | 0x04 => some (.andOp g (gOf x) (gOf y))
  | 0x05 => some (.orOp g (gOf x) (gOf y))
  | 0x06 => some (.xorOp g (gOf x) (gOf y))
  | 0x07 => some (.cmp g (gOf x) (gOf y))
  | 0x08 => some (.lsl g (gOf x) (gOf y))
  | 0x09 => some (.lsr g (gOf x) (gOf y))
  | 0x0A => some (.asr g (gOf x) (gOf y))
  | 0x0B => some (.rot g (gOf x) (gOf y))
  | 0x14 => zeros (y == 0) (.tsr g (gOf x))
  | 0x15 => zeros (x == 0) (.tswr g (gOf y))
  | 0x1E => decodeUna g (gOf x) y
  | 0x28 => zeros (x == 0 && y == 0) (.psync g)
  | _ => none

/-- The opcode has two parcels (R85). -/
def twoParcels (op : Nat) : Bool :=
  (0x0C ≤ op && op ≤ 0x13) || (0x16 ≤ op && op ≤ 0x1D) || (0x20 ≤ op && op ≤ 0x27) || (0x29 ≤ op && op ≤ 0x35) || op == 0x38 || op == 0x39

/-- The class of an opcode, as a branch or a REP before it must know it (R63, R85). -/
def opClass (op : Nat) : NextClass :=
  if op = 0x38 ∨ op = 0x39 ∨ op = 0x3A then .branch
  else if op = 0x29 ∨ op = 0x2B ∨ op = 0x2C ∨ op = 0x2D ∨ op = 0x2F then .chnB
  else if op = 0x35 ∨ op = 0x36 ∨ op = 0x37 then .repCkptStop
  else if op = 0x00 ∨ op = 0x15 ∨ op = 0x16 ∨ op = 0x1F ∨ op = 0x27 ∨ op = 0x28 ∨ op = 0x32 ∨ op = 0x33 ∨ op = 0x34 ∨ 0x3B ≤ op then .solo
  else .plain

/-- The instruction that two parcels spell for a spoke; an illegal encoding is ILL (R75, R85, R96). -/
def decodeParcels (g : SpokeId) (p1 p2 : BitVec 14) : Instr :=
  let op := pbits p1 8 6
  let x := pbits p1 4 4
  let y := pbits p1 0 4
  (((decodeOne g op x y).orElse fun _ => decodeTwo g op x y p2).orElse fun _ => decodeSys g op x y p2).getD (.ill g (twoParcels op) (opClass op))

end Sys2Proof
end

