-- ==== Sys2Proof/Config.lean ====
section
/-! DEFINITION. What the manual leaves to the licensee, to a physical source or to a named standard: constants without a body. -/
namespace Sys2Proof.Config

/-- R323: the entropy source; the n-th challenge drawn is any 128-bit value. -/
opaque entropy : Nat → BitVec 128

/-- R165: whether the upper half of a split load sees a write accepted between its halves; the n-th such race. -/
opaque tears : Nat → Bool

/-- R262, R272: the CRC-32C signature of a checkpoint, whose byte layout the manual does not give: of the record's words 1 to 14
and the count of effects. -/
opaque ckptSignature : List MemWord → Nat → Word

/-- R281, R297: SHA-384 of a byte string (FIPS 180-4), as a 384-bit value. -/
opaque sha384 : List Byte → BitVec 384

/-- R281: FIPS 186-5 P-384 verification of a digest by a 97-byte public key and the 48-byte r and s. -/
opaque p384Verify : List Byte → BitVec 384 → List Byte → List Byte → Bool

/-- R323: HMAC-SHA-384 under a 256-bit key. -/
opaque hmacSha384 : BitVec 256 → List Byte → BitVec 384

/-- R281: the four key-hash slots of the OTP store: none where unprogrammed. -/
opaque otpKeyHash : Fin 4 → Option (BitVec 384)

/-- R281: the revoke bit of each slot. -/
opaque otpRevoked : Fin 4 → Bool

/-- R282: the OTP minimum generation. -/
opaque otpMinGen : Word

/-- R323: the debug key of the OTP store, none where unprogrammed. -/
opaque otpDebugKey : Option (BitVec 256)

/-- R248, R252: what is sensed: the n-th sample of a rail's voltage in mV, of the current that a pad would draw, in 0.25 mA. -/
opaque railVoltage : Nat → Nat → BitVec 16
opaque padCurrent : Nat → Nat → BitVec 8

/-- R240: a monitor's margin where the manual states none: a reference of 0, or a result outside the field. -/
opaque ageMargin : Word → Word → BitVec 16

/-- R234: bc until the regulator reports the n-th new set point reached. -/
opaque avsReached : Nat → Nat

/-- R290: the CRC-32C over the locked set, whose order and byte layout the manual does not give. -/
opaque lockCrc : List (Nat × Word) → Word

/-- R282: the section index and byte offset that RULE or STRAPS records where the failing rule joins several records: of the
image. -/
opaque ruleRecord : List (Nat × MemWord) → BitVec 16 × BitVec 20

/-- R256, R282: µs that the n-th check or apply took. -/
opaque loadTime : Nat → BitVec 16

/-- R154: the n-th look at a pin that a mismatch latched, on a RELEASE that comes through REGISTER_WRITE: it reads its level. -/
opaque pinReads : Nat → Bool

/-- R144: what a sequencer reads past word 47, where the store has no word: by PC. -/
opaque chryBeyond : BitVec 6 → BitVec 24

/-- R166: the check bytes c0 to c3 of 256 data bits (the generator of the code is not given). -/
opaque rsCheck : MemWord → BitVec 32

/-- R177: what a read of the remap log takes of an entry on which no two copies agree. -/
opaque remapSplit : BitVec 64 → BitVec 64 → BitVec 64 → BitVec 64

/-- R202: what a resync sends of a word whose read fails: by word. -/
opaque resyncLost : Nat → MemWord

/-- R194, R198: the completion status of a TX descriptor whose length no START can carry, by length in bytes. -/
opaque txLength : Nat → BitVec 4

/-- R215: the sc of the n-th bc with no WORK credit outside in which a WORK descriptor waits for one, 0 to 2. -/
opaque workWaits : Nat → Fin 3

/-- R290: what CFG_RECHECK_LAST shows of a restored chrysalis word, which has no host offset. -/
opaque chryRecheck : Nat → BitVec 18

/-- R201: the payload word of a CONTROL frame: a take request, a takeover request, a yield confirmation. -/
opaque controlWord : Fin 3 → MemWord

/-- R55, R273: the stop cause of mirrored pairs that the n-th yield stops, among the five. -/
opaque yieldCause : Nat → Fin 5

/-- R76: the check bits of a program word (the SEC-DED code's layout is not given). -/
opaque progCheck : BitVec 56 → BitVec 8

end Sys2Proof.Config
end

