-- ==== Sys2Proof/Machine/Flags.lean ====
section
/-! DEFINITION. Fixed-point results and flags (R88, R99 to R115): every result is formed exactly as an integer and then narrowed. -/
namespace Sys2Proof.Machine

/-! ## TSW (R78) -/

/-- TSW with Z, N and V of a result, C kept. -/
def tswZNV (t : Word) (z n v : Bool) : Word :=
  (t &&& ~~~(0xB : Word)) ||| (if z then 1 else 0) ||| (if n then 2 else 0) ||| (if v then 8 else 0)

/-- TSW with C. -/
def tswC (t : Word) (c : Bool) : Word := (t &&& ~~~(0x4 : Word)) ||| (if c then 4 else 0)

/-- TSW with SV set where the flag holds (sticky, R115). -/
def tswSV (t : Word) (sv : Bool) : Word := if sv then t ||| 0x10 else t

/-- TSW with DZ set (R109). -/
def tswDZ (t : Word) : Word := t ||| 0x20

/-- TSW with EOM and CHE of a word read (R51). -/
def tswRead (t : Word) (eom che : Bool) : Word :=
  (t &&& ~~~(0xC0 : Word)) ||| (if eom then 0x40 else 0) ||| (if che then 0x80 else 0)

/-- TSW.C. -/
def flagC (t : Word) : Bool := t.getLsbD 2
/-- TSW.Z. -/
def flagZ (t : Word) : Bool := t.getLsbD 0
/-- TSW.N. -/
def flagN (t : Word) : Bool := t.getLsbD 1
/-- TSW.V. -/
def flagV (t : Word) : Bool := t.getLsbD 3
/-- TSW.EOM. -/
def flagEOM (t : Word) : Bool := t.getLsbD 6
/-- TSW.CHE. -/
def flagCHE (t : Word) : Bool := t.getLsbD 7
/-- TSW.SAT. -/
def modeSAT (t : Word) : Bool := t.getLsbD 10
/-- TSW.DZT. -/
def modeDZT (t : Word) : Bool := t.getLsbD 11
/-- TSW.REPN (R78). -/
def repn (t : Word) : Nat := (t.extractLsb' 16 7).toNat
/-- TSW with REPN. -/
def setRepn (t : Word) (n : Nat) : Word := (t &&& ~~~(0x007F0000 : Word)) ||| (BitVec.ofNat 32 (n % 128) <<< 16)

/-! ## Rounding and overflow -/

/-- A rounding mode (R101), coded as TSW.RND. -/
inductive Rnd where
  | trn | rnu | rne | rnz
  deriving DecidableEq, Repr

/-- The rounding mode of an instruction: ROV, or TSW.RND (R89). -/
def rounding (t : Word) : Rov → Rnd
  | .trn => .trn
  | .rnu => .rnu
  | .rne => .rne
  | .rnz => .rnz
  | .tsw =>
    match t.getLsbD 9, t.getLsbD 8 with
    | false, false => .trn
    | false, true => .rnu
    | true, false => .rne
    | true, true => .rnz

/-- X / 2^k rounded (R101). -/
def roundTo (m : Rnd) (k : Nat) (x : Int) : Int :=
  let b : Int := 2 ^ k
  match m with
  | .trn => x.fdiv b
  | .rnu => (2 * x + b).fdiv (2 * b)
  | .rne =>
    let q := x.fdiv b
    let r := x - q * b
    if 2 * r < b then q else if 2 * r > b then q + 1 else if q % 2 = 0 then q else q + 1
  | .rnz => x.tdiv b

/-- The exact value lies outside a signed format of w bits (R100). -/
def overflows (w : Nat) (x : Int) : Bool := x < -(2 ^ (w - 1)) || x ≥ 2 ^ (w - 1)

/-- The nearest end of the signed range of w bits, or the value itself (R100). -/
def clampS (w : Nat) (x : Int) : Int :=
  if x < -(2 ^ (w - 1)) then -(2 ^ (w - 1)) else if x ≥ 2 ^ (w - 1) then 2 ^ (w - 1) - 1 else x

/-- The stored value of an instruction that follows TSW.SAT (R100). -/
def storeSat (sat : Bool) (w : Nat) (x : Int) : BitVec w :=
  if sat then BitVec.ofInt w (clampS w x) else BitVec.ofInt w x

/-- A scalar result: the stored word, whether V is set, whether SV is set. -/
structure Scalar where
  val : Word
  v : Bool
  sv : Bool
  deriving DecidableEq, Repr

/-- Storing an exact value in a g register under TSW.SAT (R100). -/
def scalarOf (t : Word) (x : Int) : Scalar :=
  ⟨storeSat (modeSAT t) 32 x, overflows 32 x, overflows 32 x && modeSAT t⟩

/-- TSW after a result that writes Z, N, V and SV (R88). -/
def flagsOf (t : Word) (r : Scalar) : Word := tswSV (tswZNV t (r.val == 0) r.val.msb r.v) r.sv

/-- TSW after a logic result: Z and N from it, V cleared, C kept (R88). -/
def flagsLogic (t : Word) (r : Word) : Word := tswZNV t (r == 0) r.msb false

/-- A register result with TSW. -/
abbrev RF := Word × Word

/-- Addition with a carry in: ADD, ADDI, ADC (R102). -/
def addFlags (t a b : Word) (cin : Bool) : RF :=
  let r := scalarOf t (a.toInt + b.toInt + (if cin then 1 else 0))
  (r.val, tswC (flagsOf t r) (decide (a.toNat + b.toNat + (if cin then 1 else 0) ≥ 2 ^ 32)))

/-- Subtraction with a borrow in: SUB, SBC (R102). -/
def subFlags (t a b : Word) (bin : Bool) : RF :=
  let r := scalarOf t (a.toInt - b.toInt - (if bin then 1 else 0))
  (r.val, tswC (flagsOf t r) (decide (a.toNat ≥ b.toNat + (if bin then 1 else 0))))

/-- CMP and CMPI: the flags of the subtraction with no saturation, so N is bit 31 of the difference (R78, R88; log entry 36); nothing
stored, SV kept (R102). -/
def cmpFlags (t a b : Word) : Word :=
  let x := a.toInt - b.toInt
  tswC (tswZNV t (x == 0) (BitVec.ofInt 32 x).msb (overflows 32 x)) (decide (a.toNat ≥ b.toNat))

/-- NEG (R103). -/
def negFlags (t a : Word) : RF := subFlags t 0 a false

/-- ABS (R103). -/
def absFlags (t a : Word) : RF :=
  if a.msb then negFlags t a
  else (a, tswC (tswZNV t (a == 0) false false) true)

/-- A shift count from the low 8 bits of a word (R104). -/
def shiftCount (w : Word) : Int := (w.extractLsb' 0 8).toInt

/-- Logical shift left by a signed count (R104). -/
def lslBy (a : Word) (c : Int) : Word :=
  if c ≥ 0 then a <<< c.toNat else a >>> (-c).toNat

/-- Arithmetic right shift of an integer by n. -/
def asrInt (x : Int) (n : Nat) : Int := x.fdiv (2 ^ n)

/-- The shifts of LSL, LSR, ASR, ROT and SHI with TSW (R104). -/
def shiftFlags (t : Word) (k : ShiftKind) (a : Word) (c : Int) : RF :=
  match k with
  | .lsl => (lslBy a c, flagsLogic t (lslBy a c))
  | .lsr => (lslBy a (-c), flagsLogic t (lslBy a (-c)))
  | .rot => (a.rotateLeft (c % 32).toNat, flagsLogic t (a.rotateLeft (c % 32).toNat))
  | .asr =>
    let r := if c ≥ 0 then ⟨BitVec.ofInt 32 (asrInt a.toInt c.toNat), false, false⟩
             else scalarOf t (a.toInt * 2 ^ (-c).toNat)
    (r.val, flagsOf t r)

/-- The low half of a register as Q15. -/
def q15lo (a : Word) : Int := (a.extractLsb' 0 16).toInt
/-- The high half of a register as Q15. -/
def q15hi (a : Word) : Int := (a.extractLsb' 16 16).toInt

/-- MUL (R105). -/
def mulFlags (t : Word) (ty : MulType) (rov : Rov) (a b : Word) : RF :=
  let r := match ty with
    | .int => scalarOf t (a.toInt * b.toInt)
    | .inth => ⟨BitVec.ofInt 32 (asrInt (a.toInt * b.toInt) 32), false, false⟩
    | .q31 => scalarOf t (roundTo (rounding t rov) 31 (a.toInt * b.toInt))
    | .q15 => scalarOf t (q15lo a * q15lo b * 2)
  (r.val, flagsOf t r)

/-- An accumulator with the SV bit: a 72-bit sum always saturates (R100). -/
def accOf (t : Word) (x : Int) : Acc × Word := (BitVec.ofInt 72 (clampS 72 x), tswSV t (overflows 72 x))

/-- The product that MAC adds (R106). -/
def macProduct (ty : MacType) (a b : Word) : Int :=
  match ty with
  | .q31 => a.toInt * b.toInt * 2
  | .q15 => q15lo a * q15lo b * 2 ^ 33
  | .int => a.toInt * b.toInt
  | .dual => (q15lo a * q15lo b + q15hi a * q15hi b) * 2 ^ 33

/-- MAC (R106). -/
def macFlags (t : Word) (ty : MacType) (sub : Bool) (acc : Acc) (a b : Word) : Acc × Word :=
  accOf t (if sub then acc.toInt - macProduct ty a b else acc.toInt + macProduct ty a b)

/-- EXT and EXT16 (R107): the accumulator times 2^sh, k bits dropped, saturated to w bits, sign-extended. -/
def extFlags (t : Word) (rov : Rov) (k w : Nat) (acc : Acc) (sh : Nat) : RF :=
  let x := roundTo (rounding t rov) k (acc.toInt * 2 ^ sh)
  let val := BitVec.ofInt 32 (clampS w x)
  (val, tswSV (tswZNV t (val == 0) val.msb (overflows w x)) (overflows w x))

/-- SHRA (R107). -/
def shraVal (t : Word) (rov : Rov) (acc : Acc) (sh : Nat) : Acc := BitVec.ofInt 72 (roundTo (rounding t rov) sh acc.toInt)

/-- One part of an accumulator, as RDA reads it (R87, R107). -/
def accPart (acc : Acc) : AccPart → Word
  | .lo => acc.extractLsb' 0 32
  | .hi => acc.extractLsb' 32 32
  | .guard => (acc.extractLsb' 64 8).signExtend 32

/-- An accumulator with one part written, as WRA writes it (R87, R107). -/
def setAccPart (acc : Acc) (p : AccPart) (w : Word) : Acc :=
  match p with
  | .lo => (acc.extractLsb' 32 40) ++ w
  | .hi => (acc.extractLsb' 64 8) ++ w ++ (acc.extractLsb' 0 32)
  | .guard => (w.extractLsb' 0 8) ++ (acc.extractLsb' 0 64)

/-- The result of a division (R108, R109): quotient, remainder, V, SV, and DZ set. -/
structure DivResult where
  q : Word
  r : Word
  v : Bool
  sv : Bool
  dz : Bool
  deriving DecidableEq, Repr

/-- DIV (R108, R109). -/
def divide (t : Word) (ty : DivType) (a b : Word) : DivResult :=
  if b = 0 then
    match ty with
    | .unsigned => ⟨BitVec.allOnes 32, a, true, false, true⟩
    | _ => ⟨if a.msb then 0x80000000 else 0x7FFFFFFF, a, true, false, true⟩
  else
    match ty with
    | .unsigned => ⟨a / b, a % b, false, false, false⟩
    | .signed =>
      let s := scalarOf t (a.toInt.tdiv b.toInt)
      ⟨s.val, BitVec.ofInt 32 (a.toInt - a.toInt.tdiv b.toInt * b.toInt), s.v, s.sv, false⟩
    | .q31 =>
      let q := (a.toInt * 2 ^ 31).tdiv b.toInt
      let s := scalarOf t q
      ⟨s.val, BitVec.ofInt 32 (a.toInt * 2 ^ 31 - q * b.toInt), s.v, s.sv, false⟩

/-- TSW after DIV (R88, R108, R109). -/
def divFlags (t : Word) (d : DivResult) : Word :=
  let u := tswSV (tswZNV t (d.q == 0) d.q.msb d.v) d.sv
  if d.dz then tswDZ u else u

/-! ## UNA (R110) -/

/-- Count of leading zero bits (R110). -/
def clzVal (a : Word) : Word := BitVec.ofNat 32 (((List.range 32).find? fun i => a.getLsbD (31 - i)).getD 32)

/-- Count of bits below bit 31 equal to bit 31 before the first that differs (R110). -/
def clsVal (a : Word) : Word := BitVec.ofNat 32 (((List.range 31).find? fun i => a.getLsbD (30 - i) != a.msb).getD 31)

/-- Byte reversal (R110). -/
def bswapVal (a : Word) : Word :=
  (a.extractLsb' 0 8) ++ (a.extractLsb' 8 8) ++ (a.extractLsb' 16 8) ++ (a.extractLsb' 24 8)

/-! ## Vectors (R111 to R114) -/

/-- Element width in bits: 16 with T = 0, 32 with T = 1 (R87). -/
def elemWidth (t : Bool) : Nat := if t then 32 else 16
/-- Element count (R87). -/
def elemCount (t : Bool) : Nat := if t then 8 else 16

/-- Element i of a vector register, signed (R77). -/
def elem (t : Bool) (v : MemWord) (i : Nat) : Int := (v.extractLsb' (elemWidth t * i) (elemWidth t)).toInt

/-- A vector register from its elements (R77); each is taken modulo the element width. -/
def ofElems (t : Bool) (f : Nat → Int) : MemWord :=
  (List.range (elemCount t)).foldl
    (fun acc i => acc ||| ((BitVec.ofInt (elemWidth t) (f i)).setWidth 256 <<< (elemWidth t * i))) 0

/-- Some element saturates under TSW.SAT (R111). -/
def anyOver (tsw : Word) (t : Bool) (f : Nat → Int) : Bool :=
  modeSAT tsw && (List.range (elemCount t)).any fun i => overflows (elemWidth t) (f i)

/-- Storing exact element values under TSW.SAT: the register and TSW with SV (R100, R111). -/
def vecSat (tsw : Word) (t : Bool) (f : Nat → Int) : MemWord × Word :=
  (ofElems t fun i => if modeSAT tsw then clampS (elemWidth t) (f i) else f i, tswSV tsw (anyOver tsw t f))

/-- The count of element i for VSHL and VSHR (R112). -/
def vecCount (t : Bool) (vb : MemWord) (i : Nat) : Int := (vb.extractLsb' (elemWidth t * i) 8).toInt

/-- Arithmetic shift of an element: left by c where c is positive (exact), right where it is negative (R112). -/
def vecShift (x c : Int) : Int := if c ≥ 0 then x * 2 ^ c.toNat else asrInt x (-c).toNat

/-- The product weight k of VMUL, VMAC and VMSC (R113). -/
def vecK (t : Bool) : Nat := if t then 31 else 15

/-- The sum that VDOT adds, at Q63 (R113). -/
def dotSum (t : Bool) (va vb : MemWord) : Int :=
  ((List.range (elemCount t)).map fun i => elem t va i * elem t vb i).sum * (if t then 2 else 2 ^ 33)

/-- VPERM (R111). -/
def vecPerm (t : Bool) (va vb : MemWord) : MemWord :=
  ofElems t fun i => elem t va ((vb.extractLsb' (elemWidth t * i) 8).toNat % elemCount t)

/-- VINS: the low element-width bits of w in element k (R114). -/
def vecIns (t : Bool) (v : MemWord) (k : Nat) (w : Word) : MemWord :=
  ofElems t fun i => if i = k then w.toInt else elem t v i

end Sys2Proof.Machine
end

