-- ==== Sys2Proof/Machine/RegTable.lean ====
section
/-! DEFINITION. The register table of the host window (R311): one row per register line of the chapters' register tables,
with its base offset, the stride and number of its instances, the masks of its RW, RWL, W1C and RC fields (R6) and its reset value.
A field whose reset is BS is 0 until the commit (R276). Fields that show live state (RO) are formed in Machine/Access.lean. -/
namespace Sys2Proof.Machine

/-- One register line: base, stride, instances, masks by access type, reset value. -/
structure RegRow where
  base : Nat
  stride : Nat
  count : Nat
  rw : Nat
  rwl : Nat
  w1c : Nat
  rc : Nat
  reset : Nat
  deriving DecidableEq, Repr

/-- Rows of the table from offset 0x0. -/
def regTable0 : List RegRow := [
  ⟨0x0, 0x4, 1, 0x0, 0x0, 0x0, 0x0, 0x1001536⟩, -- BLK_ID, R314
  ⟨0x4, 0x4, 1, 0x0, 0x0, 0x0, 0x0, 0x0⟩, -- BLK_REV, R314
  ⟨0x8, 0x4, 1, 0x0, 0x0, 0x0, 0x0, 0x40408374⟩, -- BLK_CAPS0, R314
  ⟨0xC, 0x4, 1, 0x0, 0x0, 0x0, 0x0, 0x820011A0⟩, -- BLK_CAPS1, R314
  ⟨0x10, 0x4, 1, 0x0, 0x0, 0x0, 0x0, 0x0⟩, -- BLK_CAUSE, R314
  ⟨0x14, 0x4, 1, 0x1F, 0x0, 0x0, 0x0, 0x0⟩, -- BLK_CAUSE_MASK, R314
  ⟨0x18, 0x4, 1, 0x0, 0x0, 0xF, 0x0, 0x0⟩, -- BLK_STAT, R314
  ⟨0x1C, 0x4, 1, 0xF, 0x0, 0x0, 0x0, 0x0⟩, -- BLK_GEAR_SEL, R314
  ⟨0x20, 0x4, 1, 0xFF000000, 0x0, 0x0, 0x0, 0x101⟩, -- BLK_GEARS, R314
  ⟨0x24, 0x4, 1, 0x0, 0x0, 0x80000000, 0x0, 0x0⟩, -- BLK_HPERR, R314
  ⟨0x28, 0x4, 1, 0x0, 0x0, 0x80000000, 0x0, 0x0⟩, -- BLK_HPERR_CNT, R314
  ⟨0x2C, 0x4, 1, 0x0, 0x0, 0x0, 0x0, 0x0⟩, -- BLK_BC_LO, R314
  ⟨0x30, 0x4, 1, 0x0, 0x0, 0x0, 0x0, 0x0⟩, -- BLK_BC_HI, R314
  ⟨0x34, 0x4, 1, 0x73F, 0x0, 0x0, 0x0, 0x0⟩, -- BLK_PMW_SEL, R314
  ⟨0x38, 0x4, 1, 0x0, 0x0, 0x0, 0x0, 0x0⟩, -- BLK_RST_CMD, R314
  ⟨0x3C, 0x4, 1, 0x0, 0x0, 0x0, 0x0, 0x0⟩, -- BLK_RST_CAUSE, R314
  ⟨0x400, 0x4, 1, 0x0, 0x0, 0x0, 0x0, 0x0⟩, -- IRQ_SUM, R315
  ⟨0x404, 0x4, 1, 0xFFFF, 0x0, 0x0, 0x0, 0x0⟩, -- IRQ_MASK, R315
  ⟨0x408, 0x4, 1, 0x0, 0x0, 0x0, 0x0, 0x0⟩, -- IRQ_PEND, R315
  ⟨0x40C, 0x4, 1, 0x3, 0x0, 0x0, 0x0, 0x0⟩, -- IRQ_CTL, R315
  ⟨0x410, 0x4, 1, 0x0, 0x0, 0x0, 0x0, 0x0⟩, -- MBX_CAUSE, R315
  ⟨0x414, 0x4, 1, 0x1FFFF, 0x0, 0x0, 0x0, 0x0⟩, -- MBX_CAUSE_MASK, R315
  ⟨0x418, 0x4, 1, 0x0, 0x0, 0x7, 0x0, 0x0⟩, -- MBX_STAT, R315
  ⟨0x41C, 0x4, 1, 0xFF01, 0x0, 0x0, 0x0, 0x0⟩, -- MBX_CTL, R315
  ⟨0x440, 0x20, 8, 0x0, 0x0, 0x0, 0x0, 0x0⟩, -- MBX_TXn_DATA, R315
  ⟨0x444, 0x20, 8, 0x0, 0x0, 0x0, 0x0, 0x0⟩, -- MBX_TXn_LAST, R315
  ⟨0x448, 0x20, 8, 0x0, 0x0, 0x0, 0x0, 0x0⟩, -- MBX_TXn_STAT, R315
  ⟨0x44C, 0x20, 8, 0x0, 0x0, 0x0, 0x0, 0x0⟩, -- MBX_RXn_DATA, R315
  ⟨0x450, 0x20, 8, 0x0, 0x0, 0x0, 0x0, 0x0⟩, -- MBX_RXn_STAT, R315
  ⟨0x800, 0x4, 1, 0x0, 0x0, 0x0, 0x0, 0x0⟩, -- PWR_CAUSE, R252
  ⟨0x804, 0x4, 1, 0xF, 0x0, 0x0, 0x0, 0x0⟩, -- PWR_CAUSE_MASK, R252
  ⟨0x808, 0x4, 1, 0x1, 0x0, 0x0, 0x0, 0x0⟩, -- PWR_CTL, R252
  ⟨0x80C, 0x4, 1, 0x0, 0x0, 0x7FF00, 0x0, 0x80000⟩, -- PWR_STAT, R252
  ⟨0x810, 0x4, 1, 0xFFFFFFFF, 0x0, 0x0, 0x0, 0xD4A8A000⟩, -- PWR_AVS_CTL, R252
  ⟨0x814, 0x4, 1, 0x3FF, 0x0, 0x0, 0x0, 0x2EE⟩, -- PWR_VCORE_SET, R252
  ⟨0x818, 0x4, 1, 0x0, 0x0, 0x0, 0x0, 0x0⟩, -- PWR_VCORE_MEAS, R252
  ⟨0x81C, 0x4, 1, 0x0, 0x0, 0x0, 0x0, 0x0⟩, -- PWR_RAIL_GOOD, R252
  ⟨0x820, 0x4, 1, 0x0, 0x0, 0x0, 0x0, 0x0⟩, -- PWR_SAG_COUNT, R252
  ⟨0x824, 0x4, 1, 0xFFFF, 0x0, 0x0, 0x0, 0xFFFF⟩, -- PWR_SAG_MIN, R252
  ⟨0x828, 0x4, 1, 0x0, 0x0, 0x0, 0x0, 0x0⟩, -- PWR_DS_TIME, R252
  ⟨0x82C, 0x4, 1, 0x0, 0x0, 0x0, 0x0, 0x0⟩, -- PWR_RST_REC, R252
  ⟨0x830, 0x4, 1, 0xFFF0FFF, 0x0, 0x0, 0x0, 0x1CC0190⟩, -- PWR_TEMP_THR, R252
  ⟨0x834, 0x4, 1, 0x7, 0x0, 0x0, 0x0, 0x0⟩, -- PWR_TEMP_SEL, R252
  ⟨0x838, 0x4, 1, 0x0, 0x0, 0x0, 0x0, 0x0⟩, -- PWR_TEMP_DATA, R252
  ⟨0x83C, 0x4, 1, 0x0, 0x0, 0x0, 0xFFF, 0x0⟩, -- PWR_TEMP_MAX, R252
  ⟨0x840, 0x4, 1, 0xF, 0x0, 0x0, 0x0, 0x0⟩, -- PWR_AGE_SEL, R252
  ⟨0x844, 0x4, 1, 0x0, 0x0, 0x0, 0x0, 0x0⟩, -- PWR_AGE_DATA, R252
  ⟨0x848, 0x4, 1, 0x0, 0xFFFFFFFF, 0x0, 0x0, 0x0⟩] -- PWR_AGE_REF, R252

/-- Rows of the table from offset 0x84C. -/
def regTable1 : List RegRow := [
  ⟨0x84C, 0x4, 1, 0x7, 0x0, 0x0, 0x0, 0x0⟩, -- PWR_PMB_CTL, R252
  ⟨0x850, 0x4, 1, 0x0, 0x0, 0x0, 0x0, 0x0⟩, -- PWR_PMB_STAT, R252
  ⟨0x854, 0x4, 1, 0x1FFF, 0x0, 0x0, 0x0, 0x0⟩, -- PWR_PMB_SEL, R252
  ⟨0x858, 0x4, 1, 0xFFFFFFFF, 0x0, 0x0, 0x0, 0x0⟩, -- PWR_PMB_SEQ, R252
  ⟨0x85C, 0x4, 1, 0x0, 0x0, 0x0, 0x0, 0x0⟩, -- PWR_PMB_TEL, R252
  ⟨0x860, 0x4, 1, 0x0, 0x0, 0x0, 0x0, 0x0⟩, -- PWR_PMB_CMD, R252
  ⟨0x864, 0x4, 1, 0xFFFFFFFF, 0x0, 0x0, 0x0, 0x0⟩, -- PWR_PMB_RAW, R252
  ⟨0x868, 0x4, 1, 0x0, 0x0, 0x0, 0x0, 0x0⟩, -- PWR_PMB_ERR, R252
  ⟨0x86C, 0x4, 1, 0x3FF, 0x0, 0x0, 0x0, 0x0⟩, -- PWR_PMB_POLL, R252
  ⟨0x870, 0x4, 4, 0x0, 0xFFFFFFFF, 0x0, 0x0, 0x0⟩, -- PWR_LDG_HOURS, _TCYC, _SAGS, _CORR, R252
  ⟨0x880, 0x4, 1, 0x0, 0xFFFFFFFF, 0x0, 0x0, 0x0⟩, -- PWR_LDG_MARGIN, R252
  ⟨0x884, 0x4, 1, 0x0, 0xFFFFFFFF, 0x0, 0x0, 0x0⟩, -- PWR_LDG_TDH_LO, R252
  ⟨0x888, 0x4, 1, 0x0, 0xFFFF, 0x0, 0x0, 0x0⟩, -- PWR_LDG_TDH_HI, R252
  ⟨0x88C, 0x4, 1, 0xF, 0x0, 0x0, 0x0, 0x0⟩, -- PWR_RAIL_SEL, R252
  ⟨0x890, 0x4, 1, 0x0, 0x0, 0x0, 0x0, 0x0⟩, -- PWR_RAIL_DATA, R252
  ⟨0x894, 0x4, 1, 0x0, 0x0, 0x0, 0x0, 0x0⟩, -- PWR_TRIP_REC, R252
  ⟨0x898, 0x4, 1, 0x0, 0x0, 0x0, 0x0, 0x14⟩, -- PWR_CAPS, R252
  ⟨0x89C, 0x4, 1, 0x0, 0x0, 0x0, 0x0, 0x0⟩, -- PWR_DS_COUNT, R252
  ⟨0xC00, 0x40, 8, 0x0, 0x0, 0x0, 0x0, 0x0⟩, -- NRG_GRPg_STRAP, R253
  ⟨0xC04, 0x40, 8, 0x0, 0x0, 0x0, 0x0, 0x0⟩, -- NRG_GRPg_STRAP2, R253
  ⟨0xC08, 0x40, 8, 0x3FF, 0x0, 0x0, 0x0, 0x0⟩, -- NRG_GRPg_LIM_I, R253
  ⟨0xC0C, 0x40, 8, 0xFFFF, 0x0, 0x0, 0x0, 0x0⟩, -- NRG_GRPg_LIM_E, R253
  ⟨0xC10, 0x40, 8, 0x1FE, 0x1, 0x0, 0x0, 0x0⟩, -- NRG_GRPg_CTL, R253
  ⟨0xC14, 0x40, 8, 0x0, 0x0, 0x3F, 0x0, 0x0⟩, -- NRG_GRPg_STAT, R253
  ⟨0xC18, 0x40, 8, 0x3F, 0x0, 0x0, 0x0, 0x0⟩, -- NRG_GRPg_PIN_SEL, R253
  ⟨0xC1C, 0x40, 8, 0xF, 0x0, 0x0, 0x0, 0x0⟩, -- NRG_GRPg_PIN_DATA, R253
  ⟨0xC20, 0x40, 8, 0x0, 0x0, 0x0, 0xFFF0000, 0x0⟩, -- NRG_GRPg_MEAS_I, R253
  ⟨0xC24, 0x40, 8, 0x0, 0x0, 0x0, 0xFFFF0000, 0x0⟩, -- NRG_GRPg_MEAS_E, R253
  ⟨0xC28, 0x40, 8, 0xF, 0x0, 0x0, 0x0, 0x0⟩, -- NRG_GRPg_CHRY_CTL, R154
  ⟨0xC2C, 0x40, 8, 0x0, 0x0, 0x7000, 0x0, 0x3⟩, -- NRG_GRPg_CHRY_STAT, R154
  ⟨0xE00, 0x4, 1, 0x0, 0x0, 0x0, 0x0, 0x0⟩, -- NRG_CAUSE, R253
  ⟨0xE04, 0x4, 1, 0xFF, 0x0, 0x0, 0x0, 0x0⟩, -- NRG_CAUSE_MASK, R253
  ⟨0xE08, 0x4, 1, 0x0, 0x0, 0x0, 0x0, 0x0⟩, -- NRG_LAST, R253
  ⟨0xE0C, 0x4, 1, 0x0, 0x0, 0x0, 0x0, 0x0⟩, -- NRG_EXC_COUNT, R253
  ⟨0xE10, 0x4, 1, 0x0, 0x0, 0x0, 0x0, 0x0⟩, -- NRG_VIO_STAT, R253
  ⟨0xE14, 0x4, 1, 0x0, 0x0, 0x0, 0x0, 0x0⟩, -- NRG_FOLD, R253
  ⟨0xE18, 0x4, 1, 0x0, 0x0, 0x0, 0x0, 0x0⟩, -- NRG_SAFE, R253
  ⟨0xE1C, 0x4, 1, 0x0, 0x0, 0x0, 0x0, 0x81⟩, -- NRG_CAPS, R253
  ⟨0x1000, 0x4, 1, 0x0, 0x0, 0x0, 0x0, 0x0⟩, -- CFG_CAUSE, R298
  ⟨0x1004, 0x4, 1, 0x3F, 0x0, 0x0, 0x0, 0x0⟩, -- CFG_CAUSE_MASK, R298
  ⟨0x1008, 0x4, 1, 0x3, 0x0, 0x0, 0x0, 0x3⟩, -- CFG_CTL, R298
  ⟨0x100C, 0x4, 1, 0x0, 0x0, 0x3F0000, 0x0, 0x3F0⟩, -- CFG_STAT, R298
  ⟨0x1010, 0x4, 1, 0x0, 0x0, 0x0, 0x0, 0x0⟩, -- CFG_CMD, R298
  ⟨0x1014, 0x4, 1, 0x0, 0x0, 0x0, 0x0, 0x0⟩, -- CFG_ERR, R298
  ⟨0x1018, 0x4, 1, 0x0, 0x0, 0x0, 0x0, 0x0⟩, -- CFG_ERR_OFS, R298
  ⟨0x101C, 0x4, 1, 0x3FFFFE0, 0x0, 0x0, 0x0, 0x0⟩, -- CFG_SRC_ADDR, R298
  ⟨0x1020, 0x4, 1, 0x1FFFFF, 0x0, 0x0, 0x0, 0x0⟩, -- CFG_SRC_LEN, R298
  ⟨0x1024, 0x4, 1, 0x0, 0x0, 0x0, 0x0, 0x0⟩] -- CFG_GEN, R298

/-- Rows of the table from offset 0x1028. -/
def regTable2 : List RegRow := [
  ⟨0x1028, 0x4, 1, 0x0, 0x0, 0x0, 0x0, 0x0⟩, -- CFG_STAGED_GEN, R298
  ⟨0x102C, 0x4, 1, 0x0, 0x0, 0x0, 0x0, 0x1010000⟩, -- CFG_GEAR, R298
  ⟨0x1030, 0x4, 1, 0x0, 0x0, 0x0, 0x0, 0xF⟩, -- CFG_CAPS_LO, R298
  ⟨0x1034, 0x4, 1, 0x0, 0x0, 0x0, 0x0, 0x0⟩, -- CFG_CAPS_HI, R298
  ⟨0x1038, 0x4, 3, 0x0, 0x0, 0x0, 0x0, 0x0⟩, -- CFG_COPY0 to CFG_COPY2, R298
  ⟨0x1044, 0x4, 1, 0x0, 0x0, 0x0, 0x0, 0x0⟩, -- CFG_MOLT_CTL, R298
  ⟨0x1048, 0x4, 1, 0x0, 0x0, 0x10000, 0x0, 0x0⟩, -- CFG_MOLT_STAT, R298
  ⟨0x104C, 0x4, 1, 0xFF, 0x0, 0x0, 0x0, 0x0⟩, -- CFG_RGN_SEL, R298
  ⟨0x1050, 0x4, 1, 0x0, 0x0, 0x0, 0x0, 0x0⟩, -- CFG_RGN_DATA, R298
  ⟨0x1054, 0x4, 1, 0x0, 0x0, 0x0, 0x0, 0x0⟩, -- CFG_EPOCH_OPEN, R298
  ⟨0x1058, 0x4, 1, 0x0, 0x0, 0xFFFFFFFF, 0x0, 0x0⟩, -- CFG_EPOCH_SEEN, R298
  ⟨0x105C, 0x4, 1, 0x0, 0x0, 0x0, 0x0, 0x0⟩, -- CFG_RECHECK_CNT, R298
  ⟨0x1060, 0x4, 1, 0x0, 0x0, 0x0, 0x0, 0x0⟩, -- CFG_RECHECK_LAST, R298
  ⟨0x1064, 0x4, 1, 0x0, 0x0, 0x0, 0x0, 0x0⟩, -- CFG_SCAN_STAT, R298
  ⟨0x1068, 0x4, 1, 0x0, 0x0, 0x0, 0x0, 0x0⟩, -- CFG_CREPAIR_CNT, R298
  ⟨0x106C, 0x4, 1, 0x0, 0x0, 0x0, 0x0, 0x0⟩, -- CFG_DIV_WORD, R298
  ⟨0x1070, 0x4, 1, 0xF, 0x0, 0x0, 0x0, 0x0⟩, -- CFG_HASH_SEL, R298
  ⟨0x1074, 0x4, 1, 0x0, 0x0, 0x0, 0x0, 0x0⟩, -- CFG_HASH_DATA, R298
  ⟨0x1078, 0x4, 1, 0x0, 0x0, 0x0, 0x0, 0x0⟩, -- CFG_OTP_STAT, R298
  ⟨0x107C, 0x4, 1, 0x0, 0x0, 0x0, 0x0, 0x0⟩, -- CFG_OTP_MINGEN, R298
  ⟨0x1080, 0x4, 1, 0x0, 0x0, 0x0, 0x0, 0x0⟩, -- CFG_LOAD_TIME, R298
  ⟨0x1084, 0x4, 1, 0x0, 0x0, 0x0, 0x0, 0x0⟩, -- CFG_APPLY_TIME, R298
  ⟨0x1088, 0x4, 1, 0x7FFF, 0x0, 0x0, 0x0, 0x0⟩, -- CFG_COC_SEL, R298
  ⟨0x108C, 0x4, 1, 0x0, 0x0, 0x0, 0x0, 0x0⟩, -- CFG_COC_DATA, R298
  ⟨0x1090, 0x4, 1, 0x3FF, 0x0, 0x0, 0x0, 0x0⟩, -- CFG_SECT_SEL, R298
  ⟨0x1094, 0x4, 1, 0x0, 0x0, 0x0, 0x0, 0x0⟩, -- CFG_SECT_TYPE, R298
  ⟨0x1098, 0x4, 1, 0x0, 0x0, 0x0, 0x0, 0x0⟩, -- CFG_SECT_OFS, R298
  ⟨0x109C, 0x4, 1, 0x0, 0x0, 0x0, 0x0, 0x0⟩, -- CFG_SECT_LEN, R298
  ⟨0x10A0, 0x4, 1, 0x0, 0x0, 0x0, 0x0, 0x0⟩, -- CFG_LOCK_N, R298
  ⟨0x10A4, 0x4, 1, 0x0, 0x0, 0x0, 0x0, 0x0⟩, -- CFG_LOCK_CRC, R298
  ⟨0x10A8, 0x4, 1, 0x0, 0x0, 0x0, 0x0, 0x0⟩, -- CFG_APPLY_BC_LO, R298
  ⟨0x10AC, 0x4, 1, 0x0, 0x0, 0x0, 0x0, 0x0⟩, -- CFG_APPLY_BC_HI, R298
  ⟨0x10B0, 0x4, 1, 0x0, 0x0, 0x0, 0x0, 0x0⟩, -- CFG_COMMIT_BC_LO, R298
  ⟨0x10B4, 0x4, 1, 0x0, 0x0, 0x0, 0x0, 0x0⟩, -- CFG_COMMIT_BC_HI, R298
  ⟨0x10B8, 0x4, 1, 0x0, 0x0, 0x0, 0x0, 0x0⟩, -- CFG_SOLE_CNT, R298
  ⟨0x10BC, 0x4, 1, 0x0, 0x0, 0x0, 0x0, 0x0⟩, -- CFG_DIV_CNT, R298
  ⟨0x2000, 0x10, 13, 0xFF07FFFF, 0x0, 0x0, 0x0, 0x0⟩, -- AVL_CLk_WDG, R275
  ⟨0x2004, 0x10, 13, 0x0, 0x0, 0x0, 0x0, 0x0⟩, -- AVL_CLk_FEED, R275
  ⟨0x2008, 0x10, 13, 0x0, 0x0, 0x1FF, 0x0, 0x0⟩, -- AVL_CLk_STAT, R275
  ⟨0x2100, 0x4, 1, 0x0, 0x0, 0x0, 0x0, 0x0⟩, -- AVL_CAUSE, R275
  ⟨0x2104, 0x4, 1, 0x1FFFFF, 0x0, 0x0, 0x0, 0x0⟩, -- AVL_CAUSE_MASK, R275
  ⟨0x2108, 0x4, 1, 0xE3F, 0x0, 0x0, 0x0, 0x0⟩, -- AVL_CTL, R275
  ⟨0x210C, 0x4, 1, 0x0, 0x0, 0x1B, 0x0, 0x0⟩, -- AVL_STAT, R275
  ⟨0x2110, 0x4, 1, 0x3FF, 0x0, 0x0, 0x0, 0x0⟩, -- AVL_PAIR_SEL, R275
  ⟨0x2114, 0x4, 1, 0x1C00000, 0x3FFFFF, 0x0, 0x0, 0x0⟩, -- AVL_PAIR_CFG, R275
  ⟨0x2118, 0x4, 1, 0x0, 0x0, 0x0, 0x0, 0x0⟩, -- AVL_PAIR_STAT, R275
  ⟨0x211C, 0x4, 1, 0x0, 0x0, 0x0, 0xFFFFFFFF, 0x0⟩, -- AVL_PAIR_CNT, R275
  ⟨0x2120, 0x4, 1, 0x0, 0x0, 0x0, 0x0, 0x400⟩] -- AVL_SPARE, R275

/-- Rows of the table from offset 0x2124. -/
def regTable3 : List RegRow := [
  ⟨0x2124, 0x4, 1, 0x0, 0x0, 0x0, 0x0, 0x0⟩, -- AVL_RETIRED_LO, R275
  ⟨0x2128, 0x4, 1, 0x0, 0x0, 0x0, 0x0, 0x0⟩, -- AVL_RETIRED_HI, R275
  ⟨0x212C, 0x4, 1, 0x0, 0x3FFFF, 0x0, 0x0, 0x0⟩, -- AVL_BWDG_CTL, R275
  ⟨0x2130, 0x4, 1, 0x0, 0x0, 0x0, 0x0, 0x0⟩, -- AVL_BWDG_FEED, R275
  ⟨0x2134, 0x4, 1, 0x0, 0x0, 0x0, 0x0, 0x0⟩, -- AVL_BWDG_CNT, R275
  ⟨0x2138, 0x4, 1, 0x7FF, 0x0, 0x0, 0x0, 0x0⟩, -- AVL_SWDG_SEL, R275
  ⟨0x213C, 0x4, 1, 0xFFFF, 0x0, 0x0, 0x0, 0x0⟩, -- AVL_SWDG_DATA, R275
  ⟨0x2140, 0x4, 1, 0x0, 0x0, 0x0, 0x0, 0x0⟩, -- AVL_SWDG_FEED, R275
  ⟨0x2144, 0x4, 1, 0xF, 0x0, 0x0, 0x0, 0x5⟩, -- AVL_CLKMON_CTL, R275
  ⟨0x2148, 0x4, 1, 0x3F, 0x0, 0x0, 0x0, 0x0⟩, -- AVL_LOG_SEL, R275
  ⟨0x214C, 0x4, 1, 0x0, 0x0, 0x0, 0x0, 0x0⟩, -- AVL_LOG_LO, R275
  ⟨0x2150, 0x4, 1, 0x0, 0x0, 0x0, 0x0, 0x0⟩, -- AVL_LOG_HI, R275
  ⟨0x2154, 0x4, 1, 0x0, 0x0, 0x80000000, 0x0, 0x0⟩, -- AVL_CNT_TRANS, R275
  ⟨0x2158, 0x4, 1, 0x0, 0x0, 0x80000000, 0x0, 0x0⟩, -- AVL_CNT_LAST, R275
  ⟨0x215C, 0x4, 1, 0x0, 0x0, 0x300, 0x0, 0x0⟩, -- AVL_TKOV, R275
  ⟨0x2160, 0x4, 1, 0x0, 0x0, 0xFFFF001F, 0x0, 0x0⟩, -- AVL_CLKMON_STAT, R275
  ⟨0x3000, 0x4, 1, 0x0, 0x0, 0x0, 0x0, 0x0⟩, -- DBG_CAUSE, R338
  ⟨0x3004, 0x4, 1, 0x3F, 0x0, 0x0, 0x0, 0x0⟩, -- DBG_CAUSE_MASK, R338
  ⟨0x3008, 0x4, 1, 0x0, 0x0, 0x3F00, 0x0, 0x0⟩, -- DBG_STAT, R338
  ⟨0x300C, 0x4, 1, 0x7, 0x0, 0x0, 0x0, 0x0⟩, -- DBG_CTL, R338
  ⟨0x3010, 0x4, 1, 0x0, 0xF, 0x0, 0x0, 0x8⟩, -- DBG_ACCESS, R338
  ⟨0x3014, 0x4, 1, 0x0, 0x1, 0x0, 0x0, 0x0⟩, -- DBG_RESET_ARM, R338
  ⟨0x3018, 0x4, 1, 0x1, 0x0, 0x0, 0x0, 0x0⟩, -- DBG_FRZ, R338
  ⟨0x301C, 0x4, 1, 0x0, 0x0, 0x0, 0x0, 0x0⟩, -- DBG_HALT_LO, R338
  ⟨0x3020, 0x4, 1, 0x0, 0x0, 0x0, 0x0, 0x0⟩, -- DBG_HALT_HI, R338
  ⟨0x3024, 0x4, 1, 0x3FF, 0x0, 0x0, 0x0, 0x0⟩, -- DBG_PAIR_SEL, R338
  ⟨0x3028, 0x4, 1, 0x1, 0x0, 0x0, 0x0, 0x0⟩, -- DBG_PAIR_MAINT, R338
  ⟨0x302C, 0x4, 1, 0x13F07, 0x0, 0x0, 0x0, 0x0⟩, -- DBG_CMP_SEL, R338
  ⟨0x3030, 0x4, 1, 0xFF, 0x0, 0x0, 0x0, 0x0⟩, -- DBG_CMP_CFG, R338
  ⟨0x3034, 0x4, 1, 0xFFFFFFFF, 0x0, 0x0, 0x0, 0x0⟩, -- DBG_CMP_QUAL, R338
  ⟨0x3038, 0x4, 1, 0xFFFFFFFF, 0x0, 0x0, 0x0, 0x0⟩, -- DBG_CMP_LO, R338
  ⟨0x303C, 0x4, 1, 0xFFFFFFFF, 0x0, 0x0, 0x0, 0x0⟩, -- DBG_CMP_HI, R338
  ⟨0x3040, 0x4, 1, 0xFFFFFFFF, 0x0, 0x0, 0x0, 0x0⟩, -- DBG_CMP_VAL, R338
  ⟨0x3044, 0x4, 1, 0xFFFFFFFF, 0x0, 0x0, 0x0, 0x0⟩, -- DBG_CMP_MASK, R338
  ⟨0x304C, 0x4, 1, 0x0, 0x0, 0x80000000, 0x0, 0x0⟩, -- DBG_HIT, R338
  ⟨0x3050, 0x4, 1, 0x0, 0x0, 0x0, 0x0, 0x0⟩, -- DBG_HIT_PC, R338
  ⟨0x3054, 0x4, 1, 0x0, 0x0, 0x80000000, 0x0, 0x0⟩, -- DBG_FRAMES, R338
  ⟨0x3058, 0x4, 1, 0x0, 0x0, 0x0, 0xFFFFFFFF, 0x0⟩, -- DBG_ERRS, R338
  ⟨0x305C, 0x4, 1, 0xFFFFFFFF, 0x0, 0x0, 0x0, 0x0⟩, -- DBG_BRK_EN_LO, R338
  ⟨0x3060, 0x4, 1, 0xFFFF, 0x0, 0x0, 0x0, 0x0⟩, -- DBG_BRK_EN_HI, R338
  ⟨0x4000, 0x40, 17, 0xF07F7, 0x0, 0x0, 0x0, 0x0⟩, -- CAD_AXISn_CTL, R36
  ⟨0x4004, 0x40, 17, 0x0, 0xFFFF1FF7, 0x0, 0x0, 0x0⟩, -- CAD_AXISn_SRC, R36
  ⟨0x4008, 0x40, 17, 0xFFFFFC00, 0x3FF, 0x0, 0x0, 0x0⟩, -- CAD_AXISn_SRC2, R36
  ⟨0x400C, 0x40, 17, 0x0, 0xFFFFFFFF, 0x0, 0x0, 0x0⟩, -- CAD_AXISn_MOD_LO, R36
  ⟨0x4010, 0x40, 17, 0x0, 0xFF, 0x0, 0x0, 0x0⟩, -- CAD_AXISn_MOD_HI, R36
  ⟨0x4014, 0x40, 17, 0xFFFF00F7, 0x0, 0x0, 0x0, 0x0⟩, -- CAD_AXISn_TRACK, R36
  ⟨0x4018, 0x40, 17, 0x1FFFF, 0x0, 0x0, 0x0, 0x0⟩, -- CAD_AXISn_COAST, R36
  ⟨0x401C, 0x40, 17, 0x0, 0x0, 0x3FF00, 0x0, 0x0⟩] -- CAD_AXISn_STAT, R36

/-- Rows of the table from offset 0x4020. -/
def regTable4 : List RegRow := [
  ⟨0x4020, 0x40, 17, 0x0, 0x0, 0x0, 0x0, 0x0⟩, -- CAD_AXISn_CMD, R36
  ⟨0x4024, 0x40, 17, 0xFFFFFFFF, 0x0, 0x0, 0x0, 0x0⟩, -- CAD_AXISn_CAP_POS_LO, R36
  ⟨0x4028, 0x40, 17, 0xFFFFFFFF, 0x0, 0x0, 0x0, 0x0⟩, -- CAD_AXISn_CAP_POS_HI, R36
  ⟨0x402C, 0x40, 17, 0x0, 0x0, 0x0, 0x0, 0x0⟩, -- CAD_AXISn_CAP_VEL, R36
  ⟨0x4030, 0x40, 17, 0x0, 0x0, 0x0, 0x0, 0x0⟩, -- CAD_AXISn_CAP_EPOCH, R36
  ⟨0x4034, 0x40, 17, 0x0, 0x0, 0x0, 0x0, 0x0⟩, -- CAD_AXISn_CAP_ALT, R36
  ⟨0x4800, 0x4, 1, 0x3, 0x0, 0x0, 0x0, 0x0⟩, -- CAD_CTL, R36
  ⟨0x4804, 0x4, 1, 0x0, 0x0, 0x0, 0x0, 0x0⟩, -- CAD_CAUSE, R36
  ⟨0x4808, 0x4, 1, 0x3FFFFF, 0x0, 0x0, 0x0, 0x0⟩, -- CAD_CAUSE_MASK, R36
  ⟨0x480C, 0x4, 1, 0x0, 0x0, 0x0, 0x0, 0x0⟩, -- CAD_CMD, R36
  ⟨0x4810, 0x4, 1, 0x1FF, 0x0, 0x0, 0x0, 0x0⟩, -- CAD_EVT_SEL, R36
  ⟨0x4814, 0x4, 1, 0xFFFF7FFF, 0x0, 0x0, 0x0, 0x0⟩, -- CAD_EVT_CFG, R36
  ⟨0x4818, 0x4, 1, 0xFFFFF, 0x0, 0x40000000, 0x0, 0x0⟩, -- CAD_EVT_ACT, R36
  ⟨0x481C, 0x4, 1, 0xFFFFFFFF, 0x0, 0x0, 0x0, 0x0⟩, -- CAD_EVT_TGT_LO, R36
  ⟨0x4820, 0x4, 1, 0xFFFFFFFF, 0x0, 0x0, 0x0, 0x0⟩, -- CAD_EVT_TGT_HI, R36
  ⟨0x4824, 0x4, 1, 0x0, 0x0, 0x0, 0x0, 0x0⟩, -- CAD_DIS_AXIS, R36
  ⟨0x4828, 0x4, 4, 0x0, 0x0, 0x0, 0x0, 0x0⟩, -- CAD_DIS_PRI_LO, _PRI_HI, _SEC_LO, _SEC_HI, R36
  ⟨0x4838, 0x4, 1, 0x101, 0x0, 0x0, 0x0, 0x0⟩, -- CAD_PTP_CTL, R36
  ⟨0x483C, 0x4, 1, 0xFFFFFFFF, 0x0, 0x0, 0x0, 0x0⟩, -- CAD_PTP_RATE, R36
  ⟨0x4840, 0x4, 1, 0xFFFFFFFF, 0x0, 0x0, 0x0, 0x0⟩, -- CAD_PTP_SEC_LO, R36
  ⟨0x4844, 0x4, 1, 0xFFFF, 0x0, 0x0, 0x0, 0x0⟩, -- CAD_PTP_SEC_HI, R36
  ⟨0x4880, 0x4, 16, 0x0, 0x0, 0xFFFFFFFF, 0x0, 0x0⟩, -- CAD_EVT_FIREDk, R36
  ⟨0x6000, 0x4, 1, 0x0, 0x0, 0x0, 0x0, 0x0⟩, -- LCK_CAUSE, R191
  ⟨0x6004, 0x4, 1, 0x3F, 0x0, 0x0, 0x0, 0x0⟩, -- LCK_CAUSE_MASK, R191
  ⟨0x6008, 0x4, 1, 0xF, 0x0, 0x0, 0x0, 0x0⟩, -- LCK_CTL, R191
  ⟨0x600C, 0x4, 1, 0x0, 0x0, 0x7F, 0x0, 0x0⟩, -- LCK_STAT, R191
  ⟨0x6010, 0x4, 1, 0x0, 0x0, 0x0, 0x0, 0x0⟩, -- LCK_USED, R191
  ⟨0x6014, 0x4, 1, 0xFFF, 0x0, 0x0, 0x0, 0x0⟩, -- LCK_SEL, R191
  ⟨0x6018, 0x4, 1, 0x0, 0x0, 0x0, 0x0, 0x0⟩, -- LCK_ENT_ADDR, R191
  ⟨0x601C, 0x4, 1, 0x0, 0x0, 0x0, 0x0, 0x0⟩, -- LCK_ENT_STATE, R191
  ⟨0x6020, 0x4, 1, 0x3F, 0x0, 0x0, 0x0, 0x0⟩, -- LCK_WSEL, R191
  ⟨0x6024, 0x4, 1, 0x0, 0x0, 0x0, 0x0, 0x0⟩, -- LCK_WAIT_DATA, R191
  ⟨0x6028, 0x4, 1, 0x3FFFFFC, 0x0, 0x0, 0x0, 0x0⟩, -- LCK_FIND_ADDR, R191
  ⟨0x602C, 0x4, 1, 0x0, 0x0, 0x0, 0x0, 0x0⟩, -- LCK_FIND_RES, R191
  ⟨0x6030, 0x4, 1, 0x3FFFFFC, 0x0, 0x0, 0x0, 0x0⟩, -- LCK_HOST_ADDR, R191
  ⟨0x6034, 0x4, 1, 0x0, 0x0, 0x0, 0x0, 0x0⟩, -- LCK_HOST_CMD, R191
  ⟨0x6038, 0x4, 1, 0x0, 0x0, 0x0, 0x0, 0x0⟩, -- LCK_HOST_STAT, R191
  ⟨0x603C, 0x4, 1, 0x0, 0x0, 0x80000000, 0x0, 0x0⟩, -- LCK_CNT_ACQ, R191
  ⟨0x6040, 0x4, 1, 0x0, 0x0, 0x80000000, 0x0, 0x0⟩, -- LCK_CNT_CONT, R191
  ⟨0x6044, 0x4, 1, 0x0, 0x0, 0x80000000, 0x0, 0x0⟩, -- LCK_CNT_ABAND, R191
  ⟨0x6048, 0x4, 1, 0x0, 0x0, 0x80000000, 0x0, 0x0⟩, -- LCK_CNT_FULL, R191
  ⟨0x604C, 0x4, 1, 0x0, 0x0, 0x0, 0x0, 0x0⟩, -- LCK_ABAND_ADDR, R191
  ⟨0x6050, 0x4, 1, 0x0, 0x0, 0x0, 0x0, 0x0⟩, -- LCK_ABAND_WHO, R191
  ⟨0x6054, 0x4, 1, 0x0, 0x0, 0x0, 0x0, 0x0⟩, -- LCK_FORCE, R191
  ⟨0x6058, 0x4, 1, 0x0, 0x0, 0x0, 0x0, 0x0⟩, -- LCK_CLEAR, R191
  ⟨0x605C, 0x4, 1, 0x0, 0x0, 0x0, 0x0, 0x401000⟩, -- LCK_CAPS, R191
  ⟨0x6800, 0x4, 1, 0x0, 0x0, 0x0, 0x0, 0x0⟩, -- PMC_CAUSE, R232
  ⟨0x6804, 0x4, 1, 0x1FFF, 0x0, 0x0, 0x0, 0x0⟩] -- PMC_CAUSE_MASK, R232

/-- Rows of the table from offset 0x6808. -/
def regTable5 : List RegRow := [
  ⟨0x6808, 0x4, 1, 0x6, 0x1, 0x0, 0x0, 0x0⟩, -- PMC_CTL, R232
  ⟨0x680C, 0x4, 1, 0x0, 0x0, 0x0, 0x0, 0x0⟩, -- PMC_CMD, R232
  ⟨0x6810, 0x4, 1, 0x0, 0x0, 0x0, 0x0, 0x0⟩, -- PMC_STAT, R232
  ⟨0x6814, 0x4, 1, 0x1F3F, 0x0, 0x0, 0x0, 0x0⟩, -- PMC_SEL, R232
  ⟨0x6818, 0x4, 1, 0x1F133F, 0x0, 0x0, 0x0, 0x0⟩, -- PMC_EVT, R232
  ⟨0x681C, 0x4, 1, 0x0, 0x0, 0x0, 0x0, 0x0⟩, -- PMC_DATA_LO, R232
  ⟨0x6820, 0x4, 1, 0x0, 0x0, 0x0, 0x0, 0x0⟩, -- PMC_DATA_HI, R232
  ⟨0x6824, 0x4, 1, 0x0, 0x0, 0x3FFFF, 0x0, 0x0⟩, -- PMC_WRAP, R232
  ⟨0x6828, 0x4, 1, 0xFFFFFFFF, 0x0, 0x0, 0x0, 0x0⟩, -- PMC_USER, R232
  ⟨0x682C, 0x4, 1, 0x0, 0x0, 0x0, 0x0, 0x0⟩, -- PMC_SNAP_BC_LO, R232
  ⟨0x6830, 0x4, 1, 0x0, 0x0, 0x0, 0x0, 0x0⟩, -- PMC_SNAP_BC_HI, R232
  ⟨0x6834, 0x4, 1, 0x0, 0x0, 0x0, 0x0, 0x0⟩, -- PMC_CLR_BC_LO, R232
  ⟨0x6838, 0x4, 1, 0x0, 0x0, 0x0, 0x0, 0x0⟩, -- PMC_CLR_BC_HI, R232
  ⟨0x683C, 0x4, 1, 0x0, 0x0, 0x0, 0x0, 0x300A8⟩, -- PMC_CAPS, R232
  ⟨0x7000, 0x20, 34, 0x3F1F00, 0x0, 0x0, 0x0, 0x1F00⟩, -- MEM_BANKn_OWNER, R180
  ⟨0x7004, 0x20, 34, 0x703, 0x30, 0x0, 0x0, 0x0⟩, -- MEM_BANKn_CTL, R180
  ⟨0x7008, 0x20, 34, 0x0, 0x0, 0x7FF, 0x0, 0x0⟩, -- MEM_BANKn_STAT, R180
  ⟨0x700C, 0x20, 34, 0x0, 0x0, 0x0, 0xFFFFFFFF, 0x0⟩, -- MEM_BANKn_ERRCNT, R180
  ⟨0x7010, 0x20, 34, 0x0, 0x0, 0x0, 0xFFFF, 0x0⟩, -- MEM_BANKn_NOWN, R180
  ⟨0x7014, 0x20, 34, 0x0, 0x0, 0x0, 0x0, 0x0⟩, -- MEM_BANKn_MAP, R180
  ⟨0x7800, 0x4, 1, 0x0, 0x0, 0x0, 0x0, 0x0⟩, -- MEM_CAUSE, R180
  ⟨0x7804, 0x4, 1, 0xFFFFFFFF, 0x0, 0x0, 0x0, 0x0⟩, -- MEM_CAUSE_MASK, R180
  ⟨0x7808, 0x4, 1, 0xF, 0x0, 0x0, 0x0, 0x5⟩, -- MEM_CTL, R180
  ⟨0x780C, 0x4, 1, 0x0, 0x0, 0x0, 0x0, 0x0⟩, -- MEM_CMD, R180
  ⟨0x7810, 0x4, 1, 0xF, 0x0, 0x0, 0x0, 0x8⟩, -- MEM_MOTH_SCRUB, R180
  ⟨0x7814, 0x4, 1, 0x1FFFF, 0x0, 0x0, 0x0, 0xE10⟩, -- MEM_MOTH_MARCH, R180
  ⟨0x7818, 0x4, 1, 0x0, 0x0, 0x0, 0x0, 0x0⟩, -- MEM_MOTH_STAT, R180
  ⟨0x781C, 0x4, 1, 0x0, 0x0, 0x0, 0x0, 0x0⟩, -- MEM_ERR_ADDR, R180
  ⟨0x7820, 0x4, 1, 0x0, 0x0, 0x0, 0x0, 0x0⟩, -- MEM_ERR_INFO, R180
  ⟨0x7824, 0x4, 1, 0x1F, 0x0, 0x0, 0x0, 0x0⟩, -- MEM_CONF_SEL, R180
  ⟨0x7828, 0x4, 1, 0x0, 0x0, 0x80000000, 0x0, 0x0⟩, -- MEM_CONF_DATA, R180
  ⟨0x782C, 0x4, 1, 0x7FF, 0x0, 0x0, 0x0, 0x0⟩, -- MEM_REMAP_SEL, R180
  ⟨0x7830, 0x4, 1, 0x0, 0x0, 0x0, 0x0, 0x0⟩, -- MEM_REMAP_LO, R180
  ⟨0x7834, 0x4, 1, 0x0, 0x0, 0x0, 0x0, 0x0⟩, -- MEM_REMAP_HI, R180
  ⟨0x7838, 0x4, 1, 0x0, 0x0, 0x0, 0x0, 0x0⟩, -- MEM_REMAP_STAT, R180
  ⟨0x783C, 0x4, 1, 0x83FFFFFC, 0x0, 0x0, 0x0, 0x0⟩, -- MEM_HOST_ADDR, R180
  ⟨0x7840, 0x4, 1, 0xFFFFFFFF, 0x0, 0x0, 0x0, 0x0⟩, -- MEM_HOST_DATA, R180
  ⟨0x7844, 0x4, 1, 0xFFFFFFF, 0x0, 0x20000000, 0x0, 0x0⟩, -- MEM_PENLD, R180
  ⟨0x8000, 0x40, 32, 0x3FFFFFFF, 0x0, 0x0, 0x0, 0x0⟩, -- TMR_n_CTL, R231
  ⟨0x8004, 0x40, 32, 0x0, 0x0, 0x0, 0x0, 0x0⟩, -- TMR_n_CMD, R231
  ⟨0x8008, 0x40, 32, 0xFFFFFFFF, 0x0, 0x0, 0x0, 0x0⟩, -- TMR_n_RELOAD_LO, R231
  ⟨0x800C, 0x40, 32, 0xFFFFFFFF, 0x0, 0x0, 0x0, 0x0⟩, -- TMR_n_RELOAD_HI, R231
  ⟨0x8010, 0x40, 32, 0xFFFFFFFF, 0x0, 0x0, 0x0, 0x0⟩, -- TMR_n_MATCH_LO, R231
  ⟨0x8014, 0x40, 32, 0xFFFFFFFF, 0x0, 0x0, 0x0, 0x0⟩, -- TMR_n_MATCH_HI, R231
  ⟨0x8018, 0x40, 32, 0x0, 0x0, 0x0, 0x0, 0x0⟩, -- TMR_n_LATCH_LO, R231
  ⟨0x801C, 0x40, 32, 0x0, 0x0, 0x0, 0x0, 0x0⟩, -- TMR_n_LATCH_HI, R231
  ⟨0x8020, 0x40, 32, 0x0, 0x0, 0x0, 0x0, 0x0⟩, -- TMR_n_CAPQ, R231
  ⟨0x8024, 0x40, 32, 0x0, 0x0, 0x3F00, 0x0, 0x0⟩] -- TMR_n_STAT, R231

/-- Rows of the table from offset 0x8800. -/
def regTable6 : List RegRow := [
  ⟨0x8800, 0x4, 1, 0x0, 0x0, 0x0, 0x0, 0x0⟩, -- TMR_CAUSE, R231
  ⟨0x8804, 0x4, 1, 0xFFFFFFFF, 0x0, 0x0, 0x0, 0x0⟩, -- TMR_CAUSE_MASK, R231
  ⟨0x8808, 0x4, 1, 0xFFFFFFFF, 0x0, 0x0, 0x0, 0x0⟩, -- TMR_GRP_MASK, R231
  ⟨0x880C, 0x4, 1, 0x0, 0x0, 0x0, 0x0, 0x0⟩, -- TMR_GRP_CMD, R231
  ⟨0x8810, 0x4, 1, 0x31F, 0x0, 0x0, 0x0, 0x0⟩, -- TMR_SEL, R231
  ⟨0x8814, 0x4, 1, 0x1FFF, 0x0, 0x0, 0x0, 0x0⟩, -- TMR_DATA, R231
  ⟨0x8818, 0x4, 1, 0x0, 0x0, 0x0, 0x0, 0x0⟩, -- TMR_RUN, R231
  ⟨0x881C, 0x4, 1, 0x0, 0x0, 0x0, 0x0, 0x40F20⟩, -- TMR_CAPS, R231
  ⟨0xA000, 0x20, 64, 0x10000, 0x7F01, 0x0, 0x0, 0x0⟩, -- PEN_ENGe_CTL, R143
  ⟨0xA004, 0x20, 64, 0x0, 0xFFFFFFFF, 0x0, 0x0, 0x0⟩, -- PEN_ENGe_DIV, R143
  ⟨0xA008, 0x20, 64, 0x3F0004, 0x0, 0x0, 0x0, 0x0⟩, -- PEN_ENGe_BANK, R143
  ⟨0xA00C, 0x20, 64, 0x101FF, 0x0, 0x0, 0x0, 0x0⟩, -- PEN_ENGe_PW_ADDR, R143
  ⟨0xA010, 0x20, 64, 0x3FFF, 0x0, 0x0, 0x0, 0x0⟩, -- PEN_ENGe_PW_DATA, R143
  ⟨0xA014, 0x20, 64, 0xF3F, 0x0, 0x0, 0x0, 0x0⟩, -- PEN_ENGe_CTX_SEL, R143
  ⟨0xA018, 0x20, 64, 0xFFFFFFFF, 0x0, 0x0, 0x0, 0x0⟩, -- PEN_ENGe_CTX_DATA, R143
  ⟨0xA01C, 0x20, 64, 0x0, 0x0, 0x1FFF, 0x0, 0x0⟩, -- PEN_ENGe_STAT, R143
  ⟨0xA800, 0x4, 1, 0x0, 0x0, 0x0, 0x0, 0x0⟩, -- PEN_CAUSE, R143
  ⟨0xA804, 0x4, 1, 0xFF, 0x0, 0x0, 0x0, 0x0⟩, -- PEN_CAUSE_MASK, R143
  ⟨0xA808, 0x4, 1, 0x0, 0x0, 0x0, 0x0, 0x0⟩, -- PEN_ENGSUM_LO, R143
  ⟨0xA80C, 0x4, 1, 0x0, 0x0, 0x0, 0x0, 0x0⟩, -- PEN_ENGSUM_HI, R143
  ⟨0xA810, 0x4, 1, 0x33FF, 0x0, 0x0, 0x0, 0x106⟩, -- PEN_RB_CTL, R143
  ⟨0xA814, 0x4, 1, 0x0, 0x0, 0x0, 0x0, 0x0⟩, -- PEN_RB_LAST, R143
  ⟨0xA818, 0x4, 1, 0x0, 0x0, 0x0, 0xFFFFFFFF, 0x0⟩, -- PEN_RB_COUNT, R143
  ⟨0xA81C, 0x4, 1, 0x0, 0x0, 0x0, 0x0, 0x0⟩, -- PEN_SWITCH_ALL, R143
  ⟨0xA820, 0x4, 1, 0x0, 0x0, 0x0, 0x0, 0xFF⟩, -- PEN_GRP_STATE, R143
  ⟨0xA824, 0x4, 1, 0xFF, 0x0, 0x0, 0x0, 0x0⟩, -- PEN_FRZ_CTL, R143
  ⟨0xA828, 0x4, 1, 0x0, 0x0, 0x0, 0x0, 0x0⟩, -- PEN_HOLD_LO, R143
  ⟨0xA82C, 0x4, 1, 0x0, 0x0, 0x0, 0x0, 0x0⟩, -- PEN_HOLD_HI, R143
  ⟨0xA830, 0x4, 1, 0x0, 0x0, 0x80000000, 0x0, 0x0⟩, -- PEN_WAKE_DEFER, R143
  ⟨0xA834, 0x4, 1, 0x0, 0x0, 0x80000000, 0x0, 0x0⟩, -- PEN_OVF_COUNT, R143
  ⟨0xA838, 0x4, 1, 0x0, 0x0, 0x0, 0x0, 0x0⟩, -- PEN_STORE_COUNT, R143
  ⟨0xA83C, 0x4, 1, 0x0, 0x0, 0x0, 0x0, 0x1004040⟩, -- PEN_CAPS, R143
  ⟨0xE000, 0x40, 16, 0x1F0, 0x1, 0x0, 0x0, 0x0⟩, -- STR_QqCTL, R214
  ⟨0xE004, 0x40, 16, 0x20202020, 0x1F1F1F1F, 0x0, 0x0, 0x0⟩, -- STR_QqMODE, R214
  ⟨0xE008, 0x40, 16, 0x0, 0x0, 0xFEFEFEFE, 0x0, 0x0⟩, -- STR_QqSTAT, R214
  ⟨0xE00C, 0x40, 16, 0x0, 0x0, 0x0, 0x0, 0x0⟩, -- STR_QqPCS, R214
  ⟨0xE010, 0x40, 16, 0x707, 0x0, 0x0, 0x0, 0x0⟩, -- STR_QqSEL, R214
  ⟨0xE014, 0x40, 16, 0x0, 0xF3FFFFE0, 0x0, 0x0, 0x0⟩, -- STR_QqRING_BASE, R214
  ⟨0xE018, 0x40, 16, 0x0, 0x0, 0x0, 0x0, 0x0⟩, -- STR_QqRING_HEAD, R214
  ⟨0xE01C, 0x40, 16, 0xFFF, 0x0, 0x0, 0x0, 0x0⟩, -- STR_QqRING_TAIL, R214
  ⟨0xE020, 0x40, 16, 0xF0000, 0x3FFF, 0x0, 0x0, 0x0⟩, -- STR_QqRING_CHAN, R214
  ⟨0xE024, 0x40, 16, 0x0, 0x0, 0x0, 0x0, 0x0⟩, -- STR_QqGEAR, R214
  ⟨0xE028, 0x40, 16, 0xFFFFFFFF, 0x0, 0x0, 0x0, 0x0⟩, -- STR_QqTSADJ, R214
  ⟨0xE02C, 0x40, 16, 0x0, 0x0, 0x0, 0xFFFFFFFF, 0x0⟩, -- STR_QqCNT_DATA, R214
  ⟨0xE400, 0x4, 1, 0x0, 0x0, 0x0, 0x0, 0x0⟩, -- STR_CAUSE, R214
  ⟨0xE404, 0x4, 1, 0x3FFFF, 0x0, 0x0, 0x0, 0x0⟩, -- STR_CAUSE_MASK, R214
  ⟨0xE408, 0x4, 1, 0xFFF, 0x10000, 0x0, 0x0, 0x0⟩, -- STR_CTL, R214
  ⟨0xE40C, 0x4, 1, 0x0, 0x0, 0x0, 0x0, 0x0⟩] -- STR_LKSUM_LO, R214

/-- Rows of the table from offset 0xE410. -/
def regTable7 : List RegRow := [
  ⟨0xE410, 0x4, 1, 0x0, 0x0, 0x0, 0x0, 0x0⟩, -- STR_LKSUM_HI, R214
  ⟨0xE414, 0x4, 1, 0x103, 0x0, 0x0, 0x0, 0x0⟩, -- STR_TND_CTL, R214
  ⟨0xE418, 0x4, 1, 0x0, 0x0, 0xE, 0x0, 0x0⟩, -- STR_TND_STAT, R214
  ⟨0xE41C, 0x4, 1, 0x0, 0x3FFF, 0x0, 0x0, 0x0⟩, -- STR_TND_LINKS, R214
  ⟨0xE420, 0x4, 1, 0xFFFF03FF, 0x0, 0x0, 0x0, 0x0⟩, -- STR_TND_HB, R214
  ⟨0xE424, 0x4, 1, 0xFFFFFFFF, 0x0, 0x0, 0x0, 0x0⟩, -- STR_TND_MIRROR, R214
  ⟨0xE428, 0x4, 1, 0x0, 0x0, 0x0, 0x0, 0x0⟩, -- STR_TND_LAG, R214
  ⟨0xE42C, 0x4, 1, 0x0, 0x0, 0x0, 0x0, 0x0⟩, -- STR_TND_PEER, R214
  ⟨0xE430, 0x4, 1, 0x0, 0x0, 0x0, 0x0, 0x0⟩, -- STR_DROP_NORING, R214
  ⟨0xE434, 0x4, 1, 0x0, 0x0, 0x0, 0x0, 0x0⟩, -- STR_LOCKS, R214
  ⟨0xE438, 0x4, 1, 0x0, 0x0, 0x0, 0x0, 0x10FE40⟩, -- STR_CAPS, R214
  ⟨0xE43C, 0x4, 1, 0x1, 0x0, 0x0, 0x0, 0x0⟩, -- STR_FRZ_CTL, R214
  ⟨0x12000, 0x4, 1, 0x0, 0x0, 0x0, 0x0, 0x0⟩, -- FAB_CAUSE, R215
  ⟨0x12004, 0x4, 1, 0xFF, 0x0, 0x0, 0x0, 0x0⟩, -- FAB_CAUSE_MASK, R215
  ⟨0x12008, 0x4, 1, 0x3F0, 0x1, 0x0, 0x0, 0x0⟩, -- FAB_CTL, R215
  ⟨0x1200C, 0x4, 1, 0x0, 0x0, 0xFE, 0x0, 0x0⟩, -- FAB_STAT, R215
  ⟨0x12010, 0x4, 1, 0x0, 0x0, 0x0, 0x0, 0x101⟩, -- FAB_GEAR, R215
  ⟨0x12014, 0x4, 1, 0x0, 0xFFFFFFFF, 0x0, 0x0, 0x0⟩, -- FAB_CRD_INIT, R215
  ⟨0x12018, 0x4, 1, 0x0, 0x0, 0x0, 0x0, 0x0⟩, -- FAB_CRD_WORK, R215
  ⟨0x1201C, 0x4, 1, 0x0, 0x0, 0x0, 0x0, 0x0⟩, -- FAB_CRD_EXC, R215
  ⟨0x12020, 0x4, 1, 0x0, 0x0, 0x0, 0x0, 0x0⟩, -- FAB_CRD_DATA, R215
  ⟨0x12024, 0x4, 1, 0x0, 0x0, 0x0, 0x0, 0x0⟩, -- FAB_CRD_OUT, R215
  ⟨0x12028, 0x4, 1, 0xFF, 0x0, 0x0, 0x0, 0x0⟩, -- FAB_CLS_SEL, R215
  ⟨0x1202C, 0x4, 1, 0x0, 0x8FFF, 0x0, 0x0, 0x0⟩, -- FAB_CLS_DATA, R215
  ⟨0x12030, 0x4, 1, 0xFF, 0x0, 0x0, 0x0, 0x0⟩, -- FAB_GRP_SEL, R215
  ⟨0x12034, 0x4, 1, 0x0, 0x0, 0x0, 0x0, 0x0⟩, -- FAB_GRP_DATA, R215
  ⟨0x12038, 0x4, 1, 0xFFF, 0x0, 0x0, 0x0, 0x0⟩, -- FAB_QD_SEL, R215
  ⟨0x1203C, 0x4, 1, 0x0, 0x0, 0x0, 0x0, 0x0⟩, -- FAB_QD_DATA, R215
  ⟨0x12040, 0x4, 1, 0x0, 0x0, 0x0, 0x0, 0x0⟩, -- FAB_PEL_USED, R215
  ⟨0x12044, 0x4, 1, 0xFFF, 0x0, 0x0, 0x0, 0x0⟩, -- FAB_PEL_SEL, R215
  ⟨0x12048, 0x4, 1, 0x0, 0x0, 0x0, 0x0, 0x0⟩, -- FAB_PEL_TICKET, R215
  ⟨0x1204C, 0x4, 1, 0x0, 0x0, 0x0, 0x0, 0x0⟩, -- FAB_PEL_STATE, R215
  ⟨0x12050, 0x4, 1, 0xFFFFFF, 0x0, 0x0, 0x0, 0x0⟩, -- FAB_TMO, R215
  ⟨0x12054, 0x4, 1, 0x7FFFFFFF, 0x0, 0x0, 0x0, 0x0⟩, -- FAB_EXC_RATE, R215
  ⟨0x12058, 0x4, 1, 0x0, 0x0, 0x0, 0x0, 0x0⟩, -- FAB_EXC_STAT, R215
  ⟨0x1205C, 0x4, 1, 0x0, 0x0, 0x0, 0x0, 0x0⟩, -- FAB_LAST_TICKET, R215
  ⟨0x12060, 0x4, 1, 0x0, 0x0, 0x0, 0x0, 0x0⟩, -- FAB_LAST_FLOW, R215
  ⟨0x12064, 0x4, 1, 0x0, 0x0, 0x80000000, 0x0, 0x0⟩, -- FAB_CNT_IN, R215
  ⟨0x12068, 0x4, 1, 0x0, 0x0, 0x80000000, 0x0, 0x0⟩, -- FAB_CNT_OUT, R215
  ⟨0x1206C, 0x4, 1, 0x0, 0x0, 0x80000000, 0x0, 0x0⟩, -- FAB_CNT_EXCIN, R215
  ⟨0x12070, 0x4, 1, 0x0, 0x0, 0x80000000, 0x0, 0x0⟩, -- FAB_CNT_EXCOUT, R215
  ⟨0x12074, 0x4, 1, 0x0, 0x0, 0x80000000, 0x0, 0x0⟩, -- FAB_CNT_TMO, R215
  ⟨0x12078, 0x4, 1, 0x0, 0x0, 0x80000000, 0x0, 0x0⟩, -- FAB_CNT_FAIL, R215
  ⟨0x1207C, 0x4, 1, 0x0, 0x0, 0x80000000, 0x0, 0x0⟩, -- FAB_CNT_VER, R215
  ⟨0x12080, 0x4, 1, 0x0, 0x0, 0x80000000, 0x0, 0x0⟩, -- FAB_CNT_UNK, R215
  ⟨0x12084, 0x4, 1, 0x0, 0x0, 0x80000000, 0x0, 0x0⟩, -- FAB_CNT_REF, R215
  ⟨0x12088, 0x4, 1, 0x0, 0x0, 0x80000000, 0x0, 0x0⟩, -- FAB_CNT_NOWN, R215
  ⟨0x1208C, 0x4, 1, 0x0, 0x0, 0x80000000, 0x0, 0x0⟩] -- FAB_CNT_BP, R215

/-- Rows of the table from offset 0x12090. -/
def regTable8 : List RegRow := [
  ⟨0x12090, 0x4, 1, 0x0, 0x0, 0x0, 0x0, 0x0⟩, -- FAB_LOCKS, R215
  ⟨0x12094, 0x4, 1, 0x0, 0x0, 0x0, 0x0, 0x0⟩, -- FAB_HELD, R215
  ⟨0x12098, 0x4, 1, 0x0, 0x0, 0x0, 0x0, 0x4001000⟩, -- FAB_CAPS, R215
  ⟨0x1209C, 0x4, 1, 0x0, 0x0, 0x0, 0x0, 0x0⟩, -- FAB_PORT_TRAIN, R215
  ⟨0x14000, 0x40, 52, 0x0, 0x0, 0x0, 0x0, 0x0⟩, -- SPK_COREc_ID, R55
  ⟨0x14004, 0x40, 52, 0x7, 0x0, 0x0, 0x0, 0x0⟩, -- SPK_COREc_CTL, R55
  ⟨0x14008, 0x40, 52, 0x0, 0x7F007F, 0x0, 0x0, 0x0⟩, -- SPK_COREc_CRLEN, R55
  ⟨0x1400C, 0x40, 52, 0x0, 0x0, 0x0, 0x0, 0x0⟩, -- SPK_COREc_CRPOS, R55
  ⟨0x14010, 0x40, 52, 0x13F, 0x0, 0x0, 0x0, 0x0⟩, -- SPK_COREc_CR_SEL, R55
  ⟨0x14014, 0x40, 52, 0x0, 0xFF, 0x0, 0x0, 0x0⟩, -- SPK_COREc_CR_DATA, R55
  ⟨0x14018, 0x40, 52, 0x1F1F, 0x0, 0x0, 0x0, 0x0⟩, -- SPK_COREc_CTX_SEL, R55
  ⟨0x1401C, 0x40, 52, 0x0, 0x0, 0x0, 0x0, 0x0⟩, -- SPK_COREc_CTX_DATA, R55
  ⟨0x14020, 0x40, 52, 0x0, 0x0, 0x0, 0x0, 0x0⟩, -- SPK_COREc_BLOCKED, R55
  ⟨0x14024, 0x40, 52, 0x0, 0x0, 0x0, 0x0, 0x0⟩, -- SPK_COREc_PARKED, R55
  ⟨0x14028, 0x40, 52, 0x0, 0x0, 0xFFFFFFFF, 0x0, 0x0⟩, -- SPK_COREc_FAULT, R55
  ⟨0x1402C, 0x40, 52, 0x0, 0x0, 0x0, 0x0, 0x0⟩, -- SPK_COREc_HALTED, R55
  ⟨0x14D00, 0x4, 1, 0x0, 0x0, 0x0, 0x0, 0x0⟩, -- SPK_CAUSE, R55
  ⟨0x14D04, 0x4, 1, 0x3FFFFFFF, 0x0, 0x0, 0x0, 0x0⟩, -- SPK_CAUSE_MASK, R55
  ⟨0x14D08, 0x4, 1, 0x1FF, 0x0, 0x0, 0x0, 0x0⟩, -- SPK_DL_SEL, R55
  ⟨0x14D0C, 0x4, 1, 0x0, 0x0, 0x8, 0x0, 0x0⟩, -- SPK_DL_STAT, R55
  ⟨0x14D10, 0x4, 1, 0x0, 0x0, 0x1FFF, 0x0, 0x0⟩, -- SPK_SYS_OVF, R55
  ⟨0x14D14, 0x4, 1, 0xF3FFF, 0x0, 0x0, 0x0, 0x0⟩, -- SPK_CH_SEL, R55
  ⟨0x14D18, 0x4, 1, 0x0, 0x0, 0x0, 0x0, 0x0⟩, -- SPK_CH_STAT, R55
  ⟨0x14D1C, 0x4, 1, 0x0, 0x0, 0x0, 0x0, 0x0⟩] -- SPK_CH_DATA, R55

/-- Every register of the host window, in ascending base offset (R311). -/
def regTable : List RegRow :=
  regTable0 ++ regTable1 ++ regTable2 ++ regTable3 ++ regTable4 ++ regTable5 ++ regTable6 ++ regTable7 ++ regTable8

/-- The offset is an instance of the row. -/
def RegRow.has (r : RegRow) (off : Nat) : Bool :=
  r.base ≤ off && (off - r.base) % r.stride == 0 && (off - r.base) / r.stride < r.count

/-- The row that holds an offset, if the window has a register there (R302: any other offset of a region is RES0). -/
def findReg (off : Nat) : Option RegRow := regTable.find? (fun r => r.has off)

/-- The reset value of the register at an offset (R5). -/
def regReset (off : Nat) : Word :=
  match findReg off with
  | some r => BitVec.ofNat 32 r.reset
  | none => 0

/-- The writable fields whose value comes from the bitstream (Reset BS), by the base offset of the row (R276). -/
def bsTable : List (Nat × Nat) := [
  (0x810, 0xFFF), (0x848, 0xFFFFFFFF), (0x84C, 0x7), (0x858, 0xFFFFFFFF), (0x86C, 0x3FF), (0xC08, 0x3FF),
  (0xC0C, 0xFFFF), (0xC10, 0xFF), (0xC1C, 0xF), (0x2000, 0xFF07FFFF), (0x2108, 0xE00), (0x2114, 0x1FFFFFF),
  (0x212C, 0x3FFFF), (0x213C, 0xFFFF), (0x3014, 0x1), (0x4000, 0x7F7), (0x4004, 0xFFFF1FF7), (0x4008, 0xFFFFFFFF),
  (0x400C, 0xFFFFFFFF), (0x4010, 0xFF), (0x4014, 0xFFFF00F7), (0x4018, 0x1FFFF), (0x4800, 0x1), (0x4814, 0xFFFF7FFF),
  (0x4818, 0xFFFFF), (0x481C, 0xFFFFFFFF), (0x4820, 0xFFFFFFFF), (0x4838, 0x100), (0x6808, 0x1), (0x6818, 0x1F133F),
  (0x6828, 0xFFFFFFFF), (0x7004, 0x33), (0x7808, 0xA), (0x8000, 0x7FFFFEF), (0x8008, 0xFFFFFFFF), (0x800C, 0xFFFFFFFF),
  (0x8010, 0xFFFFFFFF), (0x8014, 0xFFFFFFFF), (0x8814, 0xFFFF), (0xA000, 0x7F01), (0xA004, 0xFFFFFFFF), (0xA008, 0x3F0004),
  (0xA010, 0x3FFF), (0xA810, 0x3000), (0xE000, 0xF1), (0xE004, 0x3F3F3F3F), (0xE014, 0xF3FFFFE0), (0xE020, 0xF3FFF),
  (0xE028, 0xFFFFFFFF), (0xE408, 0x10FFF), (0xE414, 0x3), (0xE41C, 0x3FFF), (0xE420, 0xFFFF03FF), (0xE424, 0xFFFFFFFF),
  (0x12008, 0xF1), (0x12014, 0xFFFFFFFF), (0x1202C, 0x8FFF), (0x12050, 0xFFFFFF), (0x12054, 0x7FFFFFFF), (0x14008, 0x7F007F),
  (0x14014, 0xFF)]

/-- The BS fields of the register at an offset. -/
def bsMask (off : Nat) : Nat :=
  match findReg off with
  | some r => ((bsTable.find? fun e => e.1 == r.base).map (·.2)).getD 0
  | none => 0

end Sys2Proof.Machine
end

