-- ==== Sys2Proof/Machine/State.lean ====
section
/-! DEFINITION. The state of the AY1536: plain data, one record per part of the block. Each field's docstring names the rule
of the manual that gives it; the default written beside it is its value after power-on reset. Registers of the host window
are in `regs` (a sparse table over the register table of Machine/RegTable.lean); what the manual gives a part beyond its
registers is a field of that part's record. -/
namespace Sys2Proof.Machine

/-- Why the machine stops. A hardware fault of the manual is never one of these: it is an effect in a next state. -/
inductive Fault where
  /-- Raised by the meanings of TRUNCATED_MESSAGE_ENTER, WORK_MESSAGE_DELIVER and RESULT_RECORD for a channel identifier whose
  cluster field is above 12, which names no channel (R50) and which `WellFormed` refuses. Safe: the manual has no such event. -/
  | noChannel
  deriving DecidableEq, Repr

/-- Why a command has no meaning. -/
inductive Refusal where
  /-- Raised by an arm of `exec` whose command has no meaning yet. Safe: the machine stops. -/
  | notModelled (mnemonic : String)
  deriving DecidableEq, Repr

/-! ## Cadence (R18 to R36) -/

/-- The state of an axis (R24, R25), coded as CAD_AXISn_STAT.STATE. -/
inductive AxisState where
  | off | tracking | coasting | stalled
  deriving DecidableEq, Repr

/-- The accepted levels of the two counting pins of an input: A and B, pulse and direction, or the zero crossing (R18, R19). -/
structure Lines where
  a : Bool := false
  b : Bool := false
  deriving DecidableEq, Repr

/-- One axis (R20 to R26). Positions inside the tracker are integers in units of 2^-32 counts. -/
structure Axis where
  /-- R24, R25: the state. -/
  st : AxisState := .off
  /-- R20: the position p, 40.24 fixed point. -/
  p : BitVec 64 := 0
  /-- R27: p as it stood in the previous bc, against which the step d is taken. -/
  pPrev : BitVec 64 := 0
  /-- R20: the 24-bit epoch. -/
  epoch : BitVec 24 := 0
  /-- R21: the internal prediction u, in 2^-32 counts. -/
  u : Int := 0
  /-- R21: the velocity v, in 2^-32 counts per bc, within 48 bits. -/
  v : Int := 0
  /-- R21: the velocity recorded at the last edge. -/
  vEdge : Int := 0
  /-- R21: the count of the last accepted edge. -/
  k : Int := 0
  /-- R21: the clamp interval: none while off (COASTING), else the direction of the last edge (true forward). -/
  clamp : Option Bool := none
  /-- R21: an edge has been accepted since reset, and the first-sample bc of the last one (before any: the bc of the enable). -/
  edged : Bool := false
  tEdge : Nat := 0
  /-- R23: bc from which the loss timeout of the primary counts, and that of the secondary (R26). -/
  tTimeout : Nat := 0
  tSec : Nat := 0
  /-- R19: accepted levels of the primary's and of the secondary's pins. -/
  lines : Lines := {}
  lines2 : Lines := {}
  /-- R25: a write of CTL.EN that takes effect in the next bc. -/
  enDue : Option Bool := none
  /-- R24: bc of the loss, from which the coast limit counts. -/
  tLoss : Nat := 0
  /-- R22: direction of the last edge that counted (none since enable, SET_POS or re-synchronisation). -/
  lastDir : Option Bool := none
  /-- R26: integer count of the secondary encoder. -/
  sec : Int := 0
  /-- R26: secondary minus primary, as a signed distance modulo the wrap, at the last agreeing bc. -/
  secDist : Int := 0
  /-- R26: the axis runs on the secondary. -/
  onSec : Bool := false
  /-- R26: the secondary is lost (its input failed). -/
  secLost : Bool := false
  /-- R22, R25: count integrity unconfirmed. -/
  uncertain : Bool := false
  /-- R26: the bound is exceeded now. -/
  disAct : Bool := false
  /-- R26: bc from which the bound has been exceeded. -/
  disFrom : Nat := 0
  /-- R27: the step of this bc holds a jump. -/
  jump : Bool := false
  deriving DecidableEq, Repr

/-- The state of a comparator (R27 to R30), coded as CAD_EVT_ACT.STATE. -/
inductive EvtState where
  | disarmed | armed | fired | aborted
  deriving DecidableEq, Repr

/-- One event comparator (R27 to R32). -/
structure Comparator where
  /-- R29: CAD_EVT_CFG as written (bit 6 is shown from the state). -/
  cfg : Word := 0
  /-- R31: CAD_EVT_ACT.TARGET and OWNER. -/
  act : BitVec 20 := 0
  /-- R27: the target as written. -/
  target : BitVec 64 := 0
  /-- R27: the state. -/
  st : EvtState := .disarmed
  /-- R27: the distance in the previous bc, in 2^-24 counts. -/
  dPrev : Int := 0
  /-- R30, R36: the next test is a held re-evaluation (L = 1). -/
  heldL : Bool := false
  /-- R32: the token that waits for channel room. -/
  pend : Option Word := none
  /-- R32: ACT.LOST. -/
  lost : Bool := false
  deriving DecidableEq, Repr

/-- A trigger on its way to a context of a pin engine: the bc in which it arose, and whether a timer sent it (R31, R220). -/
structure Trigger where
  eng : Nat
  ctx : Nat
  bc : Nat
  timer : Bool
  deriving DecidableEq, Repr

/-- The cadence unit. -/
structure Cadence where
  /-- R18: the 17 axes. -/
  axes : Vector Axis 17 := Vector.replicate 17 {}
  /-- R27: the 512 comparators, sparse. -/
  evts : Tab Comparator := []
  /-- R29: the staged low target half. -/
  stageLo : Word := 0
  /-- CAD_CAUSE.OWNER: an ARMP was refused. -/
  ownerRef : Bool := false
  /-- R127, R31, R220: triggers on their way to an engine context, oldest first. -/
  trigQ : List Trigger := []
  /-- R31, R220: epoch lines about to open. -/
  epochQ : List Nat := []
  deriving DecidableEq, Repr

/-! ## Spokes (R37 to R119) -/

/-- The state of a spoke (R37), coded as the context state item of R55. -/
inductive SpokeState where
  | deferred | run | blocked | halted | stopped
  deriving DecidableEq, Repr

/-- The stop cause (R55). -/
inductive StopCause where
  | own | master | fault | kill | retired
  deriving DecidableEq, Repr

/-- What a blocked spoke waits for, with what it needs to complete (R51, R52, R184). -/
inductive Wait where
  | input (ch : Nat) (rd : GReg)
  | closing (ch : Nat) (w : Word) (urgent : Bool)
  | position (ch : Nat) (rd : GReg)
  | lock (addr : Nat) (rd : GReg)
  deriving DecidableEq, Repr

/-- A register of a spoke that an instruction names (R77, R258). -/
inductive SpokeReg where
  | g (r : GReg)
  | a (r : AReg)
  | v (r : VReg)
  | s (r : SReg)
  deriving DecidableEq, Repr

/-- Where a load result goes (R81, R86). -/
inductive LoadDest where
  | g (r : GReg)
  | v (r : VReg)
  deriving DecidableEq, Repr

/-- A response on its way to a spoke (R61, R162, R84). -/
structure Flight where
  /-- R84: a device access (else a bank access). -/
  device : Bool
  /-- R162: the destination; none for a store. -/
  dest : Option LoadDest
  /-- the bytes read, the lowest address in bits 7:0 -/
  data : MemWord
  /-- R86: sign-extend. -/
  sx : Bool
  /-- R165: a split LD or VLD, whose upper half may be read later. -/
  tear : Bool
  /-- R61: an error response. -/
  err : Bool
  /-- R61: the PC of the access. -/
  pc : BitVec 18
  /-- R260: the issue unit of a paired leader. -/
  seq : Nat
  /-- R164: the memory words the access needs (one or two). -/
  words : List Nat
  /-- R332: the byte address and the size. -/
  addr : Nat
  size : Nat
  /-- R84, R163: effects of a paired leader that its gate has still to release before the read takes place. -/
  behind : Nat := 0
  deriving DecidableEq, Repr

/-- A delay slot that is due (R67). -/
structure DelaySlot where
  branch : BitVec 18
  /-- R67: the target of a taken branch; none where the branch was not taken. -/
  target : Option (BitVec 18)
  /-- R67: annulled by a branch not taken. -/
  annul : Bool
  /-- R90: the branch links: g15 takes the address behind the slot. -/
  link : Bool
  deriving DecidableEq, Repr

/-- A request that takes effect at the next issue-unit boundary (R62). -/
inductive BoundaryReq where
  | halt | stop (c : StopCause)
  /-- R61: a fault already recorded, with its code, and a halt that came while it waited. -/
  | fault (code : Nat) (halt : Bool)
  deriving DecidableEq, Repr

/-- An input of the replay buffer (R260): the value with its flags. -/
structure Input where
  /-- R260: the issue unit of the pair that takes it. -/
  seq : Nat
  data : MemWord
  eom : Bool
  che : Bool
  /-- R260: bytes the entry takes in the replay buffer. -/
  bytes : Nat
  deriving DecidableEq, Repr

/-- One spoke (R37, R77). -/
structure Spoke where
  /-- R37: the program counter, in parcels. -/
  pc : BitVec 18 := 0
  /-- R77: g0 to g15. -/
  g : Vector Word 16 := Vector.replicate 16 0
  /-- R77: a0 to a3. -/
  a : Vector Acc 4 := Vector.replicate 4 0
  /-- R77: v0 to v7. -/
  v : Vector MemWord 8 := Vector.replicate 8 0
  /-- R77, R79: s0 to s7. -/
  s : Vector (BitVec 64) 8 := Vector.replicate 8 0
  /-- R78: TSW, REPN in bits 22:16. -/
  tsw : Word := 0
  /-- R37: the state. -/
  st : SpokeState := .deferred
  /-- R55: the stop cause. -/
  cause : StopCause := .own
  /-- R279: the configuration lists the spoke. -/
  listed : Bool := false
  /-- R37: elastic. -/
  elastic : Bool := false
  /-- R37: declared deferred. -/
  deferredDecl : Bool := false
  /-- R44, R279: the elastic pool's way is B. -/
  poolB : Bool := false
  /-- R37: elastic group. -/
  egroup : BitVec 4 := 0
  /-- R54: deadlock group, if any. -/
  dlgroup : Option (Fin 32) := none
  /-- R259: the pair, and whether this spoke leads it. -/
  pair : Option (Nat × Bool) := none
  /-- R279: the entry PC and the initial TSW and segments. -/
  entry : BitVec 18 := 0
  tsw0 : Word := 0
  s0 : Vector (BitVec 64) 8 := Vector.replicate 8 0
  /-- R55: what it waits for while BLOCKED. -/
  wait : Option Wait := none
  /-- R191: the reserved memory word. -/
  resv : Option Nat := none
  /-- R59, R61: responses in flight, oldest first. -/
  flight : List Flight := []
  /-- R61, R186: destinations whose pending bit stays set with no response on its way: a failed load's, or those of a
  paired leader's request that its commit gate still holds. -/
  stuck : List LoadDest := []
  /-- R55, R97: last fault code. -/
  fcode : BitVec 8 := 0
  /-- R95: last fault detail. -/
  fdetail : BitVec 8 := 0
  /-- R61: the PC of the failed access, until the spoke is released. -/
  failPc : Option (BitVec 18) := none
  /-- R67: the delay slot due. -/
  slot : Option DelaySlot := none
  /-- R62: a halt or stop that waits for the boundary. -/
  req : Option BoundaryReq := none
  /-- R326: the state before a debugger halt. -/
  prior : SpokeState := .run
  /-- R73: the fetch buffer may hold words of before the latest PST of this spoke: no PSYNC has emptied it since. -/
  stale : Bool := false
  /-- R268: µs left of its watchdog. -/
  wdgLeft : Nat := 0
  /-- R258: registers whose parity is wrong; no row brings an upset about (log entry 89). -/
  badRegs : List SpokeReg := []
  /-- R258: the checksum of the next effect does not match where it lands (log entry 89). -/
  badCheck : Bool := false
  /-- R45: this spoke has made its group urgent, and an urgent message has come that makes it so once the spoke is eligible. -/
  urgent : Bool := false
  urgeDue : Bool := false
  /-- R84: holds of BLK_BC_LO (R314) for this reader. -/
  bcHold : Word := 0
  /-- R229: hold of its performance counter reads. -/
  pmcHold : BitVec 16 := 0
  deriving DecidableEq, Repr

/-- The role of a core (R38, R55). -/
inductive CoreRole where
  | service | spare | lent | retired
  deriving DecidableEq, Repr

/-- One physical core (R38, R39, R44). -/
structure Core where
  /-- R38: the core number served. -/
  logical : Nat
  /-- R55: the role. -/
  role : CoreRole
  /-- R39: the sc count at which its ways last stood at entry 0. -/
  crStart : Nat := 0
  /-- R44: the most recently granted spoke of the pools of way A and way B. -/
  lastA : Nat := 31
  lastB : Nat := 31
  /-- R74: instructions issued in the bc at hand, oldest first: the spoke index, and whether it has effect. -/
  used : List (Nat × Bool) := []
  /-- R264: the spare gives a third opinion. -/
  voting : Bool := false
  deriving DecidableEq, Repr

/-! ## Channels (R50 to R54) -/

/-- The kind of a channel endpoint, in the coding of SPK_CH_STAT.WKIND. -/
inductive EndKind where
  | none | spoke | engine | cadence | timer | dma | fabric | lock | mailbox | terminal | system
  deriving DecidableEq, Repr

/-- A channel endpoint (R50): its kind and its identity number. -/
structure Endpoint where
  kind : EndKind := .none
  id : Nat := 0
  deriving DecidableEq, Repr

/-- One FIFO entry (R50, R53, R45). -/
structure ChanWord where
  word : Word
  last : Bool
  trunc : Bool
  urgent : Bool
  /-- R258: a double error stands in the word (log entry 89). -/
  bad : Bool := false
  deriving DecidableEq, Repr

/-- One channel (R50 to R53). -/
structure Chan where
  /-- R50: the writer endpoint. -/
  writer : Endpoint := {}
  /-- R50: the reader endpoint. -/
  reader : Endpoint := {}
  /-- R50: the FIFO, oldest first, at most eight entries. -/
  fifo : List ChanWord := []
  /-- R50: the staging area, at most four words. -/
  staged : List Word := []
  /-- R53: truncated messages that wait for room, oldest first. -/
  waiting : List (List ChanWord) := []
  /-- R53: the rest of a message is being discarded. -/
  rdisc : Bool := false
  /-- R53: the reader has taken part of a message. -/
  inMsg : Bool := false
  /-- R258: a word of it had a double error. -/
  inBad : Bool := false
  deriving DecidableEq, Repr

/-- A deadlock group (R54). -/
structure DlGroup where
  /-- R54: recorded detection. -/
  deadlock : Bool := false
  /-- R54: bc for which the condition has held, saturating at 1024, and whether the episode has been reported. -/
  elapsed : Nat := 0
  reported : Bool := false
  deriving DecidableEq, Repr

/-! ## Paired spokes and availability (R259 to R275) -/

/-- An effect that leaves a spoke (R57, R261). -/
inductive Effect where
  | store (addr : Nat) (bytes : List Byte) (o : MemOutcome)
  | condStore (addr : Nat) (w : Word) (o : MemOutcome)
  | device (off : Nat) (w : Word)
  | stage (ch : Nat) (w : Word)
  | close (ch : Nat) (w : Word) (urgent : Bool)
  | lockReq (op : Nat) (addr : Nat) (rd : GReg)
  | arm (c : Nat) (target : BitVec 64)
  | program (word : Nat) (w : BitVec 56)
  | setctx (target : Nat) (i : CtxItem) (w : Word)
  | setseg (target : Nat) (i : SReg) (d : BitVec 64)
  | release (target : Nat)
  | stop (target : Nat)
  /-- R263: the leader has met a fault at EX; the follower must meet the same. -/
  | exFault (code : Nat) (detail : Nat) (pc : BitVec 18)
  deriving DecidableEq, Repr

/-- The state of a pair (R275), coded as AVL_PAIR_STAT.STATE. -/
inductive PairState where
  | unused | running | replay | vote | repairing | safe
  deriving DecidableEq, Repr

/-- What a checkpoint keeps of a spoke's context (R37, R262). -/
structure Context where
  pc : BitVec 18
  g : Vector Word 16
  a : Vector Acc 4
  v : Vector MemWord 8
  s : Vector (BitVec 64) 8
  tsw : Word
  resv : Option Nat
  deriving DecidableEq, Repr

/-- One pair (R259 to R266). -/
structure Pair where
  /-- R259: leader and follower global numbers; 0x7FF unused. -/
  leader : BitVec 11 := 0x7FF
  follower : BitVec 11 := 0x7FF
  /-- R266: the safe reaction. -/
  react : BitVec 2 := 0
  /-- R272: checkpoint records go to the partner. -/
  mirror : Bool := false
  /-- R275: the state. -/
  st : PairState := .unused
  /-- R261: effects held in the commit gate, oldest first, at most 16. -/
  gate : List Effect := []
  /-- R260: the replay buffer's inputs since the checkpoint, oldest first. -/
  log : List Input := []
  /-- R259: issue units that the leader and the follower have completed. -/
  nL : Nat := 0
  nF : Nat := 0
  /-- R262: the last agreed checkpoint, and the units completed before it. -/
  ckpt : Option Context := none
  ckptN : Nat := 0
  /-- R262: a capture of the leader that waits for the follower, and the units completed before it. -/
  pend : Option Context := none
  pendN : Nat := 0
  /-- R261, R262: effects released since the previous checkpoint, whose signatures the replay buffer holds. -/
  sigs : List Effect := []
  /-- R263: released effects that a replay has still to compare. -/
  skip : List Effect := []
  /-- R264: the spare core that gives the third opinion. -/
  voter : Option Nat := none
  /-- R263: a mismatch was found and its replay is due. -/
  mismatch : Bool := false
  /-- R262: sc since the leader's last checkpoint, in bc. -/
  since : Nat := 0
  /-- R262: bc for which the latest capture is still being stored. -/
  storing : Nat := 0
  /-- R262, R272: checkpoint sequence. -/
  seq : BitVec 16 := 0
  /-- R275: counts. -/
  cntTrans : BitVec 16 := 0
  cntLast : BitVec 8 := 0
  cntForced : BitVec 8 := 0
  /-- R263, R326: a halt, stop or kill that waits for the replay or vote to end. -/
  req : Option BoundaryReq := none
  /-- R329: DBG_PAIR_MAINT. -/
  maint : Bool := false
  /-- R329: a write of MAINT = 0 waits for the release of the halted pair. -/
  maintDrop : Bool := false
  /-- R260: the unit whose input a queued lock request's status will be, where the request came from the gate. -/
  lockSeq : Option Nat := none
  /-- R272: the latest record received from the partner. -/
  record : Option (List MemWord) := none
  deriving DecidableEq, Repr

/-- An entry of the fault log (R275). -/
structure LogEntry where
  kind : BitVec 4
  code : BitVec 8
  who : BitVec 11
  time : BitVec 32
  deriving DecidableEq, Repr

/-- The availability logic beside its registers. -/
structure Avl where
  /-- R259: pairs, sparse. -/
  pairs : Tab Pair := []
  /-- R275: the fault log, newest first, at most 64 entries; kept in VAON. -/
  log : List LogEntry := []
  /-- R269: µs left of each cluster watchdog. -/
  clLeft : Vector Nat 13 := Vector.replicate 13 0
  /-- R350, R351: clusters in recovery, and those whose recovery waits for a molt. -/
  recovering : BitVec 13 := 0
  recoverDue : BitVec 13 := 0
  /-- R270: ms left of the block watchdog. -/
  bwdgLeft : Nat := 0
  /-- R270: 0xA5A5 has been written and 0x5A5A is due. -/
  bwdgKey : Bool := false
  /-- R273: the role, coded as AVL_TKOV.ROLE. -/
  role : BitVec 2 := 0
  /-- R273: a TAKE waits for the partner's confirmation. -/
  taking : Bool := false
  /-- R349: bc of the commit, while a partner's claim may still override the role. -/
  roleWindow : Option Nat := none
  deriving DecidableEq, Repr

/-! ## Main memory (R155 to R180) -/

/-- A pending handover (R157). -/
structure Handover where
  next : BitVec 5
  /-- R157: the epoch line that must open first; none once draining. -/
  line : Option Nat
  deriving DecidableEq, Repr

/-- One logical bank beside its registers (R156, R157). -/
structure Bank where
  /-- R156: the owner code. -/
  owner : BitVec 5 := 0x13
  /-- R157: the handover not yet at H. -/
  pending : Option Handover := none
  /-- R176: the physical array that serves it. -/
  phys : Nat
  /-- R278, R344: the owner that the bitstream gives at commit. -/
  bsOwner : BitVec 5 := 0x1F
  deriving DecidableEq, Repr

/-- The role of a physical array (R180). -/
inductive ArrayRole where
  | service | spare | retired | target
  deriving DecidableEq, Repr

/-- A row repair (R175): physical array, sub-array, row. -/
structure RowRef where
  phys : Nat
  sub : Nat
  row : Nat
  deriving DecidableEq, Repr

/-- Main memory and the moth. -/
structure Memory where
  /-- R155: the bytes, as Host cells: addresses rising, none listed that reads 0 (R342). -/
  cells : List Host.Cell := []
  /-- R166, R169: the bits in error of a word whose 288 bits are no codeword, by word index: one that entered so through the fabric port,
  or a poisoned one. -/
  errs : Tab (BitVec 288) := []
  /-- R155: the 32 logical banks. -/
  banks : Vector Bank 32 := Vector.ofFn fun i => { phys := i.val }
  /-- R176: the roles of the 34 physical arrays. -/
  roles : Vector ArrayRole 34 := Vector.ofFn fun i => if i.val < 32 then .service else .spare
  /-- R175: row remaps in effect, with the spare row used. -/
  rows : List (RowRef × Nat) := []
  /-- R175: row copies in progress. -/
  rowCopies : List RowRef := []
  /-- R175: rows recorded for MEM_CMD.ROW. -/
  rowDue : List RowRef := []
  /-- R176: the bank copy in progress: logical bank, target array. -/
  copying : Option (Nat × Nat) := none
  /-- R176: banks that call for sparing. -/
  spNeed : List Nat := []
  /-- R176: banks whose sparing waits for the copy in progress. -/
  spWait : List Nat := []
  /-- R176: MEM_CAUSE.SPDONE. -/
  spDone : Bool := false
  /-- R173: march regions done in the pass, the current region, and completed passes. -/
  region : Nat := 0
  passes : BitVec 8 := 0
  /-- R176: rows with lasting march failures, key array * 8 + sub-array. -/
  marchFails : Tab (List Nat) := []
  /-- R168, R169: words known to hold a lasting DUE, which a copy writes as poison. -/
  due : List Nat := []
  /-- R177: the three copies of the remap log, oldest entry first. -/
  remap : Vector (List (BitVec 64)) 3 := Vector.replicate 3 []
  /-- R177: entries not yet acknowledged. -/
  unmir : Nat := 0
  /-- R161: conflict counters of the 22 requesters. -/
  conf : Vector (BitVec 48) 22 := Vector.replicate 22 0
  /-- R179: bc since GO of the shadow load in progress. -/
  penldAge : Nat := 0
  /-- R342: the cold-start zero writing has ended. -/
  initDone : Bool := false
  /-- R168: words queued for a moth visit. -/
  visits : List Nat := []
  deriving DecidableEq, Repr

/-! ## Locks (R181 to R191) -/

/-- The state of a lock entry (R182), coded as LCK_ENT_STATE.STATE. -/
inductive LockState where
  | free | held | halted | abandoned
  deriving DecidableEq, Repr

/-- One entry of the lock table (R182). -/
structure LockEntry where
  st : LockState := .free
  /-- R181: the byte address. -/
  addr : Nat := 0
  /-- R185: the holder identity. -/
  holder : BitVec 16 := 0
  /-- R182: the waiters, head first. -/
  waiters : List (BitVec 16) := []
  deriving DecidableEq, Repr

/-- The lock unit. -/
structure Locks where
  /-- R182: the table, sparse. -/
  table : Tab LockEntry := []
  /-- R189: losses on their way to the unit. -/
  losses : List (BitVec 16) := []
  /-- R185: replies that wait for channel room, oldest first, by context number engine * 64 + context. -/
  replies : Tab (List Word) := []
  /-- R185: a queued host ACQ (its address). -/
  hostPend : Option Nat := none
  /-- R189: peak occupancy. -/
  peak : Nat := 0
  deriving DecidableEq, Repr

/-! ## Links (R192 to R203) -/

/-- The gear exchange of a link (R197). -/
inductive GearPhase where
  | down | announcing | confirming | failed | done
  deriving DecidableEq, Repr

/-- An open TX descriptor (R196). -/
structure OpenTx where
  index : Nat
  stream : BitVec 8
  seq : BitVec 16
  /-- R194: it asks for ACK. -/
  ask : Bool
  retried : Bool
  lock : Option Nat
  /-- R199: the lock grant carried ABANDONED. -/
  abandoned : Bool
  stamp : BitVec 64
  /-- R198: the descriptor as read. -/
  desc : MemWord
  /-- R194: the payload as sent. -/
  words : List MemWord
  /-- R196: bc of the latest END block. -/
  since : Nat
  deriving DecidableEq, Repr

/-- What goes out on a link (R192, R194). -/
inductive LinkOut where
  /-- R192: an IEEE 802.3 frame with padding and FCS. -/
  | eth (bytes : List Byte)
  /-- R194: START, the payload, END. -/
  | frame (start : List Byte) (payload : List MemWord) (finish : List Byte)
  /-- R194: any other control block. -/
  | block (bytes : List Byte)
  deriving DecidableEq, Repr

/-- One link with its rings (R197 to R200). -/
structure Link where
  /-- R192: the link is up. -/
  up : Bool := false
  /-- R192: block lock or sync. -/
  sync : Bool := false
  /-- R197: the gear exchange. -/
  gear : GearPhase := .down
  major : BitVec 8 := 0
  minor : BitVec 8 := 0
  caps : BitVec 8 := 0
  gearValid : Bool := false
  /-- R198: HEAD and TAIL of the RX and TX rings. -/
  rxHead : BitVec 12 := 0
  rxTail : BitVec 12 := 0
  txHead : BitVec 12 := 0
  txTail : BitVec 12 := 0
  /-- R200: completions since the last token, and the token that waits. -/
  rxCount : Nat := 0
  txCount : Nat := 0
  rxTok : Option Word := none
  txTok : Option Word := none
  /-- R195: the last sequence seen of each stream; none before the baseline. -/
  seqIn : Tab (BitVec 16) := []
  /-- R195: frames whose RETRY has been sent and whose resent frame is due: stream, sequence, and whether the sequence had a gap. -/
  retrySent : List (BitVec 8 × BitVec 16 × Bool) := []
  /-- R194: the next sequence sent of each stream. -/
  seqOut : Tab (BitVec 16) := []
  /-- R196: open TX descriptors, oldest first. -/
  openTx : List OpenTx := []
  /-- R199: the TX lock it waits for: address. -/
  txWait : Option Nat := none
  /-- R199: TX descriptor lock granted and not yet used, with its ABANDONED mark. -/
  txGrant : Option (Nat × Bool) := none
  /-- R214: the seven counters frames, CRC, retried, SEQGAP, BADBLK, FCS, NOACK. -/
  cnt : Vector Word 7 := Vector.replicate 7 0
  deriving DecidableEq, Repr

/-- Stream DMA and the tandem link. -/
structure Streams where
  links : Tab Link := []
  /-- R202: mirrored writes waiting to be sent: word index and data, oldest first. -/
  mirrorQ : List (Nat × MemWord) := []
  /-- R202: mirroring in sync. -/
  inSync : Bool := false
  /-- R202: mirrored writes sent and not acknowledged, with those waiting. -/
  lag : Nat := 0
  /-- R202: banks still to be copied by a resync, and the next word of the first. -/
  resync : List Nat := []
  resyncAt : Nat := 0
  /-- R214: STR_DROP_NORING has wrapped. -/
  dropWrap : Bool := false
  /-- R201: the partner's last heartbeat count and role. -/
  peerCount : Word := 0
  peerRole : BitVec 2 := 0
  /-- R201: this block's heartbeat count. -/
  hbCount : Word := 0
  /-- R203: bc of the last valid heartbeat. -/
  hbLast : Nat := 0
  /-- R201: bc of the last heartbeat sent. -/
  hbSent : Nat := 0
  /-- R199: locks held by STR: address and link. -/
  locks : List (Nat × Nat) := []
  /-- R192, R194: frames and blocks sent, newest first, with their link. -/
  sent : List (Nat × LinkOut) := []
  deriving DecidableEq, Repr

/-! ## Fabric port (R204 to R215) -/

/-- The state of a peloton entry (R215), coded as FAB_PEL_STATE.STATE. -/
inductive PelState where
  | free | queued | dispatched | recorded | held
  deriving DecidableEq, Repr

/-- One peloton entry (R210). -/
structure Peloton where
  st : PelState := .free
  ticket : Word := 0
  flow : BitVec 20 := 0
  rver : BitVec 16 := 0
  /-- R210: arrival order. -/
  order : Nat := 0
  /-- R212: an EXC descriptor. -/
  exc : Bool := false
  /-- R207: the spoke that holds it. -/
  spoke : Option Nat := none
  status : BitVec 4 := 0
  /-- R206: the descriptor. -/
  desc : Vector Word 32 := Vector.replicate 32 0
  /-- R209: the recorded result words, and the further messages still due. -/
  result : List Word := []
  due : Nat := 0
  /-- R211: the FAB lock taken for it. -/
  lock : Option Nat := none
  /-- R210: bc of dispatch. -/
  since : Nat := 0
  deriving DecidableEq, Repr

/-- A descriptor in delivery on a work channel (R208). -/
structure Delivery where
  words : List Word
  urgent : Bool
  deriving DecidableEq, Repr

/-- A beat that the block sends (R204, R209). -/
inductive OutBeat where
  /-- R209: status, ACT with its argument, and the 32 words of the beat; where in the beat status and ACT stand is not given. -/
  | result (status : BitVec 4) (act : BitVec 3) (arg : Word) (words : List Word)
  | readRsp (head : MemWord) (words : List CodeWord)
  | werr (head : MemWord)
  deriving DecidableEq, Repr

/-- The fabric port. -/
structure Fabric where
  up : Bool := false
  /-- R204: credits held by the surroundings. -/
  crdWork : Nat := 0
  crdExc : Nat := 0
  crdData : Nat := 0
  /-- R204: credits held by the block. -/
  crdResult : Nat := 0
  crdRsp : Nat := 0
  /-- R205: credits withheld until the peloton has room. -/
  oweWork : Nat := 0
  oweExc : Nat := 0
  oweData : Nat := 0
  /-- R204: READRSP and WERR beats that wait for an RSP credit, oldest first. -/
  rspQ : List OutBeat := []
  /-- R210: the 4,096 entries, sparse. -/
  peloton : Tab Peloton := []
  /-- R207: dispatch buffer: (group*16+priority, entry), oldest first. -/
  queue : List (Nat × Nat) := []
  /-- R207: spoke index last served per group. -/
  lastServed : Tab Nat := []
  /-- R208: descriptors in delivery per channel. -/
  deliver : Tab (Option Delivery) := []
  /-- R209: per result channel, the entry whose further messages are due (4,096: discarded) and how many. -/
  gather : Tab (Nat × Nat) := []
  /-- R207: a queued descriptor whose lock request waits, and grants that came: entry, abandoned. -/
  lockWait : List Nat := []
  lockGrant : List (Nat × Bool) := []
  /-- R212: tokens of the exception bucket, and 1,024ths of the next one. -/
  tokens : Nat := 0
  tokenAcc : Nat := 0
  /-- R354: initial credits of each class have come from the surroundings. -/
  gotResult : Bool := false
  gotRsp : Bool := false
  nextOrder : Nat := 0
  lastTicket : Word := 0
  lastFlow : BitVec 20 := 0
  /-- R204: beats sent, newest first. -/
  sent : List OutBeat := []
  deriving DecidableEq, Repr

/-! ## Timers and performance counters (R216 to R232) -/

/-- One timer (R216). -/
structure Timer where
  count : BitVec 64 := 0
  reload : BitVec 64 := 0
  match_ : BitVec 64 := 0
  /-- R217: staged low halves. -/
  reloadLo : Word := 0
  matchLo : Word := 0
  /-- R216: prescaler. -/
  pre : Nat := 0
  run : Bool := false
  /-- R216, R226: bc that have passed and are not yet counted: an event is due, or freewheel counts at the next LFCLK edge. -/
  owed : Nat := 0
  /-- R218: a command replaced the tick of this bc. -/
  replaced : Bool := false
  /-- R222: the latch. -/
  latch : BitVec 64 := 0
  /-- R224: the capture queue: count and input, oldest first, at most four. -/
  capq : List (BitVec 64 × Bool) := []
  /-- R221: the token that waits. -/
  tok : Option Word := none
  /-- R221: tokens produced, modulo 2^24. -/
  seq : BitVec 24 := 0
  /-- R226: a zero and a match event have fired within this LFCLK edge. -/
  fwZero : Bool := false
  fwMatch : Bool := false
  /-- R219, R220: link actions that act in the next bc: source timer and action. -/
  linkDue : List (Nat × Nat) := []
  /-- R223: COUNT at the end of the last bc and of the one before. -/
  past0 : BitVec 64 := 0
  past1 : BitVec 64 := 0
  /-- R223: captures of comparators and timers on their way to the queue, oldest first: input, COUNT, source bc. -/
  capDue : List (Nat × BitVec 64 × Nat) := []
  deriving DecidableEq, Repr

/-- The performance counters of one core (R227). -/
structure PmcCore where
  ctr : Vector (BitVec 48) 18 := Vector.replicate 18 0
  shadow : Vector (BitVec 48) 18 := Vector.replicate 18 0
  wrap : BitVec 18 := 0
  evt : Vector Word 8 := Vector.replicate 8 0
  user : Word := 0
  deriving DecidableEq, Repr

/-- Performance counters beside their registers (R229). -/
structure Pmc where
  cores : Tab PmcCore := []
  frozen : Bool := false
  snapValid : Bool := false
  /-- R229: the holds of the host port and the debug bus master. -/
  holdHost : BitVec 16 := 0
  holdDbg : BitVec 16 := 0
  deriving DecidableEq, Repr

/-! ## Power and field energy (R233 to R253) -/

/-- One transfer on a PMBus port (R243). -/
structure PmbXfer where
  addr : BitVec 7
  cmd : BitVec 8
  data : BitVec 16
  read : Bool
  /-- RATE and PEC of PMB_CTL -/
  fast : Bool
  pec : Bool
  deriving DecidableEq, Repr

/-- The power manager beside its registers; all in VAON. -/
structure Power where
  /-- R236: downshift causes. -/
  dsSag : Bool := false
  dsTherm : Bool := false
  dsForced : Bool := false
  /-- R239: the core domains are held after a trip. -/
  tripHold : Bool := false
  /-- R237: bc since VCORE last crossed its warning level. -/
  sagAge : Nat := 0
  /-- R237: bc of downshift that make no full µs yet. -/
  dsPart : Nat := 0
  /-- R235: the set point in use, in mV. -/
  vset : BitVec 10 := 750
  /-- R234: the set point before the last change, and bc left in which the lower of the two gives the levels. -/
  vsetOld : BitVec 10 := 750
  vsetWait : Nat := 0
  /-- R235: bc until another step may be taken. -/
  avsWait : Nat := 0
  /-- R252: VCORE measured, in mV (free, log entry 4). -/
  vmeas : BitVec 10 := 0
  /-- R239: sensor readings. -/
  temps : Vector (BitVec 12) 8 := Vector.replicate 8 0
  /-- R239: the highest reading since last cleared, none before the first. -/
  tempMax : Option (BitVec 12) := none
  /-- R240: monitor margins, in 0.01 %. -/
  margins : Vector (BitVec 16) 16 := Vector.replicate 16 0
  /-- R240: monitors excluded from M. -/
  excluded : BitVec 16 := 0
  /-- R240: references. -/
  ageRef : Vector Word 16 := Vector.replicate 16 0
  /-- R242: FRESH. -/
  fresh : Bool := true
  /-- R241: LDG_MARGIN holds a lifetime worst margin, measured or written. -/
  marginSet : Bool := false
  /-- R241: swing tracking of the sensor mean: the extreme held, whether it rises, and whether 40 °C up has been seen. -/
  swingMin : Int := 0x100000
  swingMax : Int := 0
  swingUp : Bool := false
  /-- R241: sums of the sensors over the hour and their samples. -/
  hourSum : Int := 0
  hourN : Nat := 0
  /-- R235: bc left in which no downward step is taken after a sag. -/
  sagHold : Nat := 0
  /-- R244: the sequence table. -/
  seqTab : Vector Word 32 := Vector.replicate 32 0
  /-- R244: the running sequence: true up, and the entries still to do. -/
  seqRun : Option (Bool × List Nat) := none
  /-- R244: bc since the running step began. -/
  seqAge : Nat := 0
  /-- R252: PMB_STAT.REF. -/
  seqRef : Bool := false
  /-- R243: raw transfers that host software has called for and that have not been made: read or write, and PMB_RAW. -/
  rawDue : List (Bool × Word) := []
  /-- R243: per port, the transfers of the latest step, raw command or poll. -/
  bus : Vector (List PmbXfer) 2 := Vector.replicate 2 []
  /-- R245: telemetry: four raw values per entry. -/
  tel : Tab (Vector (BitVec 16) 4) := []
  /-- R233: rails above their reset level: VCORE, VMEM, VSD, VDBG. -/
  vcoreGood : Bool := true
  vmemGood : Bool := true
  vsdGood : Bool := true
  vdbgGood : Bool := false
  /-- R252: RAIL_GOOD as the last bc has left it. -/
  railGood : BitVec 13 := 0
  /-- R252: rail voltages in mV, in the order of RAIL_GOOD (free, log entry 4). -/
  rails : Vector (BitVec 16) 13 := Vector.replicate 13 0
  deriving DecidableEq, Repr

/-- One pin group of the energy governor (R246 to R253). -/
structure NrgGroup where
  /-- R246: the straps. -/
  straps : Straps := ⟨0, 0, 0, 0⟩
  /-- R247: LIM_I in mA and LIM_E in nJ. -/
  limI : BitVec 10 := 0
  limE : BitVec 16 := 0
  /-- R247: the 64 pin limits: value n gives n + 1 mA. -/
  pinLim : Vector (BitVec 4) 64 := Vector.replicate 64 0
  /-- R248: the last sample of each pad, in 0.25 mA, clamped at the pin's limit; what a pad would draw is free (log entry 4). -/
  cur : Vector (BitVec 8) 64 := Vector.replicate 64 0
  /-- R249: consecutive samples of each pin at its limit. -/
  dwell : Vector (BitVec 5) 64 := Vector.replicate 64 0
  /-- R248: VIO × group current of the last 1,000 samples, in mV × 0.25 mA, newest first. -/
  ring : List Nat := []
  /-- R249: an exceed of this bc has been counted. -/
  judged : Bool := false
  /-- R248: group current and ledger value with their peaks. -/
  iNow : BitVec 12 := 0
  iPeak : BitVec 12 := 0
  eNow : BitVec 16 := 0
  ePeak : BitVec 16 := 0
  /-- R250: folded back. -/
  fold : Bool := false
  /-- R250: every pin floats after an OV exceed. -/
  ovFloat : Bool := false
  /-- R234: VIO good. -/
  vioGood : Bool := false
  deriving DecidableEq, Repr

/-! ## Chrysalis mode (R144 to R154) -/

/-- What a pin does (R149). -/
inductive PinDrive where
  | float | low | high | pullDown | pullUp
  deriving DecidableEq, Repr

/-- One chrysalis sequencer (R144 to R154); in VAON. -/
structure Chrysalis where
  /-- R144: words 32 to 47 of the store; words 0 to 31 are mask ROM (Machine.romWords). -/
  store : Vector (BitVec 24) 16 := Vector.replicate 16 0
  /-- R145: the group is in chrysalis mode. -/
  active : Bool := true
  /-- R145: active causes: bit c for cause c. -/
  causes : BitVec 8 := 0b10
  /-- R146: the cause 0b001 comes from a loss in operation. -/
  vioLoss : Bool := false
  /-- R148: the registers. -/
  s : BitVec 32 := 0
  k : BitVec 18 := 0
  a : BitVec 20 := 0
  f : Bool := false
  pc : BitVec 6 := 0
  halted : Bool := false
  /-- R145: an entry has started it; before the first, after VAON power-on, it takes no step. -/
  started : Bool := false
  /-- R147: it runs from word 40. -/
  from40 : Bool := false
  /-- R145: the cause 0b101 that stands came with entry word 40. -/
  hold40 : Bool := false
  /-- R148: the step clock is REFCLK. -/
  fast : Bool := false
  /-- R152: chip select asserted. -/
  cs : Bool := false
  /-- R152: bytes sent on the boot pins since chip select, oldest first. -/
  sent : List (BitVec 8) := []
  /-- R152: dummy clocks given since chip select. -/
  dummies : Nat := 0
  bootDone : Bool := false
  result : BitVec 16 := 0
  deriving DecidableEq, Repr

/-! ## Pin engines (R120 to R143) -/

/-- The state of a context (R122), coded as item 0x0. -/
inductive CtxState where
  | off | run | waiting | blocked | delay | held
  deriving DecidableEq, Repr

/-- The hold cause of a context (R122). -/
inductive HoldCause where
  | none | unmapped | illegal | store | readback | group
  deriving DecidableEq, Repr

/-- What a waiting or blocked context waits for, as the word that waits (R127 to R131). -/
inductive CtxWait where
  | pin (kind : HoldKind) (off : Nat) (stretch : Nat)
  | trigger (stretch : Nat)
  | inbox (stretch : Nat)
  | outbox (stretch : Nat)
  | retry
  /-- R136: the wait is complete, and its wake instruction waits for the reflex unit. -/
  | met (stretch : Nat)
  deriving DecidableEq, Repr

/-- One context of a pin engine (R122). -/
structure Ctx where
  pc : BitVec 8 := 0
  ta : Word := 0
  tb : Word := 0
  cap : Word := 0
  capn : Nat := 0
  emt : Word := 0
  emtl : Nat := 0
  cfl : Nat := 32
  efl : Nat := 32
  autosend : Bool := false
  autofill : Bool := false
  ablock : Bool := false
  cdir : Bool := false
  edir : Bool := false
  outbox : Option Word := none
  /-- the inbox word with its END flag -/
  inbox : Option (Word × Bool) := none
  pause : BitVec 16 := 0
  e : Bool := false
  trig : Bool := false
  /-- R122: pin base, pin count, test pin offset, OWN. -/
  base : Nat := 0
  count : Nat := 1
  testPin : Nat := 0
  own : Bool := false
  /-- R122: shape of bank 0 and bank 1: loop start, entry. -/
  loop0 : BitVec 8 := 0
  entry0 : BitVec 8 := 0
  loop1 : BitVec 8 := 0
  entry1 : BitVec 8 := 0
  /-- R122: input and output channel, if valid. -/
  inCh : Option Nat := none
  outCh : Option Nat := none
  st : CtxState := .off
  hold : HoldCause := .none
  /-- R137: the bank it runs in. -/
  bank : Bool := false
  wait : Option CtxWait := none
  /-- R125, R139: the loop and seam bits of the word that waits. -/
  waitBits : WordBits := ⟨false, false⟩
  /-- R124: turns still to skip. -/
  delay : Nat := 0
  /-- R135: the stretch of a completed wait, which adds to that of the wake instruction. -/
  carry : Nat := 0
  /-- R122: the start state of items 0x0 to 0x6. -/
  start : List Word := []
  deriving DecidableEq, Repr

/-- One stored word (R137). -/
structure PenWord where
  insn : BitVec 12 := 0
  seam : Bool := false
  loop : Bool := false
  /-- R137: its parity is wrong; no row brings an upset about (log entry 89). -/
  bad : Bool := false
  deriving DecidableEq, Repr

/-- One pin engine (R120, R121, R137). -/
structure Engine where
  /-- R121: the accumulator. -/
  acc : Nat := 0
  /-- R120: ticks since enable. -/
  tick : Nat := 0
  /-- R138: the active bank. -/
  active : Bool := false
  /-- R138: a switch is pending, and contexts already switched. -/
  pending : Bool := false
  /-- R140: the pending switch is by FORCE. -/
  forcing : Bool := false
  /-- R137: program words: key bank*256 + word. -/
  store : Tab PenWord := []
  /-- R137: relocation entries: NEWPC and V. -/
  reloc : Tab (BitVec 8 × Bool) := []
  /-- R120: the contexts, sparse. -/
  ctxs : Tab Ctx := []
  /-- R136: the context whose wake instruction the reflex unit has executed in this ECLK, and those deferred, ascending. -/
  reflex : Option Nat := none
  due : List Nat := []
  /-- R129: the rotation has used the capture shifter, the emit shifter, in this ECLK. -/
  capUsed : Bool := false
  emtUsed : Bool := false
  deriving DecidableEq, Repr

/-- One field pin at the pad boundary (R123, R154). -/
structure Pin where
  /-- R123: the level the owner stores. -/
  level : Bool := false
  /-- R123: direction output. -/
  out : Bool := false
  /-- R154: weak pull of the safe state still on: up or down. -/
  pull : Option Bool := none
  deriving DecidableEq, Repr

/-- Pin engines and pins. -/
structure Pens where
  engines : Tab Engine := []
  pins : Tab Pin := []
  deriving DecidableEq, Repr

/-! ## Configuration (R276 to R298) -/

/-- The state of a cocoon copy (R284), coded as CFG_STAT.C0. -/
inductive CopyState where
  | valid | staged | writing | empty
  deriving DecidableEq, Repr

/-- One cocoon copy with its commit record (R284). -/
structure Copy where
  st : CopyState := .empty
  gen : Word := 0
  len : Nat := 0
  crc : Word := 0
  /-- its words, sparse: an absent word reads zero -/
  words : Tab MemWord := []
  /-- R285: the words whose read gives DUE, and whether a rewrite does not mend them -/
  bad : Tab Bool := []
  deriving DecidableEq, Repr

/-- CFG_STAT.STATE (R298). -/
inductive CfgState where
  | empty | loading | checking | applying | applied | committed
  deriving DecidableEq, Repr

/-- CFG_MOLT_STAT.STATE (R298). -/
inductive MoltState where
  | idle | staging | staged | armed | applying | copying
  deriving DecidableEq, Repr

/-- The loader, the cocoon and the molt. -/
structure Loader where
  /-- R284: the three copies. -/
  copies : Vector Copy 3 := Vector.replicate 3 {}
  /-- R284: ACTIVE; in VAON. -/
  active : Nat := 0
  st : CfgState := .empty
  /-- R289: the committed generation and gear. -/
  gen : Word := 0
  gear : BitVec 16 := 0
  committed : Bool := false
  /-- R290: the reference of the locked set. -/
  lockRef : List (Nat × Word) := []
  lockCrc : Word := 0
  lockN : Nat := 0
  /-- R289: RWL registers that the apply has set and locked before commit. -/
  locked : List Nat := []
  /-- R294: the molt. -/
  molt : MoltState := .idle
  line : Nat := 0
  force : Bool := false
  /-- R291: region records of the staged delta. -/
  regions : List Word := []
  /-- R292: regions begun and not yet ended. -/
  left : List Region := []
  moltDone : Bool := false
  stagedGen : Word := 0
  scanCopy : Nat := 0
  scanBusy : Bool := false
  scanPasses : BitVec 24 := 0
  /-- R281: the slot that verified the last image. -/
  usedSlot : BitVec 2 := 0
  /-- R285: CFG_DIV_WORD. -/
  divWord : BitVec 15 := 0
  deriving DecidableEq, Repr

/-! ## Host port, mailbox and debug (R299 to R339) -/

/-- One TX slot (R308). -/
structure TxSlot where
  staged : List Word := []
  pend : Bool := false
  deriving DecidableEq, Repr

/-- The host port and the mailbox beside their registers. -/
structure HostPort where
  /-- R299: what the port answers to the last access. -/
  rdata : Word := 0
  ack : Bool := false
  err : Bool := false
  tx : Vector TxSlot 8 := Vector.replicate 8 {}
  /-- R309: EOM and CHE of each RX slot. -/
  rxEom : BitVec 8 := 0
  rxChe : BitVec 8 := 0
  /-- R310: PIN of the seven interfaces. -/
  pins : Vector (BitVec 8) 7 := Vector.replicate 7 0
  /-- R314: 0xC1A5 has been written, and in which bc. -/
  rstKey : Option Nat := none
  /-- R314, R312: holds of the host port. -/
  bcHold : Word := 0
  pmwHold : Word := 0
  /-- R314: last core-domain reset and count; in VAON. -/
  rstCause : BitVec 4 := 0
  rstCount : BitVec 16 := 0
  deriving DecidableEq, Repr

/-- One break and watch comparator (R332). -/
structure DbgCmp where
  cfg : BitVec 8 := 0
  qual : Word := 0
  lo : Word := 0
  hi : Word := 0
  val : Word := 0
  mask : Word := 0
  /-- R333: armed by the hit of comparator 2i. -/
  linked : Bool := false
  deriving DecidableEq, Repr

/-- The debug domain. -/
structure Debug where
  /-- R317, R324: the session. -/
  level : BitVec 2 := 0
  session : Bool := false
  /-- R323: the challenge if fresh, the response words, and the lockout after a failure. -/
  challenge : Option (BitVec 128) := none
  challengeShown : BitVec 128 := 0
  response : Vector Word 4 := Vector.replicate 4 0
  lockLeft : Nat := 0
  /-- R324: bc since the last valid frame of the session. -/
  quiet : Nat := 0
  /-- R325: the first key word has come; bc left in which the complete key is good. -/
  key1 : Bool := false
  keyLeft : Nat := 0
  /-- R332: comparators, key core*8 + comparator. -/
  cmps : Tab DbgCmp := []
  /-- R336: terminal staging per selector and the selector last served. -/
  term : Tab (List Word) := []
  termLast : Nat := 255
  /-- R337: the freeze request. -/
  frz : Bool := false
  /-- R339: run control. -/
  runSel : Word := 0
  runRes : BitVec 3 := 0
  runDone : Bool := false
  runPrior : BitVec 3 := 0
  runBlock : Bool := false
  insnStat : BitVec 12 := 0
  /-- R331: the spoke whose fed instruction still awaits a result. -/
  feed : Option Nat := none
  authSel : BitVec 2 := 0
  /-- R319, R320: the reply to the last frame: status and data. -/
  status : BitVec 4 := 0
  reply : Word := 0
  /-- R314, R312: holds of the debug bus master. -/
  bcHold : Word := 0
  pmwHold : Word := 0
  /-- R330: KEEPREP of the last write of DBG_RUN_PC. -/
  keepRep : Bool := false
  /-- R328: logical cores under a core halt. -/
  coreHalts : List Nat := []
  deriving DecidableEq, Repr

/-! ## The whole block -/

/-- The state of the block. -/
structure State where
  /-- R340 to R346: clocks and reset: bc since block release, µs of LFCLK since power-on. -/
  bc : Nat := 0
  /-- R343: the core domains are in reset. -/
  coreReset : Bool := true
  /-- R343: bc for which they have been, up to the 1 µs that a reset lasts at least. -/
  resetAge : Nat := 0
  /-- R346: the block has been released. -/
  released : Bool := false
  /-- R342: this is a cold start. -/
  coldStart : Bool := true
  /-- R342: the boot load is due or runs. -/
  bootDue : Bool := true
  /-- The registers of the host window that differ from their reset value: key the host offset, or
  offset * 65536 + index for an item behind a window. -/
  regs : Tab Word := []
  cad : Cadence := {}
  /-- R4: the 1,664 spokes, sparse. -/
  spokes : Tab Spoke := []
  /-- R38: the 52 physical cores. -/
  cores : Vector Core 52 := Vector.ofFn fun i =>
    { logical := i.val, role := if i.val < 48 then .service else .spare }
  /-- R76: program words of the cores, key core*49152 + word, 56 bits of parcels. -/
  progs : Tab (BitVec 56) := []
  /-- R50: the channels, by identifier. -/
  chans : Tab Chan := []
  /-- R49: reports that wait for the system channel, per cluster, at most 16. -/
  sysBuf : Vector (List Word) 13 := Vector.replicate 13 []
  /-- R54: deadlock groups, key cluster*32 + group. -/
  dl : Tab DlGroup := []
  avl : Avl := {}
  mem : Memory := {}
  lck : Locks := {}
  str : Streams := {}
  fab : Fabric := {}
  timers : Vector Timer 32 := Vector.replicate 32 {}
  pmc : Pmc := {}
  pwr : Power := {}
  nrg : Vector NrgGroup 8 := Vector.replicate 8 {}
  chry : Vector Chrysalis 8 := Vector.replicate 8 {}
  pen : Pens := {}
  cfg : Loader := {}
  host : HostPort := {}
  dbg : Debug := {}
  /-- The model's own: how many free values have been drawn (log entry 3). -/
  free : Nat := 0
  /-- The commands that wait, first in first out. -/
  pending : List Instr := []
  deriving DecidableEq, Repr

/-- The block right after the power-on reset is released with every strap at zero and no VIO good (R341): every record at
the reset value written beside its fields. -/
def State.reset : State := {}

end Sys2Proof.Machine
end

