-- ==== Sys2Proof/Machine/Tab.lean ====
section
/-! DEFINITION. Reading and writing the sparse tables of the state. -/
namespace Sys2Proof.Machine

/-- The item of key i, d where the table lists none. -/
def tget {α : Type} (d : α) : Tab α → Nat → α
  | [], _ => d
  | (k, x) :: t, i => if k = i then x else if i < k then d else tget d t i

/-- The table with item i set to x. -/
def tput {α : Type} : Tab α → Nat → α → Tab α
  | [], i, x => [(i, x)]
  | (k, y) :: t, i, x =>
    if k = i then (i, x) :: t
    else if i < k then (i, x) :: (k, y) :: t
    else (k, y) :: tput t i x

/-- The table without item i. -/
def tdel {α : Type} (t : Tab α) (i : Nat) : Tab α := t.filter fun e => e.1 != i

end Sys2Proof.Machine
end

