-- ==== Sys2Proof/Machine/Ops.lean ====
section
/-! DEFINITION. Shared operations: fields of words, the registers of the host window, counters, main memory with its code
outcomes and owners. -/
namespace Sys2Proof.Machine

/-! ## Fields of words -/

/-- n bits of a word from bit lo. -/
def bits (w : Word) (lo n : Nat) : Nat := (w.toNat >>> lo) % 2 ^ n

/-- One bit of a word. -/
def bit (w : Word) (i : Nat) : Bool := w.getLsbD i

/-- A word with bit i set or cleared. -/
def putBit (w : Word) (i : Nat) (b : Bool) : Word :=
  if b then w ||| ((1 : Word) <<< i) else w &&& ~~~((1 : Word) <<< i)

/-- A word with the n bits from bit lo replaced. -/
def putBits (w : Word) (lo n v : Nat) : Word :=
  (w &&& ~~~(BitVec.ofNat 32 ((2 ^ n - 1) <<< lo))) ||| BitVec.ofNat 32 ((v % 2 ^ n) <<< lo)

/-- A word from a list of (bit, value) fields given as numbers already in place. -/
def orAll (l : List Nat) : Word := BitVec.ofNat 32 (l.foldl (· + ·) 0)

/-- A truth value as a number. -/
def b2n (b : Bool) : Nat := if b then 1 else 0

/-! ## Registers of the host window (R5, R6, R311) -/

/-- The stored value of the register at a host offset. -/
def reg (s : State) (off : Nat) : Word := tget (regReset off) s.regs off

/-- The state with that value stored. -/
def setReg (s : State) (off : Nat) (v : Word) : State := { s with regs := tput s.regs off v }

/-- The register with the bits of m set. -/
def orReg (s : State) (off : Nat) (m : Word) : State := setReg s off (reg s off ||| m)

/-- The register with the bits of m cleared. -/
def clrReg (s : State) (off : Nat) (m : Word) : State := setReg s off (reg s off &&& ~~~m)

/-- Item i behind the window register at an offset. -/
def item (s : State) (off i : Nat) : Word := tget (regReset off) s.regs (off * 65536 + i)

/-- The state with that item stored. -/
def setItem (s : State) (off i : Nat) (v : Word) : State := { s with regs := tput s.regs (off * 65536 + i) v }

/-- n bits of a register. -/
def fld (s : State) (off lo n : Nat) : Nat := bits (reg s off) lo n

/-- One bit of a register. -/
def flg (s : State) (off i : Nat) : Bool := bit (reg s off) i

/-- A 31-bit count with its WRAP bit, one event later (for example R189, R214, R275). -/
def countUp (w : Word) : Word := if bits w 0 31 = 2 ^ 31 - 1 then 0x80000000 else w + 1

/-- The counter register at an offset counts one event. -/
def bump (s : State) (off : Nat) : State := setReg s off (countUp (reg s off))

/-- A field of n bits from bit lo counts one event and saturates. -/
def satUp (w : Word) (lo n : Nat) : Word := if bits w lo n = 2 ^ n - 1 then w else putBits w lo n (bits w lo n + 1)

/-- The saturating count in a register's field counts one event. -/
def satReg (s : State) (off lo n : Nat) : State := setReg s off (satUp (reg s off) lo n)

/-- µs since block release (R275). -/
def micros (s : State) : Nat := s.bc / 1000

/-! ## Check sums (R192, R194, R277) -/

/-- One bit of a reflected 32-bit CRC. -/
def crcBit (poly r : Word) : Word := if r.getLsbD 0 then (r >>> 1) ^^^ poly else r >>> 1

/-- One byte. -/
def crcByte (poly r : Word) (b : Byte) : Word := (List.range 8).foldl (fun r _ => crcBit poly r) (r ^^^ b.setWidth 32)

/-- A reflected 32-bit CRC with initial value and final XOR all ones. -/
def crcOf (poly : Word) (bs : List Byte) : Word := ~~~(bs.foldl (crcByte poly) (BitVec.allOnes 32))

/-- CRC-32C (R277). -/
def crc32c (bs : List Byte) : Word := crcOf 0x82F63B78 bs

/-- The FCS of IEEE 802.3 (R192; PRESUMED: its CRC-32). -/
def fcs32 (bs : List Byte) : Word := crcOf 0xEDB88320 bs

/-- CRC-8 with polynomial 0x07 and initial value 0 (R194). -/
def crc8 (bs : List Byte) : Byte :=
  bs.foldl (fun r b => (List.range 8).foldl (fun r _ => if r.getLsbD 7 then (r <<< 1) ^^^ 0x07 else r <<< 1) (r ^^^ b)) 0

/-! ## Bytes of main memory (R155) -/

/-- The byte at an address; one that nothing has written reads 0 (R342). -/
def getByte (m : List Host.Cell) (a : Nat) : Byte := tget 0 m a

/-- The cells with the byte at an address set; a zero byte is not listed. -/
def putByte : List Host.Cell → Nat → Byte → List Host.Cell
  | [], a, b => if b = 0 then [] else [(a, b)]
  | (k, c) :: t, a, b =>
    if k = a then (if b = 0 then t else (a, b) :: t)
    else if a < k then (if b = 0 then (k, c) :: t else (a, b) :: (k, c) :: t)
    else (k, c) :: putByte t a b

/-- Bytes written from an address up. -/
def putBytes : List Host.Cell → Nat → List Byte → List Host.Cell
  | m, _, [] => m
  | m, a, b :: bs => putBytes (putByte m a b) (a + 1) bs

/-- n bytes from an address up. -/
def getBytes (m : List Host.Cell) (a n : Nat) : List Byte := (List.range n).map fun i => getByte m (a + i)

/-- Bytes as a little-endian number (R77). -/
def leNat : List Byte → Nat
  | [] => 0
  | b :: bs => b.toNat + 256 * leNat bs

/-- The n low bytes of a number, lowest first (R77). -/
def toBytes (n x : Nat) : List Byte := (List.range n).map fun i => BitVec.ofNat 8 (x >>> (8 * i))

/-- The canonical form of the cells: addresses rising, no listed zero. -/
def cellsOk : List Host.Cell → Bool
  | [] => true
  | [(_, b)] => b != 0
  | (a, b) :: (a', b') :: t => b != 0 && decide (a < a') && cellsOk ((a', b') :: t)

/-- Memory is in canonical form. -/
def Memory.wf (m : Memory) : Bool := cellsOk m.cells

/-- The data of a memory word. -/
def wordAt (s : State) (w : Nat) : MemWord := BitVec.ofNat 256 (leNat (getBytes s.mem.cells (32 * w) 32))

/-! ## Code outcomes (R167 to R170) -/

/-- Registers of bank n (R180). -/
def bankReg (n r : Nat) : Nat := 0x7000 + 0x20 * n + r

/-- The bank of a memory word (R155); words past the last have no bank. -/
def bankOf (w : Nat) : Nat := w / 65536

/-- The physical array that serves a bank (R176). -/
def physOf (s : State) (b : Nat) : Nat := (s.mem.banks.toArray[b]?.map (·.phys)).getD b

/-- The 288 bits of a word (R166). -/
def codeBits (c : CodeWord) : BitVec 288 := (Sys2Proof.Config.rsCheck c.data ++ c.data) ^^^ c.err

/-- The bits in error that the state holds of a word. -/
def errAt (s : State) (w : Nat) : BitVec 288 := tget 0 s.mem.errs w

/-- The table of bits in error with a word's replaced; a codeword is not listed. -/
def setErr (t : Tab (BitVec 288)) (w : Nat) (e : BitVec 288) : Tab (BitVec 288) :=
  if e = 0 then t.filter (·.1 != w) else tput t w e

/-- A word as its 288 bits stand. -/
def codeAt (s : State) (w : Nat) : CodeWord := ⟨wordAt s w, errAt s w⟩

/-- Poison: c0 to c3 XORed with 0xA5 (R169). -/
def poisonErr : BitVec 288 := 0xA5A5A5A5#32 ++ 0#256

/-- The word is poisoned (R169). -/
def poisoned (s : State) (w : Nat) : Bool := errAt s w == poisonErr

/-- The symbols in error among the 36 (R167). -/
def symbolsIn (e : BitVec 288) : Nat := ((List.range 36).filter fun i => e.extractLsb' (8 * i) 8 != 0).length

/-- What one read of a word meets: upsets of the array, else the bits in error that the word holds. Of three and more symbols the decoder
may also find another codeword; that the state's own are then reported is a choice (log entry 93). -/
def onRead (s : State) (w : Nat) (e : Ecc) : Ecc :=
  if e = .clean then
    match symbolsIn (errAt s w) with
    | 0 => .clean
    | 1 => .corr1
    | 2 => .corr2
    | _ => .due
  else e

/-- The bank decodes in correct-2 mode (R167). -/
def correct2 (s : State) (b : Nat) : Bool := fld s (bankReg b 4) 0 2 != 0

/-- What the bank's decoder reports (R167): CLEAN, CORR1, CORR2 or DUE. -/
def decoded (s : State) (b : Nat) (e : Ecc) : Ecc :=
  match e with
  | .corr2 => if correct2 s b then .corr2 else .due
  | .wrong3 _ => if correct2 s b then .corr2 else .due
  | .wrong _ => if correct2 s b then .corr2 else .corr1
  | .miss _ => .clean
  | e => e

/-- The wrong word that the decoder delivers, if it does (R167). -/
def wrongOf : Ecc → Option MemWord
  | .wrong3 d => some d
  | .wrong d => some d
  | .miss d => some d
  | _ => none

/-- The wrong word that a read with its re-read delivers, if it does. -/
def wrongWord (s : State) (w : Nat) (o : ReadOutcome) : Option MemWord :=
  if decoded s (bankOf w) (onRead s w o.first) = .due then wrongOf (onRead s w o.again) else wrongOf (onRead s w o.first)

/-- The word that a read delivers. -/
def seenWord (s : State) (w : Nat) (o : ReadOutcome) : MemWord := (wrongWord s w o).getD (wordAt s w)

/-- Memory as the reads of these words see it. -/
def seenCells (s : State) : List Nat → MemOutcome → List Host.Cell
  | [], _ => s.mem.cells
  | w :: ws, o =>
    let put (m : List Host.Cell) (w : Nat) (r : ReadOutcome) : List Host.Cell :=
      match wrongWord s w r with
      | some d => putBytes m (32 * w) (toBytes 32 d.toNat)
      | none => m
    match ws with
    | [] => put s.mem.cells w o.lo
    | w' :: _ => put (put s.mem.cells w o.lo) w' o.hi

/-- The record of a lasting error, kept while VALID is 0 (R168). -/
def recordErr (s : State) (req w outcome : Nat) (rmw : Bool) : State :=
  if flg s 0x7820 31 then s
  else setReg (setReg s 0x781C (BitVec.ofNat 32 (32 * w))) 0x7820
    (orAll [outcome, req * 16, b2n rmw * 512, physOf s (bankOf w) * 1024, 2 ^ 31])

/-- A 32-bit count of the life ledger; at its largest value it saturates and STAT.LEDGER_SAT is set (R241). -/
def ldgUp (s : State) (off : Nat) : State :=
  if reg s off = 0xFFFFFFFF then orReg s 0x80C 0x20000 else setReg s off (reg s off + 1)

/-- PWR_LDG_CORR counts (R241). -/
def ldgCorr (s : State) : State := ldgUp s 0x87C

/-- A corrected word is counted and queued for a moth visit (R168). -/
def noteCorr (s : State) (w : Nat) : State :=
  let s := ldgCorr (satReg (orReg s (bankReg (bankOf w) 8) 1) (bankReg (bankOf w) 0xC) 0 16)
  { s with mem := { s.mem with visits := if w ∈ s.mem.visits then s.mem.visits else s.mem.visits ++ [w] } }

/-- A transient DUE is counted (R168, R256). -/
def noteTrans (s : State) (w : Nat) : State :=
  ldgCorr (bump (satReg (orReg s (bankReg (bankOf w) 8) 2) (bankReg (bankOf w) 0xC) 16 8) 0x2154)

/-- A lasting DUE is counted and recorded (R168, R256). -/
def noteUnc (s : State) (req w : Nat) (rmw : Bool) : State :=
  let s := recordErr (bump (satReg (orReg s (bankReg (bankOf w) 8) 4) (bankReg (bankOf w) 0xC) 24 8) 0x2158) req w 1 rmw
  { s with mem := { s.mem with due := if w ∈ s.mem.due then s.mem.due else w :: s.mem.due } }

/-- One demand read of a word: what is counted and recorded, and whether data is delivered (R168, R169). -/
def readWord (s : State) (req : Nat) (rmw : Bool) (w : Nat) (o : ReadOutcome) : State × Bool :=
  if poisoned s w then (recordErr (orReg s (bankReg (bankOf w) 8) 8) req w 2 rmw, false)
  else
    match decoded s (bankOf w) (onRead s w o.first) with
    | .clean => (s, true)
    | .corr1 | .corr2 => (noteCorr s w, true)
    | _ =>
      match decoded s (bankOf w) (onRead s w o.again) with
      | .clean => (noteTrans s w, true)
      | .corr1 | .corr2 => (noteCorr (noteTrans s w) w, true)
      | _ => (noteUnc s req w rmw, false)

/-- A read with no upset. -/
def cleanRead : ReadOutcome := ⟨.clean, .clean⟩

/-- The reads of several words in order, up to the first that fails; words without an outcome meet no upset. -/
def readSeq (s : State) (req : Nat) : List Nat → List ReadOutcome → State × Bool
  | [], _ => (s, true)
  | w :: ws, o =>
    match readWord s req false w (o.headD cleanRead) with
    | (s, true) => readSeq s req ws o.tail
    | (s, false) => (s, false)

/-- The words that such reads deliver. -/
def seenWords (s : State) : List Nat → List ReadOutcome → List MemWord
  | [], _ => []
  | w :: ws, o => seenWord s w (o.headD cleanRead) :: seenWords s ws o.tail

/-- The reads of the words of one access, lower first (R164); all are read, and one failure fails the access. -/
def readWords (s : State) (req : Nat) (rmw : Bool) (ws : List Nat) (o : MemOutcome) : State × Bool :=
  match ws with
  | [] => (s, true)
  | [w] => readWord s req rmw w o.lo
  | w :: w' :: _ =>
    let r := readWord s req rmw w o.lo
    let r' := readWord r.1 req rmw w' o.hi
    (r'.1, r.2 && r'.2)

/-! ## Owners (R156 to R159) -/

/-- Requester codes (R156). -/
def reqSTR : Nat := 0x10
def reqFAB : Nat := 0x11
def reqPEN : Nat := 0x12
def reqHOST : Nat := 0x13
def reqDBG : Nat := 0x14

/-- A code that names an owner (R156, R158). -/
def ownerCode (c : Nat) : Bool := c ≤ 0xC || (0x10 ≤ c && c ≤ 0x13) || c == 0x1F

/-- The bank takes an access of the requester now: from its owner unless a drain is under way, from DBG as DBGV allows (R156,
R157). What lies past the last bank takes none (log entry 37). -/
def mayAccess (s : State) (req b : Nat) (write : Bool) : Bool :=
  if 32 ≤ b then false
  else if req = reqDBG then
    fld s (bankReg b 4) 4 2 == 2 || (!write && fld s (bankReg b 4) 4 2 == 1)
  else
    match s.mem.banks.toArray[b]? with
    | none => false
    | some k => k.owner.toNat == req && (match k.pending with | some ⟨_, none⟩ => false | _ => true)

/-- A refused access is counted by its bank, except one of DBG (R159). -/
def noteNown (s : State) (req b : Nat) : State :=
  if req = reqDBG ∨ 32 ≤ b then s
  else
    let s := satReg s (bankReg b 0x10) 0 16
    orReg (setReg s (bankReg b 0x10) (putBits (reg s (bankReg b 0x10)) 16 5 req)) (bankReg b 8) 0x10

/-- The banks among those of the words that refuse the requester. -/
def refusing (s : State) (req : Nat) (ws : List Nat) (write : Bool) : List Nat :=
  ((ws.map bankOf).filter fun b => !mayAccess s req b write).eraseDups

/-- The memory words that n bytes from an address touch (R164). -/
def wordsOf (a n : Nat) : List Nat :=
  if a / 32 = (a + n - 1) / 32 then [a / 32] else [a / 32, a / 32 + 1]

/-! ## Writes -/

/-- Every reservation on a word ends (R191). -/
def clearResv (s : State) (w : Nat) : State :=
  { s with spokes := s.spokes.map fun e => (e.1, if e.2.resv = some w then { e.2 with resv := none } else e.2) }

/-- The word of a write accepted on the active block to a mirrored bank is queued as MIRROR data; a full buffer drops the
in-sync flag (R202). -/
def mirrorWrite (s : State) (w : Nat) : State :=
  if s.avl.role = 1 ∧ bit (reg s 0xE424) (bankOf w) ∧ ¬ flg s 0xE418 2 then
    if s.str.mirrorQ.length < 512 then
      { s with str := { s.str with mirrorQ := s.str.mirrorQ ++ [(w, wordAt s w)], lag := s.str.lag + 1 } }
    else { orReg s 0xE418 8 with str := { s.str with inSync := false } }
  else s

/-- Bytes [i, n) of a number replaced by a list of bytes that starts at byte i. -/
def patchData (d : MemWord) (i : Nat) (bs : List Byte) : MemWord :=
  let n := bs.length
  let m := BitVec.ofNat 256 ((2 ^ (8 * n) - 1) <<< (8 * i))
  (d &&& ~~~m) ||| (BitVec.ofNat 256 (leNat bs <<< (8 * i)) &&& m)

/-- A split load in flight may still take its upper half from a word just written: a race, left open (R165, log entry 12). -/
def tearFlight (s : State) (w : Nat) (f : Flight) : Flight :=
  match f.words with
  | [l, h] =>
    if f.tear ∧ h = w ∧ Sys2Proof.Config.tears s.free then
      { f with data := patchData f.data (32 * h - f.addr) (getBytes s.mem.cells (32 * h) (f.addr + f.size - 32 * h)) }
    else { f with words := [l, h] }
  | _ => f

/-- Some other spoke has a split load in flight whose upper half is the word. -/
def tearable (who : Option Nat) (w : Nat) (e : Nat × Spoke) : Bool :=
  some e.1 != who && e.2.flight.any fun f => f.tear && f.words[1]? == some w

/-- The races that a write to a word opens with loads of spokes other than the writer (R165). -/
def tearLoads (s : State) (who : Option Nat) (w : Nat) : State :=
  if s.spokes.any (tearable who w) then
    { s with
      spokes := s.spokes.map fun e =>
        (e.1, if tearable who w e then { e.2 with flight := e.2.flight.map (tearFlight s w) } else e.2)
      free := s.free + 1 }
  else s

/-- What follows once a word has been written. -/
def wordWritten (who : Option Nat) (s : State) (w : Nat) : State := mirrorWrite (tearLoads s who w) w

/-- A store of bytes by a requester (R159, R160, R164, R170): the state after it, and whether it took effect. A write of a whole
word needs no read; every other write is an RMW whose read may fail it. Either leaves codewords, which ends a whole-written word's
poison. -/
def memStore (s : State) (req : Nat) (who : Option Nat) (a : Nat) (bs : List Byte) (o : MemOutcome) : State × Bool :=
  let ws := wordsOf a bs.length
  let no := refusing s req ws true
  if no ≠ [] then (no.foldl (fun s b => noteNown s req b) s, false)
  else
    let s := ws.foldl clearResv s
    let r := if a % 32 = 0 ∧ bs.length = 32 then (s, true) else readWords s req true ws o
    if r.2 then
      let m := { r.1.mem with
        cells := putBytes (if a % 32 = 0 ∧ bs.length = 32 then r.1.mem.cells else seenCells s ws o) a bs
        errs := ws.foldl (fun t w => setErr t w 0) r.1.mem.errs
        due := if a % 32 = 0 ∧ bs.length = 32 then r.1.mem.due.filter (· != a / 32) else r.1.mem.due }
      (ws.foldl (wordWritten who) { r.1 with mem := m }, true)
    else r

/-- A whole memory word written by a requester. -/
def memStoreWord (s : State) (req : Nat) (w : Nat) (d : MemWord) : State × Bool :=
  memStore s req none (32 * w) (toBytes 32 d.toNat) ⟨cleanRead, cleanRead⟩

/-- A whole memory word written with its 288 bits unchanged (R166). -/
def memStoreCode (s : State) (req : Nat) (w : Nat) (c : CodeWord) : State × Bool :=
  let r := memStoreWord s req w c.data
  (if r.2 then { r.1 with mem := { r.1.mem with errs := setErr r.1.mem.errs w c.err } } else r.1, r.2)

/-- A load of n bytes by a requester other than a spoke: the state after it, and the data, none on an error (R159, R168). -/
def memLoad (s : State) (req : Nat) (a n : Nat) (o : MemOutcome) : State × Option Nat :=
  let no := refusing s req (wordsOf a n) false
  if no ≠ [] then (no.foldl (fun s b => noteNown s req b) s, none)
  else
    let r := readWords s req false (wordsOf a n) o
    (r.1, if r.2 then some (leNat (getBytes (seenCells s (wordsOf a n) o) a n)) else none)

/-- A memory outcome from one read outcome. -/
def oneRead (o : ReadOutcome) : MemOutcome := ⟨o, o⟩

/-- The host port refuses an access: the record, the count and hp_err (R302). -/
def hostRefuse (s : State) (off : Nat) (write : Bool) (reason : Nat) : State :=
  let s := bump (orReg (setReg s 0x24 (orAll [off % 2 ^ 18, b2n write * 2 ^ 18, reason * 2 ^ 20, 2 ^ 31])) 0x18 1) 0x28
  { s with host := { s.host with rdata := 0, ack := false, err := true } }

/-- The host port answers an access (R299, R300). -/
def answer (s : State) (w : Word) : State := { s with host := { s.host with rdata := w, ack := true, err := false } }

/-- The core domains are out of reset. -/
def live (s : State) : Bool := !s.coreReset

/-- Memory accesses are accepted: out of reset and the cold start's zero writing done (R342). -/
def memReady (s : State) : Bool := !s.coreReset && s.mem.initDone

/-! ## The fault log and the counters of R256 (R275) -/

/-- An entry of the fault log. -/
def logFault (s : State) (kind code who : Nat) : State :=
  let e : LogEntry := ⟨BitVec.ofNat 4 kind, BitVec.ofNat 8 code, BitVec.ofNat 11 who, BitVec.ofNat 32 (micros s)⟩
  { s with avl := { s.avl with log := (e :: s.avl.log).take 64 } }

/-- The status bit i of a cluster (AVL_CLk_STAT). -/
def avlStat (s : State) (cl i : Nat) : State := orReg s (0x2008 + 0x10 * cl) ((1 : Word) <<< i)

end Sys2Proof.Machine
end

