-- ==== Sys2Proof/Machine/SpokeOps.lean ====
section
/-! DEFINITION. Shared operations on spokes and channels: registers, messages, urgency, reports, issue units, pairs, the lock
table, stopping, halting and faults (R37 to R55, R61, R62, R181 to R191, R259 to R262). -/
namespace Sys2Proof.Machine

/-! ## Spokes (R4, R37, R77) -/

/-- The spoke of a global number. -/
def spk (s : State) (g : Nat) : Spoke := tget {} s.spokes g

/-- The state with a spoke replaced. -/
def setSpk (s : State) (g : Nat) (sp : Spoke) : State := { s with spokes := tput s.spokes g sp }

/-- A g register; g0 reads zero (R77). -/
def rg (sp : Spoke) (r : GReg) : Word := if r = 0 then 0 else sp.g[r]

/-- A g register written; g0 discards the write (R77). -/
def wg (sp : Spoke) (r : GReg) (w : Word) : Spoke := if r = 0 then sp else { sp with g := sp.g.set r w }

/-- The served core, the cluster and the index of a global number, and the master spoke of a cluster (R4). -/
def coreOf (g : Nat) : Nat := g / 32
def clusterOf (g : Nat) : Nat := g / 128
def masterOf (cl : Nat) : Nat := 128 * cl

/-- The physical core that serves a core number (R38). -/
def physCore (s : State) (c : Nat) : Nat :=
  ((List.range 52).find? fun p =>
    match s.cores.toArray[p]? with
    | some k => k.logical == c && k.role != .retired
    | none => false).getD c

/-- A core's record changed. -/
def onCore (s : State) (p : Nat) (f : Core → Core) : State := { s with cores := s.cores.mapIdx fun i k => if i = p then f k else k }

/-- The other elastic spokes of the pool group of a spoke, with itself (R44, R45). -/
def groupOf (s : State) (g : Nat) : List Nat :=
  ((List.range 32).map (32 * coreOf g + ·)).filter fun h =>
    (spk s h).elastic && (spk s h).egroup == (spk s g).egroup && (spk s h).poolB == (spk s g).poolB

/-- The elastic group of a spoke is urgent, or becomes so once a reader is eligible (R45). -/
def groupUrgent (s : State) (g : Nat) : Bool := (groupOf s g).any fun h => (spk s h).urgent || (spk s h).urgeDue

/-- A group stops being urgent once every spoke of it is blocked, stopped or deferred (R45). -/
def calm (s : State) (g : Nat) : State :=
  if (groupOf s g).all fun h => (spk s h).st = .blocked ∨ (spk s h).st = .stopped ∨ (spk s h).st = .deferred then
    (groupOf s g).foldl (fun s h => setSpk s h { spk s h with urgent := false, urgeDue := false }) s
  else s

/-- The deadlock group of a spoke has a member that leaves BLOCKED: the episode ends (R54). -/
def endEpisode (s : State) (g : Nat) : State :=
  match (spk s g).dlgroup with
  | some d =>
    let k := 32 * clusterOf g + d.val
    { s with dl := tput s.dl k { tget {} s.dl k with elapsed := 0, reported := false } }
  | none => s

/-- A spoke that becomes eligible makes its group urgent where an urgent message waits for it (R45). -/
def becomeEligible (sp : Spoke) : Spoke := if sp.urgeDue then { sp with urgent := true, urgeDue := false } else sp

/-- A spoke enters a state, with what follows for its deadlock group and its elastic group. -/
def enter (s : State) (g : Nat) (sp : Spoke) (st : SpokeState) : State :=
  let s := if sp.st = .blocked ∧ st ≠ .blocked then endEpisode s g else s
  let sp := if st = .run then becomeEligible sp else sp
  let s := setSpk s g { sp with st := st }
  if sp.elastic ∧ (st = .blocked ∨ st = .stopped ∨ st = .deferred) then calm s g else s

/-- The destination's pending bit is set (R59, R61). -/
def pendingBit (sp : Spoke) (d : LoadDest) : Bool := sp.flight.any (fun f => f.dest == some d) || sp.stuck.contains d

/-- The register's pending bit is set: a result of the accumulators and the segments never comes late here (log entry 7). -/
def regPending (sp : Spoke) (r : SpokeReg) : Bool :=
  match r with
  | .g r => pendingBit sp (.g r)
  | .v r => pendingBit sp (.v r)
  | .a _ | .s _ => false

/-! ## Channels (R50 to R53) -/

/-- The channel of an identifier. -/
def chan (s : State) (ch : Nat) : Chan := tget {} s.chans ch

/-- The state with a channel replaced. -/
def setChan (s : State) (ch : Nat) (c : Chan) : State := { s with chans := tput s.chans ch c }

/-- Free entries of a FIFO (R50). -/
def room (s : State) (ch : Nat) : Nat := 8 - (chan s ch).fifo.length

/-- Free entries that a message may take now: none while a truncated message waits before it (R52, R53). -/
def entryRoom (s : State) (ch : Nat) : Nat := if (chan s ch).waiting = [] then room s ch else 0

/-- The system channel of a cluster (R49). -/
def sysChan (cl : Nat) : Nat := 1024 * cl + 1023

/-- A whole message: END on its last word (R50), the truncation mark with it (R53), the urgent tag on each word (R45). -/
def message (ws : List Word) (trunc urgent : Bool) : List ChanWord :=
  ws.zipIdx.map fun e => {
    word := e.1, last := e.2 + 1 == ws.length, trunc := trunc && e.2 + 1 == ws.length, urgent := urgent }

/-- What is left of arriving words while the rest of a message is discarded, and whether the discard goes on (R53). -/
def discardRest : List ChanWord → List ChanWord × Bool
  | [] => ([], true)
  | w :: t => if w.last then (t, false) else discardRest t

/-- An urgent message reaches a reader: an elastic spoke makes its group urgent, from when it is eligible (R45). -/
def urge (s : State) (r : Endpoint) : State :=
  let sp := spk s r.id
  if r.kind = .spoke ∧ sp.elastic then
    setSpk s r.id (if sp.st = .run then { sp with urgent := true } else { sp with urgeDue := true })
  else s

/-- Words enter a FIFO that has room for them. -/
def pushWords (s : State) (ch : Nat) (ws : List ChanWord) : State :=
  let c := chan s ch
  let r := if c.rdisc then discardRest ws else (ws, false)
  let s := setChan s ch { c with fifo := c.fifo ++ r.1, rdisc := r.2 }
  if r.1.any (·.urgent) then urge s c.reader else s

/-- A one-word message enters a channel if it has room and no truncated message waits before it (R32, R52, R53, R185, R200, R221):
the state, and whether it did. -/
def token (s : State) (ch : Nat) (w : Word) : State × Bool :=
  if entryRoom s ch = 0 then (s, false) else (pushWords s ch (message [w] false false), true)

/-- The oldest word leaves a FIFO, and the reader's place in its message is kept (R51, R53); the last word of a message that had a double
error shows it as a truncation does (R258). -/
def popWord (s : State) (ch : Nat) : Option (ChanWord × State) :=
  let c := chan s ch
  match c.fifo with
  | [] => none
  | w :: t =>
    let bad := c.inBad || w.bad
    some ({ w with trunc := w.trunc || (w.last && bad) },
      setChan s ch { c with fifo := t, inMsg := !w.last, inBad := bad && !w.last })

/-- The channels of the block that a predicate on their records selects, in ascending identifier. -/
def chansWhere (s : State) (p : Chan → Bool) : List Nat := (s.chans.filter fun e => p e.2).map (·.1)

/-- The endpoint is that spoke. -/
def Endpoint.isSpoke (e : Endpoint) (g : Nat) : Bool := e.kind == .spoke && e.id == g

/-- A staging area left by a writer that is gone is closed with a TRUNCATED end token and enters, or waits for room (R53). -/
def truncateStaging (s : State) (ch : Nat) : State :=
  let c := chan s ch
  let m := message c.staged true false
  let s := setChan s ch { c with staged := [] }
  if m.length ≤ room s ch ∧ c.waiting = [] then pushWords s ch m
  else setChan s ch { chan s ch with waiting := c.waiting ++ [m] }

/-- The rest of a message that a reader who is gone had begun is discarded (R53). -/
def discardReader (s : State) (ch : Nat) : State :=
  let c := chan s ch
  let r := discardRest c.fifo
  setChan s ch { c with fifo := r.1, rdisc := r.2, inMsg := false, inBad := false }

/-! ## System reports (R49) -/

/-- A report enters the system channel, or its buffer, or is dropped and recorded. -/
def reportWord (s : State) (cl : Nat) (w : Word) : State :=
  let b := (s.sysBuf.toArray[cl]?).getD []
  if b = [] ∧ room s (sysChan cl) ≠ 0 then pushWords s (sysChan cl) (message [w] false false)
  else if b.length < 16 then { s with sysBuf := s.sysBuf.setIfInBounds cl (b ++ [w]) }
  else orReg s 0x14D10 ((1 : Word) <<< cl)

/-- The word of a report. -/
def sysWord (kind code who : Nat) : Word := orAll [kind <<< 28, code <<< 20, who]

/-- The FAULT bit of a spoke (R55). -/
def faultBit (s : State) (g : Nat) : State := orReg s (0x14028 + 0x40 * physCore s (coreOf g)) ((1 : Word) <<< (g % 32))

/-- A report about a spoke; a fault of the master spoke is reported to the host only. -/
def report (s : State) (kind code g : Nat) : State :=
  if kind = 1 ∧ g = masterOf (clusterOf g) then s else reportWord s (clusterOf g) (sysWord kind code g)

/-! ## Pairs (R259 to R262) -/

/-- A pair. -/
def pairAt (s : State) (p : Nat) : Pair := tget {} s.avl.pairs p

/-- The state with a pair replaced. -/
def setPair (s : State) (p : Nat) (x : Pair) : State := { s with avl := { s.avl with pairs := tput s.avl.pairs p x } }

/-- What a spoke is to its pair. -/
inductive Member where
  | solo
  | leader (p : Nat)
  | follower (p : Nat)
  deriving DecidableEq, Repr

/-- The membership of a spoke. -/
def member (s : State) (g : Nat) : Member :=
  match (spk s g).pair with
  | none => .solo
  | some (p, true) => .leader p
  | some (p, false) => .follower p

/-- The spokes that stop, halt and are released with a spoke: both of a pair (R48). -/
def together (s : State) (g : Nat) : List Nat :=
  match (spk s g).pair with
  | none => [g]
  | some (p, _) => [(pairAt s p).leader.toNat, (pairAt s p).follower.toNat]

/-- The spoke whose number stands for a spoke towards the rest of the block: the leader for a pair. -/
def front (s : State) (g : Nat) : Nat :=
  match (spk s g).pair with
  | none => g
  | some (p, _) => (pairAt s p).leader.toNat

/-- The context that a checkpoint keeps (R37, R262). -/
def contextOf (sp : Spoke) : Context := ⟨sp.pc, sp.g, sp.a, sp.v, sp.s, sp.tsw, sp.resv⟩

/-- A spoke with a context restored, with nothing in flight but error responses of stores already released (R263). -/
def restore (sp : Spoke) (c : Context) : Spoke :=
  { sp with
    pc := c.pc, g := c.g, a := c.a, v := c.v, s := c.s, tsw := c.tsw, resv := c.resv
    flight := sp.flight.filter fun f => f.err && f.dest.isNone
    stuck := [], slot := none, wait := none }

/-- Two captures agree: all but the reservation, which only the leader holds (R260, R262). -/
def sameContext (a b : Context) : Bool := decide ({ a with resv := none } = { b with resv := none })

/-- A program write (R72). -/
def Effect.isProgram : Effect → Bool
  | .program _ _ => true
  | _ => false

/-- The entry of the gate stands for a fault that the leader has met, and is no effect. -/
def Effect.isFault : Effect → Bool
  | .exFault _ _ _ => true
  | _ => false

/-- The bytes of the replay buffer in use (R260, R261). -/
def logBytes (x : Pair) : Nat := (x.log.map (·.bytes)).sum + 4 * x.sigs.length

/-- An input that the leader takes is written to the replay buffer: 4 bytes and its data rounded up (R260). -/
def logInput (s : State) (p : Nat) (n : Nat) (seq : Nat) (d : MemWord) (eom che : Bool) : State :=
  let x := pairAt s p
  setPair s p { x with log := x.log ++ [⟨seq, d, eom, che, 4 + (n + 3) / 4 * 4⟩] }

/-- The input that an issue unit of a pair takes from the replay buffer, if it is there (R260). -/
def inputAt (x : Pair) (seq : Nat) : Option Input := x.log.find? fun i => i.seq == seq

/-- The payload of a checkpoint record (R272). -/
def ckptRecordOf (s : State) (p : Nat) (x : Pair) (c : Context) : List MemWord :=
  let acc (i : Nat) : Nat := ((c.a.toArray[i]?).map (·.toNat)).getD 0
  let gs (lo : Nat) : Nat := leNat ((List.range 8).flatMap fun i => toBytes 4 (((c.g.toArray[lo + i]?).map (·.toNat)).getD 0))
  let ss (lo : Nat) : Nat := leNat ((List.range 4).flatMap fun i => toBytes 8 (((c.s.toArray[lo + i]?).map (·.toNat)).getD 0))
  let w (n : Nat) : MemWord := BitVec.ofNat 256 n
  let body : List MemWord :=
    [w (gs 0), w (gs 8), w (acc 0 + acc 1 <<< 72 + acc 2 <<< 144), w (acc 3), w (ss 0), w (ss 4)] ++ c.v.toList
  w (leNat (toBytes 2 p ++ toBytes 2 x.seq.toNat ++ toBytes 8 s.bc
      ++ toBytes 4 (Sys2Proof.Config.ckptSignature body x.sigs.length).toNat
      ++ toBytes 4 c.pc.toNat ++ toBytes 4 c.tsw.toNat ++ toBytes 4 x.sigs.length)) :: body

/-- A frame or block put on a link. -/
def putOut (s : State) (l : Nat) (x : LinkOut) : State := { s with str := { s.str with sent := (l, x) :: s.str.sent } }

/-- A control block of a type with its bytes 1 to 7 (R194). -/
def sendBlock (s : State) (l type : Nat) (body : List Byte) : State :=
  putOut s l (.block (BitVec.ofNat 8 type :: (body ++ List.replicate 6 0).take 7))

/-- Bytes 1 to 6 of a block with their CRC-8 (R194). -/
def withCrc8 (body : List Byte) : List Byte := body ++ [crc8 body]

/-- Link l of the block. -/
def link (s : State) (l : Nat) : Link := tget {} s.str.links l

/-- The state with a link replaced. -/
def setLink (s : State) (l : Nat) (k : Link) : State := { s with str := { s.str with links := tput s.str.links l k } }

/-- START of a frame: stream, sequence, payload length in words, and whether it asks for ACK (R194). -/
def startBlock (stream : BitVec 8) (seq : BitVec 16) (len : Nat) (ask : Bool) : List Byte :=
  0x66 :: withCrc8 (stream :: toBytes 2 seq.toNat ++ toBytes 2 len ++ [BitVec.ofNat 8 (b2n ask)])

/-- END of a frame: CRC-32C over the payload bytes (R194). -/
def endBlock (ws : List MemWord) : List Byte :=
  0x99 :: toBytes 4 (crc32c (ws.flatMap fun d => toBytes 32 d.toNat)).toNat ++ [0, 0, 0]

/-- A Duari frame goes out (R194). -/
def sendFrame (s : State) (l : Nat) (stream : BitVec 8) (seq : BitVec 16) (ask : Bool) (ws : List MemWord) : State :=
  putOut s l (.frame (startBlock stream seq ws.length ask) ws (endBlock ws))

/-- The next sequence of a stream on a link. -/
def nextSeq (s : State) (l : Nat) (stream : BitVec 8) : BitVec 16 := tget 0 (link s l).seqOut stream.toNat

/-- A frame goes out under the next sequence of its stream. -/
def sendNext (s : State) (l : Nat) (stream : BitVec 8) (ask : Bool) (ws : List MemWord) : State :=
  let q := nextSeq s l stream
  let s := sendFrame s l stream q ask ws
  setLink s l { link s l with seqOut := tput (link s l).seqOut stream.toNat (q + 1) }

/-- STR_QqMODE.ACK: frames of the link ask for ACK (R214). -/
def linkAsks (s : State) (l : Nat) : Bool := flg s (0xE004 + 0x40 * (l / 4)) (8 * (l % 4) + 5)

/-- A frame of a tandem stream that no ring holds goes out on the first tandem link that is up (R201). -/
def sendTandem (s : State) (stream : BitVec 8) (ws : List MemWord) (links : List Nat) : State :=
  match links with
  | [] => s
  | l :: _ => sendNext s l stream (linkAsks s l) ws

/-- The mode of a link (R192). -/
def linkMode (s : State) (l : Nat) : Nat := fld s (0xE004 + 0x40 * (l / 4)) (8 * (l % 4)) 3

/-- The tandem links that STR_TND_LINKS names (R214). -/
def tandemLinks (s : State) : List Nat :=
  ([fld s 0xE41C 0 6, fld s 0xE41C 8 6].filter fun l => l != 0x3F && linkMode s l == 7).eraseDups

/-- Those that carry traffic (R201). -/
def tandemUp (s : State) : List Nat := (tandemLinks s).filter fun l => (link s l).up

/-- The spoke watchdog of a spoke or pair is fed (R268). -/
def feedSpoke (s : State) (g : Nat) : State :=
  setSpk s g { spk s g with wdgLeft := bits (item s 0x213C g) 0 16 }

/-- The follower forms its side of a capture: on agreement the new checkpoint replaces the old one, else a mismatch (R262). -/
def ckptMeet (s : State) (p : Nat) : State :=
  let x := pairAt s p
  match x.pend with
  | none => s
  | some c =>
    if sameContext c (contextOf (spk s x.follower.toNat)) ∧ (x.st = .replay → x.skip = []) then
      let s := if x.mirror then sendTandem s 0xF1 (ckptRecordOf s p x c) (tandemUp s) else s
      let s := feedSpoke s x.leader.toNat
      setPair s p { x with
        ckpt := some c, ckptN := x.pendN, pend := none, sigs := [], since := 0, seq := x.seq + 1
        log := x.log.filter fun i => x.pendN ≤ i.seq }
    else setPair s p { x with mismatch := true, pend := none }

/-- A side of a pair completes an issue unit (R259); a follower that reaches the point of the leader's capture meets it. -/
def pairUnit (s : State) (g : Nat) : State :=
  match member s g with
  | .solo => s
  | .leader p => setPair s p { pairAt s p with nL := (pairAt s p).nL + 1 }
  | .follower p =>
    let x := { pairAt s p with nF := (pairAt s p).nF + 1 }
    let s := setPair s p x
    if x.pend.isSome ∧ x.pendN = x.nF then ckptMeet s p else s

/-! ## Issue units (R62, R67, R117) -/

/-- The iteration count falls as an iteration issues (R117). -/
def startUnit (sp : Spoke) : Spoke :=
  if repn sp.tsw = 0 then sp else { sp with tsw := setRepn sp.tsw (repn sp.tsw - 1) }

/-- The PC after an instruction of so many parcels: the target behind a delay slot, the same PC while iterations remain, else
the next instruction. -/
def endUnit (sp : Spoke) (parcels : Nat) : Spoke :=
  match sp.slot with
  | some ⟨_, t, _, _⟩ => { sp with pc := t.getD (sp.pc + BitVec.ofNat 18 parcels), slot := none }
  | none => if repn sp.tsw ≠ 0 then sp else { sp with pc := sp.pc + BitVec.ofNat 18 parcels }

/-! ## The lock table (R181 to R188) -/

/-- A requester's identity (R185). -/
def lockIdSpoke (s : State) (g : Nat) : BitVec 16 :=
  BitVec.ofNat 16 (0x1000 + (if (spk s g).pair.isSome then 0x800 else 0) + front s g)
def lockIdCtx (e c : Nat) : BitVec 16 := BitVec.ofNat 16 (0x2000 + 64 * e + c)
def lockIdSTR : BitVec 16 := 0x3000
def lockIdFAB : BitVec 16 := 0x4000
def lockIdHOST : BitVec 16 := 0x5000

/-- Entry i of the lock table. -/
def lockEnt (s : State) (i : Nat) : LockEntry := tget {} s.lck.table i

/-- Entries in use, from the table. -/
def lockUsed (s : State) : Nat := (s.lck.table.filter fun e => e.2.st != LockState.free).length

/-- The state with an entry replaced; an entry with no holder, no waiters and no mark is free. -/
def setLockEnt (s : State) (i : Nat) (e : LockEntry) : State :=
  let s := { s with lck := { s.lck with table := if e.st = LockState.free then tdel s.lck.table i else tput s.lck.table i e } }
  { s with lck := { s.lck with peak := max s.lck.peak (lockUsed s) } }

/-- The entry that holds an address. -/
def findLock (s : State) (a : Nat) : Option Nat :=
  (s.lck.table.find? fun e => e.2.st != LockState.free && e.2.addr == a).map (·.1)

/-- The lowest-numbered free entry. -/
def freeLock (s : State) : Option Nat := (List.range 4096).find? fun i => (lockEnt s i).st == LockState.free

/-- A status word (R183). -/
def lockStatus (code index : Nat) : Word := orAll [code, index * 16]

/-- A blocked instruction of a spoke completes with a word in its register: the unit ends and the spoke runs on (R51, R184). -/
def completeBlocked (s : State) (g : Nat) (f : Spoke → Spoke) : State :=
  let sp := spk s g
  let u := endUnit (f (startUnit { sp with wait := none })) 2
  pairUnit (enter s g { u with st := sp.st } .run) g

/-- The spoke waits for the lock at an address. -/
def waitsLock (sp : Spoke) (a : Nat) : Option GReg :=
  match sp.st, sp.wait with
  | .blocked, some (.lock b rd) => if a = b then some rd else none
  | _, _ => none

/-- A lock status reaches a blocked spoke; for a pair the leader takes it as an input and the follower with it (R186). -/
def grantSpoke (s : State) (g a : Nat) (w : Word) : State :=
  let s := match member s g with
    | .leader p =>
      let x := pairAt s p
      logInput (setPair s p { x with lockSeq := none }) p 4 (x.lockSeq.getD x.nL) (w.setWidth 256) false false
    | _ => s
  (together s g).foldl (fun s h =>
    match waitsLock (spk s h) a with
    | some rd => completeBlocked s h fun sp => wg sp rd w
    | none => s) s

/-- The context of a pin engine. -/
def ctxAt (s : State) (e c : Nat) : Ctx := tget {} (tget {} s.pen.engines e).ctxs c

/-- Replies to a context that wait, oldest first (R185). -/
def ctxReplies (s : State) (e c : Nat) : List Word := tget [] s.lck.replies (64 * e + c)

/-- The state with these replies waiting. -/
def setReplies (s : State) (e c : Nat) (l : List Word) : State :=
  let k := 64 * e + c
  { s with lck := { s.lck with replies := if l = [] then tdel s.lck.replies k else tput s.lck.replies k l } }

/-- A reply of the lock unit to a context enters its input channel, or waits behind those that wait (R185). -/
def replyCtx (s : State) (e c : Nat) (w : Word) : State :=
  let l := ctxReplies s e c
  match (ctxAt s e c).inCh with
  | some ch => if l = [] ∧ (token s ch w).2 then (token s ch w).1 else setReplies s e c (l ++ [w])
  | none => setReplies s e c (l ++ [w])

/-- A context is lost to the lock unit: it stands in HELD or OFF (R189). -/
def ctxLost (s : State) (e c : Nat) : Bool := (ctxAt s e c).st == .held || (ctxAt s e c).st == .off

/-- The loss of a requester that holds or awaits a lock is on its way to the lock unit (R189). -/
def noteLoss (s : State) (who : BitVec 16) : State :=
  if who ∈ s.lck.losses ∨ ¬ s.lck.table.any (fun e => e.2.holder == who || e.2.waiters.contains who) then s
  else { s with lck := { s.lck with losses := s.lck.losses ++ [who] } }

/-- The lock address of a descriptor (R206). -/
def fabLockAddr (p : Peloton) : Option Nat :=
  if bit (p.desc.toArray[3]?.getD 0) 1 then some ((p.desc.toArray[6]?.getD 0).toNat % 2 ^ 26 / 4 * 4) else none

/-- A grant of a queued request reaches its requester, by its path (R185, R188). A context that is lost does not see it: that is a further
loss (R189). -/
def deliverGrant (s : State) (who : BitVec 16) (a : Nat) (w : Word) : State :=
  let ab := decide (w.toNat % 16 = 1)
  match who.toNat / 4096 with
  | 1 => grantSpoke s (who.toNat % 2048) a w
  | 2 =>
    let e := who.toNat % 4096 / 64
    let c := who.toNat % 64
    if ctxLost s e c then noteLoss s who else replyCtx s e c w
  | 3 =>
    match s.str.links.find? fun e => e.2.txWait == some a with
    | some (l, k) => setLink s l { k with txWait := none, txGrant := some (a, ab) }
    | none => s
  | 4 =>
    match s.fab.lockWait.find? fun i => fabLockAddr (tget {} s.fab.peloton i) == some a with
    | some i => { s with fab := { s.fab with
        lockWait := s.fab.lockWait.filter (· != i), lockGrant := s.fab.lockGrant ++ [(i, ab)] } }
    | none => s
  | 5 =>
    let s := orReg (setReg s 0x6038 (w &&& 0xFFFF)) 0x600C 8
    { s with lck := { s.lck with hostPend := none } }
  | _ => s

/-- A lock passes from its holder to the head waiter, or the entry is freed or left ABANDONED (R187, R189). -/
def passLock (s : State) (i : Nat) (lost : Bool) : State :=
  let e := lockEnt s i
  match e.waiters with
  | w :: t =>
    let s := setLockEnt s i { e with st := .held, holder := w, waiters := t }
    deliverGrant (bump s 0x603C) w e.addr (lockStatus (if lost then 1 else 0) i)
  | [] => setLockEnt s i { e with st := if lost then .abandoned else .free, holder := 0 }

/-- What the lock unit decides on a request: a status, or none where the requester is queued (R184). Counters and status bits are
those of LCK_STAT and LCK_CNT. -/
def lockAcquire (s : State) (who : BitVec 16) (a : Nat) (try_ : Bool) : State × Option Word :=
  match findLock s a with
  | none =>
    match freeLock s with
    | some i => (bump (setLockEnt s i ⟨.held, a, who, []⟩) 0x603C, some (lockStatus 0 i))
    | none => (bump (orReg s 0x600C 2) 0x6048, some (lockStatus 3 0))
  | some i =>
    let e := lockEnt s i
    if e.st = .abandoned then
      (bump (setLockEnt s i { e with st := .held, holder := who }) 0x603C, some (lockStatus 1 i))
    else if e.st = .held ∧ e.holder = who then (s, some (lockStatus 5 i))
    else if try_ then (s, some (lockStatus 2 i))
    else if e.waiters.length < 64 then
      (bump (setLockEnt s i { e with waiters := e.waiters ++ [who] }) 0x6040, none)
    else (bump (orReg s 0x600C 4) 0x6048, some (lockStatus 4 i))

/-- ULK (R184): the lock passes or is freed; else NOTHELD. -/
def lockRelease (s : State) (who : BitVec 16) (a : Nat) : State × Word :=
  let no (i : Nat) : State × Word := (orReg s 0x600C 0x40, lockStatus 6 i)
  match findLock s a with
  | none => no 0
  | some i =>
    if (lockEnt s i).st = .held ∧ (lockEnt s i).holder = who then (passLock s i false, lockStatus 0 i)
    else no i

/-- One lost lock: it is handed on or marked, counted and recorded (R189). -/
def loseLock (s : State) (i : Nat) : State :=
  let e := lockEnt s i
  let s := orReg (bump s 0x6044) 0x600C 1
  passLock (setReg (setReg s 0x604C (BitVec.ofNat 32 e.addr)) 0x6050 (e.holder.setWidth 32)) i true

/-- A requester leaves every queue it waits in, with no status (R189). -/
def leaveQueues (s : State) (who : BitVec 16) : State :=
  { s with lck := { s.lck with
      table := s.lck.table.map fun e => (e.1, { e.2 with waiters := e.2.waiters.filter (· != who) }) } }

/-- A holder is lost: its locks in table order, after its waits (R187, R189). -/
def loseHolder (s : State) (who : BitVec 16) : State :=
  let held := (s.lck.table.filter fun e =>
    (e.2.st == .held || e.2.st == .halted) && e.2.holder == who).map (·.1)
  held.foldl loseLock (leaveQueues s who)

/-- A halt marks the holder's entries HELD_BY_HALTED, and a release returns them (R190). -/
def markHalted (s : State) (who : BitVec 16) (on : Bool) : State :=
  let f (e : LockEntry) : LockEntry :=
    if e.holder = who ∧ e.st = (if on then LockState.held else .halted) then
      { e with st := if on then .halted else .held } else e
  { s with lck := { s.lck with table := s.lck.table.map fun e => (e.1, f e.2) } }

/-! ## Stopping, halting, faults (R48, R53, R61, R62, R327) -/

/-- A blocked instruction is abandoned with no effect (R48), and a paired leader's request still in the gate leaves it. A halt takes a
queued LCK out of its queue (R190); a stop leaves it there, and the loss ends its wait (R189). -/
def abandon (s : State) (g : Nat) (halt : Bool) : State :=
  let leave (s : State) : State := if halt then leaveQueues s (lockIdSpoke s g) else s
  match (spk s g).st, (spk s g).wait, member s g with
  | .blocked, some (.lock _ _), .leader p =>
    let x := pairAt s p
    leave (setPair s p { x with gate := if x.nL = x.nF then [] else x.gate.dropLast })
  | .blocked, some (.lock _ _), _ => leave s
  | _, _, _ => s

/-- A peloton entry of a spoke that stops before its whole result has come (R210): status 0x3, header only. -/
def pelLost (g : Nat) (p : Peloton) : Peloton :=
  if p.spoke = some g ∧ (p.st = .dispatched ∨ (p.st = .recorded ∧ p.due ≠ 0)) then
    { p with st := .recorded, status := 3, result := [], due := 0 } else p

/-- The peloton meets the loss of a spoke (R210, R211). -/
def fabSpokeLost (s : State) (g : Nat) : State :=
  let hit := s.fab.peloton.filter fun e => pelLost g e.2 != e.2
  if hit = [] then s
  else
    let s := hit.foldl (fun s _ => bump s 0x12078) (orReg s 0x1200C 0x10)
    { s with fab := { s.fab with
        peloton := s.fab.peloton.map fun e => (e.1, pelLost g e.2)
        gather := s.fab.gather.filter fun e => !(hit.any fun h => h.1 == e.2.1) } }

/-- One spoke enters STOPPED (R48): its staging is truncated, a message half read is discarded, its locks are lost. A stop by request
finds nothing in flight (R62); one that R265, R266, R293 or R350 makes at once drops what is (log entry 59). -/
def stopOne (s : State) (g : Nat) (c : StopCause) : State :=
  let s := abandon s g false
  let sp := spk s g
  let s := enter s g { sp with cause := c, wait := none, resv := none, req := none, slot := none, flight := [] } .stopped
  let s := (chansWhere s fun c => c.writer.isSpoke g && c.staged != []).foldl truncateStaging s
  let s := (chansWhere s fun c => c.reader.isSpoke g && c.inMsg).foldl discardReader s
  noteLoss (fabSpokeLost s g) (lockIdSpoke s g)

/-- A spoke, or both of its pair, enter STOPPED. -/
def stopNow (s : State) (g : Nat) (c : StopCause) : State := (together s g).foldl (fun s h => stopOne s h c) s

/-- One spoke enters HALTED; the prior state is kept (R326, R327). -/
def haltOne (s : State) (g : Nat) : State :=
  if (spk s g).st = .halted then s
  else
    let s := abandon s g true
    let sp := spk s g
    let prior : SpokeState := if sp.st = .blocked then .run else sp.st
    markHalted (enter s g { sp with prior := prior, wait := none, resv := none, req := none } .halted) (lockIdSpoke s g) true

/-- A spoke, or both of its pair, halt. -/
def haltNow (s : State) (g : Nat) : State := (together s g).foldl haltOne s

/-- No response is on its way to a spoke or to its pair (R62). -/
def drained (s : State) (g : Nat) : Bool := (together s g).all fun h => (spk s h).flight.isEmpty

/-- An issue-unit boundary: no delay slot is due, and a follower stands where its leader does (R62, R329). -/
def atBoundary (s : State) (g : Nat) : Bool :=
  (together s g).all (fun h => (spk s h).slot.isNone) &&
    (match (spk s g).pair with
     | none => true
     | some (p, _) => (pairAt s p).nL == (pairAt s p).nF || (spk s (pairAt s p).leader.toNat).st == .stopped)

/-- A replay or a vote of the spoke's pair is under way (R263). -/
def inReplay (s : State) (g : Nat) : Bool :=
  match (spk s g).pair with
  | none => false
  | some (p, _) => (pairAt s p).mismatch || (pairAt s p).st == .replay || (pairAt s p).st == .vote
      || (pairAt s p).st == .repairing

/-- A halt, a stop or a recorded fault acts (R48, R49, R61, R62): a fault is reported, and sets the FAULT bits of what stops. -/
def applyReq (s : State) (g : Nat) (r : BoundaryReq) : State :=
  match r with
  | .halt => haltNow s g
  | .stop c => if c = .kill then report (stopNow s g c) 3 0 (front s g) else stopNow s g c
  | .fault code halt =>
    let s := report ((together s g).foldl faultBit (stopNow s g .fault)) 1 code (front s g)
    if halt then haltNow s g else s

/-- A recorded fault waits for what is in flight. -/
def faultDue (sp : Spoke) : Bool :=
  match sp.req with
  | some (.fault _ _) => true
  | _ => false

/-- Two requests of one spoke: a recorded fault stands, with a halt that comes after or was there before; else the later one counts. -/
def mergeReq (old : Option BoundaryReq) (r : BoundaryReq) : BoundaryReq :=
  match old, r with
  | some (.fault c _), .halt => .fault c true
  | some (.fault c h), _ => .fault c h
  | some .halt, .fault c _ => .fault c true
  | _, r => r

/-- A blocked instruction of a spoke, and of its pair, is abandoned for a request: after a halt it issues again (R48, R62). -/
def unblock (r : BoundaryReq) (s : State) (g : Nat) : State :=
  if (spk s g).st = .blocked then
    let s := abandon s g (r == .halt)
    enter s g { spk s g with wait := none } .run
  else s

/-- A halt, a stop or a fault stop is requested: at once at a boundary with no response on its way, else when it has come to that;
during a replay or vote after it has ended (R62, R263). -/
def request (s : State) (g : Nat) (r : BoundaryReq) : State :=
  let f := front s g
  let r := mergeReq (spk s f).req r
  if inReplay s g then
    match (spk s g).pair with
    | some (p, _) => setPair s p { pairAt s p with req := some r }
    | none => s
  else if atBoundary s g then
    if drained s g then applyReq s g r
    else
      let s := (together s g).foldl (unblock r) s
      setSpk s f { spk s f with req := some r }
  else setSpk s f { spk s f with req := some r }

/-- After a unit or a response: a request that waited for the boundary acts. -/
def settle (s : State) (g : Nat) : State :=
  match (spk s (front s g)).req with
  | none => s
  | some r => if atBoundary s g && drained s g then applyReq s g r else s

/-- A spoke completes an instruction of so many parcels (R62, R117). -/
def advance (s : State) (g : Nat) (sp : Spoke) (parcels : Nat) : State :=
  settle (pairUnit (setSpk s g (endUnit sp parcels)) g) g

/-- The PC of a fault: the branch, where its delay slot faults (R69). This is the model's reading too of PROG_ADDR for the sequential PC
0x3_0000, or for a second parcel there, that arises in a delay slot: R76 names that parcel, R69 the branch (log entry 58). -/
def faultPc (sp : Spoke) : BitVec 18 :=
  match sp.slot with
  | some d => d.branch
  | none => sp.pc

/-- A fault recorded in the context of a spoke (R55, R95). -/
def noteFault (s : State) (g code detail : Nat) : State :=
  setSpk s g { spk s g with fcode := BitVec.ofNat 8 code, fdetail := BitVec.ofNat 8 detail }

/-- A fault that an instruction meets, recorded: a due delay slot is given up with its branch (R69). -/
def recordFault (s : State) (g code detail : Nat) : State :=
  let sp := spk s g
  noteFault (setSpk s g { sp with pc := faultPc sp, slot := none }) g code detail

/-- A fault stops a spoke, or a pair, with a report, once what is in flight has come (R48, R49, R61, R62). -/
def faultStop (s : State) (g code detail : Nat) : State :=
  let s := (together s g).foldl (fun s h => recordFault s h code detail) s
  request s g (.fault code false)

/-- A fault from outside the instruction at hand stops a spoke, or a pair, with a report, at the next boundary (R61, R62, R268). -/
def faultAtBoundary (s : State) (g code detail : Nat) : State :=
  request ((together s g).foldl (fun s h => noteFault s h code detail) s) g (.fault code false)

/-- A pair has met a mismatch: its replay is due (R263). -/
def mismatch (s : State) (p : Nat) : State := setPair s p { pairAt s p with mismatch := true }

/-- A fault at EX (R61). A leader's waits for the follower in the gate; the pair faults when the follower meets the same
(R263). -/
def exFault (s : State) (g code detail : Nat) : State :=
  match member s g with
  | .solo => faultStop s g code detail
  | .leader p =>
    let x := pairAt s p
    setPair s p { x with gate := x.gate ++ [.exFault code detail (faultPc (spk s g))] }
  | .follower p =>
    let x := pairAt s p
    if x.gate.head? = some (.exFault code detail (faultPc (spk s g))) then
      faultStop (setPair s p { x with gate := x.gate.tail }) g code detail
    else mismatch s p

/-- A released spoke: DEFERRED or STOPPED to RUN, with its watchdog at the full period (R47, R268). The pending bit of a failed load's
destination, which R61 only says stays set, clears here (log entry 8). -/
def releaseOne (s : State) (g : Nat) : State :=
  let sp := spk s g
  feedSpoke (enter s g { sp with failPc := none, stuck := [] } .run) g

/-- A spoke, or both of its pair, are released. -/
def releaseNow (s : State) (g : Nat) : State := (together s g).foldl releaseOne s

end Sys2Proof.Machine
end

