-- ==== Sys2Proof/Machine/CadOps.lean ====
section
/-! DEFINITION. Shared operations of the cadence unit: axes, the tracker, losses, captures and comparator distances (R18 to R36). -/
namespace Sys2Proof.Machine

/-- What every meaning answers. -/
abbrev Out := Host.Outcome State Fault Refusal

/-- The command acts where its condition holds; elsewhere it does not come about (log entry 1). -/
def act (c : Bool) (s s' : State) : Out := .next (if c then s' else s)

/-- Registers of axis n (R18). -/
def axReg (n r : Nat) : Nat := 0x4000 + 0x40 * n + r

/-- An axis. -/
def axis (s : State) (n : Fin 17) : Axis := s.cad.axes[n]

/-- The state with an axis replaced. -/
def setAxis (s : State) (n : Fin 17) (a : Axis) : State := { s with cad := { s.cad with axes := s.cad.axes.set n a } }

/-- A status bit of an axis is recorded. -/
def axStat (s : State) (n : Fin 17) (i : Nat) : State := orReg s (axReg n 0x1C) ((1 : Word) <<< i)

/-- The wrap in counts: the modulus, or 2^40 on a linear axis (R20). -/
def wrapOf (s : State) (n : Fin 17) : Nat :=
  let m := (reg s (axReg n 0xC)).toNat + fld s (axReg n 0x10) 0 8 * 2 ^ 32
  if m = 0 then 2 ^ 40 else m

/-- SRC.KIND; network time on axis 0 (R18). -/
def axKind (s : State) (n : Fin 17) : Nat := if n = 0 then 5 else fld s (axReg n 4) 0 3

/-- Counts per accepted edge (R18). -/
def axWeight (s : State) (n : Fin 17) : Nat := if axKind s n = 3 ∨ axKind s n = 4 then fld s (axReg n 4) 16 16 else 1

/-- CTL.FILTER (R19). -/
def axFilter (s : State) (n : Fin 17) : Nat := fld s (axReg n 0) 4 4

/-- A secondary encoder is declared (R26). -/
def hasSec (s : State) (n : Fin 17) : Bool := n != 0 && flg s (axReg n 8) 0

/-- A difference reduced into (−m/2, m/2] (R27). -/
def reduce (m : Nat) (x : Int) : Int :=
  let r := x.emod m
  if 2 * r > m then r - m else r

/-- Secondary minus primary, as a signed distance modulo the wrap (R26). -/
def secDistance (s : State) (n : Fin 17) : Int := reduce (wrapOf s n) ((axis s n).sec - (axis s n).k)

/-- The prediction clamped to what the evidence allows, in 2^-24 counts, the fraction truncated downwards (R21). -/
def clamped (w : Nat) (a : Axis) : Int :=
  let x := match a.clamp with
    | none => a.u
    | some true => max (a.k * 2 ^ 32) (min a.u ((a.k + w) * 2 ^ 32 - 2 ^ 8))
    | some false => max ((a.k - w) * 2 ^ 32 + 2 ^ 8) (min a.u (a.k * 2 ^ 32))
  x.fdiv (2 ^ 8)

/-- The axis takes a position in 2^-24 counts: whole wraps go into the epoch and are recorded (R20). -/
def place (s : State) (n : Fin 17) (a : Axis) (x : Int) : State :=
  let m := wrapOf s n
  let w := x.fdiv (m * 2 ^ 24)
  let e := a.epoch.toNat + w
  let s := setAxis s n { a with
    p := BitVec.ofInt 64 (x - w * (m * 2 ^ 24)), epoch := BitVec.ofInt 24 e
    u := a.u - w * m * 2 ^ 32, k := a.k - w * m }
  let s := if w ≠ 0 then axStat s n 8 else s
  if e < 0 ∨ e ≥ 2 ^ 24 then axStat s n 9 else s

/-! ## Comparators (R27 to R30) -/

/-- A comparator. -/
def evt (s : State) (c : Nat) : Comparator := tget {} s.cad.evts c

/-- The state with a comparator replaced. -/
def setEvt (s : State) (c : Nat) (x : Comparator) : State := { s with cad := { s.cad with evts := tput s.cad.evts c x } }

/-- CFG.AXIS, which is never above 16. -/
def evtAxis (x : Comparator) : Fin 17 := Fin.ofNat 17 (bits x.cfg 0 5)

/-- The target reduced modulo the wrap, in 2^-24 counts (R27). -/
def evtTarget (s : State) (x : Comparator) : Nat := x.target.toNat % (wrapOf s (evtAxis x) * 2 ^ 24)

/-- The signed distance δ of a position from the target (R27). -/
def evtDelta (s : State) (x : Comparator) (p : BitVec 64) : Int :=
  reduce (wrapOf s (evtAxis x) * 2 ^ 24) ((p.toNat : Int) - evtTarget s x)

/-- δ' is set from the position now: a write or an enable never fires (R25, R29, R35). -/
def syncEvt (s : State) (x : Comparator) : Comparator :=
  { x with dPrev := evtDelta s x (axis s (evtAxis x)).p, heldL := false }

/-- Comparators of an axis, changed. -/
def mapEvts (s : State) (n : Fin 17) (f : Comparator → Comparator) : State :=
  { s with cad := { s.cad with evts := s.cad.evts.map fun e => (e.1, if evtAxis e.2 = n then f e.2 else e.2) } }

/-- A comparator leaves ARMED or FIRED for ABORTED (R30). -/
def abortEvt (x : Comparator) : Comparator := if x.st = .armed ∨ x.st = .fired then { x with st := .aborted } else x

/-! ## The tracker (R21) -/

/-- The distance is held while the two counts agree (R26). -/
def holdDist (s : State) (n : Fin 17) : State :=
  let a := axis s n
  if ¬ a.onSec ∧ (secDistance s n).natAbs ≤ fld s (axReg n 8) 16 16 then setAxis s n { a with secDist := secDistance s n } else s

/-- v within its signed 48 bits. -/
def clampV (v : Int) : Int := clampS 48 v

/-- An accepted edge in TRACKING: r, u, v (R21). `e` is the bc of its first sample. -/
def track (s : State) (n : Fin 17) (a : Axis) (k : Int) (dir : Bool) : Axis :=
  let f := axFilter s n + 1
  let e := s.bc - f
  let dt := max 1 (e - a.tEdge)
  let r := k * 2 ^ 32 - (a.u - a.v * f)
  let v := clampV (a.v + r.tdiv (dt * 2 ^ fld s (axReg n 0x14) 4 4))
  { a with
    k := k, u := a.u + asrInt r (fld s (axReg n 0x14) 0 3), v := v, vEdge := v
    edged := true, tEdge := e, tTimeout := s.bc, clamp := some dir, lastDir := some dir }

/-- The nearest multiple of w (counts) to a value in 2^-32 counts; a value midway goes up. -/
def nearest (w : Nat) (u : Int) : Int := (2 * u + w * 2 ^ 32).fdiv (2 * w * 2 ^ 32) * w

/-- A recovery at the count k: TRACKING, with a jump (R24). v is kept; so is the velocity recorded at the last edge, also where STALLED
has cleared v (DEDUCED, log entry 11). -/
def recoverAt (s : State) (n : Fin 17) (a : Axis) (k : Int) (dir : Bool) : State :=
  axStat (place s n { a with
    st := .tracking, k := k, u := k * 2 ^ 32, clamp := some dir, lastDir := some dir
    edged := true, tEdge := s.bc - (axFilter s n + 1), tTimeout := s.bc, jump := true } (k * 2 ^ 24)) n 12

/-- The axis enters COASTING (R24) and its comparators with COAST = abort are aborted (R30). Axis 0 keeps its position. -/
def enterCoasting (s : State) (n : Fin 17) : State :=
  let a := axis s n
  let u := if n = 0 then a.u else a.k * 2 ^ 32 + a.vEdge * (s.bc - a.tEdge : Nat)
  let v := if n = 0 then a.v else a.vEdge
  let s := place s n { a with st := .coasting, v := v, u := u, clamp := none, tLoss := s.bc, jump := true } (u.fdiv (2 ^ 8))
  mapEvts (axStat s n 10) n fun x => if bits x.cfg 8 2 = 2 then abortEvt x else x

/-- The axis continues on the secondary: its count plus the held distance, taken at the wrap nearest to k, so that p does not jump (R26). -/
def failOver (s : State) (n : Fin 17) : State :=
  let a := axis s n
  axStat (setAxis s n { a with onSec := true, k := a.k + reduce (wrapOf s n) (a.sec - a.secDist - a.k) }) n 14

/-- The primary, or the secondary, of an axis loses its input (R24, R26). An accepted edge of the secondary ends its loss (DEDUCED, log
entry 11). -/
def loseInput (s : State) (n : Fin 17) (onSecondary : Bool) : State :=
  let a := axis s n
  if onSecondary then
    let s := setAxis s n { a with secLost := true }
    if a.onSec then (if a.st = .tracking then enterCoasting s n else s)
    else if a.secLost then s else axStat s n 15
  else if a.st ≠ .tracking ∨ a.onSec then s
  else if hasSec s n ∧ ¬ a.secLost ∧ ¬ a.disAct then failOver s n
  else enterCoasting s n

/-- Z re-synchronisation (R22): p goes to the nearest wrap, the tracker to count 0. A position at exactly half a wrap goes up, and the
edge of Z, an accepted edge, restarts the edge time and the loss timeout (DEDUCED, log entry 11). -/
def resync (s : State) (n : Fin 17) : State :=
  let a := axis s n
  let m := wrapOf s n * 2 ^ 24
  let up := decide (2 * a.p.toNat ≥ m)
  let s' := place s n { a with
    st := .tracking, u := if up then (wrapOf s n : Int) * 2 ^ 32 else 0, k := if up then wrapOf s n else 0
    clamp := some true, lastDir := none, uncertain := false, onSec := false
    edged := true, tEdge := s.bc - (axFilter s n + 1), tTimeout := s.bc
    jump := a.jump || a.p != 0 } (if up then m else 0)
  if a.st = .tracking then s' else axStat s' n 12

/-- CMD.SET_POS (R35), and R25 on an axis that is OFF. -/
def setPosition (s : State) (n : Fin 17) : State :=
  let a := axis s n
  let latch := (reg s (axReg n 0x24)).toNat + (reg s (axReg n 0x28)).toNat * 2 ^ 32
  let p := latch % (wrapOf s n * 2 ^ 24)
  let a' := { a with
    p := BitVec.ofNat 64 p, u := (p : Int) * 2 ^ 8, k := (p / 2 ^ 24 : Nat), clamp := some true, lastDir := none
    uncertain := false, onSec := false, secLost := false, tTimeout := s.bc, tSec := s.bc
    st := if a.st = .off then .off else .tracking }
  let s' := setAxis s n a'
  if a.st = .off then s'
  else
    let s' := mapEvts s' n (syncEvt s')
    if a.st = .tracking then s' else axStat s' n 12

/-- The axis is taken into TRACKING (R25). Before any accepted edge the edge time counts from here; ON_SEC stays as the axis left service,
and the loss of the secondary is forgotten, its timeout counting anew (DEDUCED, log entry 11). -/
def enableAxis (s : State) (n : Fin 17) : State :=
  let a := axis s n
  let k : Int := (a.p.toNat / 2 ^ 24 : Nat)
  let s := setAxis s n { a with
    st := .tracking, k := k, clamp := some true, lastDir := none, tTimeout := s.bc, tSec := s.bc
    tEdge := if a.edged then a.tEdge else s.bc
    secLost := false, uncertain := a.uncertain || (1 ≤ axKind s n && axKind s n ≤ 3) }
  mapEvts s n (syncEvt s)

/-- The axis goes OFF (R25). -/
def disableAxis (s : State) (n : Fin 17) : State := setAxis s n { axis s n with st := .off }

/-- CAD_AXISn_CTL takes a value; EN takes effect in the next bc (R25). -/
def setAxisCtl (s : State) (n : Fin 17) (v : Word) : State :=
  let s := setReg s (axReg n 0) (v &&& 0x000F07F7)
  if s.released then setAxis s n { axis s n with enDue := some (bit v 0) } else s

/-- A write of CAD_AXISn_CTL: VSCALE above 4 leaves the field, EN = 1 is ignored on KIND 0b000 (R18, R25). -/
def writeAxisCtl (s : State) (n : Fin 17) (v : Word) : State :=
  let old := reg s (axReg n 0)
  let v := if bits v 8 3 > 4 then putBits v 8 3 (bits old 8 3) else v
  let v := if bit v 0 ∧ axKind s n = 0 ∧ ¬ bit old 0 then putBit v 0 false else v
  setAxisCtl s n v

/-- The write of CTL.EN of the bc before takes effect (R25). -/
def applyEnable (s : State) (n : Fin 17) : State :=
  let a := axis s n
  match a.enDue with
  | none => s
  | some on =>
    let s := setAxis s n { a with enDue := none }
    if on ∧ a.st = .off then enableAxis s n else if ¬ on ∧ a.st ≠ .off then disableAxis s n else s

/-! ## Captures (R34) -/

/-- A signed value saturated at ±(2^31 − 1). -/
def sat31 (x : Int) : Word := BitVec.ofInt 32 (max (-(2 ^ 31 - 1)) (min x (2 ^ 31 - 1)))

/-- The state code of an axis. -/
def axState (a : Axis) : Nat :=
  match a.st with
  | .off => 0
  | .tracking => 1
  | .coasting => 2
  | .stalled => 3

/-- CMD.CAPTURE (R34). -/
def captureAxis (s : State) (n : Fin 17) : State :=
  let a := axis s n
  let seq := (fld s (axReg n 0x30) 28 4 + 1) % 16
  let s := setReg (setReg s (axReg n 0x24) (a.p.setWidth 32)) (axReg n 0x28) (a.p.extractLsb' 32 32)
  let s := setReg s (axReg n 0x2C)
    (if n = 0 then reg s 0x483C else sat31 (asrInt a.v (4 * fld s (axReg n 0) 8 3)))
  let s := setReg s (axReg n 0x30)
    (orAll [a.epoch.toNat, axState a <<< 24, b2n a.disAct <<< 26, b2n a.uncertain <<< 27, seq <<< 28])
  setReg s (axReg n 0x34) (if hasSec s n then sat31 (secDistance s n) else 0)

/-- CAD_CMD.CAPTURE_ALL (R34). -/
def captureMask (s : State) (mask : BitVec 17) : State :=
  (List.finRange 17).foldl (fun s n => if mask.getLsbD n.val then captureAxis s n else s) s

/-- CAD_CMD.CLR_DIS (R26). -/
def clearDis (s : State) : State :=
  let s := [0x4824, 0x4828, 0x482C, 0x4830, 0x4834].foldl (fun s o => setReg s o 0) s
  { s with cad := { s.cad with ownerRef := false } }

/-- A write of CAD_PTP_RATE (R23, R24): the timeout counts again, and a lost axis 0 returns to TRACKING. -/
def writePtpRate (s : State) (v : Word) : State :=
  let s := setReg s 0x483C v
  let a := axis s 0
  if a.st = .coasting ∨ a.st = .stalled then
    axStat (setAxis s 0 { a with tTimeout := s.bc, st := .tracking, jump := true }) 0 12
  else setAxis s 0 { a with tTimeout := s.bc }

/-- The comparator that the window names. -/
def evtSel (s : State) : Nat := fld s 0x4810 0 9

/-- A write of CAD_EVT_TGT_HI: the target as a whole (R29). -/
def writeTargetHi (s : State) (v : Word) : State :=
  let x := { evt s (evtSel s) with target := v ++ s.cad.stageLo }
  setEvt s (evtSel s) (syncEvt s x)

/-- A write of CAD_EVT_CFG (R28 to R31): an AXIS above 16 or a COAST of 0b11 leaves its field; ARM arms or disarms. -/
def writeEvtCfg (s : State) (v : Word) : State :=
  let x := evt s (evtSel s)
  let v := if bits v 0 5 > 16 then putBits v 0 5 (bits x.cfg 0 5) else v
  let v := if bits v 8 2 = 3 then putBits v 8 2 (bits x.cfg 8 2) else v
  let x := { x with cfg := v &&& 0xFFFF7FBF, st := if bit v 6 then .armed else .disarmed }
  setEvt s (evtSel s) (syncEvt s x)

end Sys2Proof.Machine
end

