-- ==== Sys2Proof/Machine/Timers.lean ====
section
/-! DEFINITION. Timers and performance counters (R216 to R232): counting, commands, events, captures, counter commands. -/
namespace Sys2Proof.Machine

/-! ## Timers -/

/-- Registers of timer n (R231). -/
def tmrReg (n r : Nat) : Nat := 0x8000 + 0x40 * n + r

/-- A timer. -/
def timer (s : State) (n : Fin 32) : Timer := s.timers[n]

/-- The state with a timer replaced. -/
def setTimer (s : State) (n : Fin 32) (t : Timer) : State := { s with timers := s.timers.set n t }

/-- A status bit of a timer is recorded. -/
def tmrStat (s : State) (n : Fin 32) (i : Nat) : State := orReg s (tmrReg n 0x24) ((1 : Word) <<< i)

/-- 2^PRE (R216). -/
def tmrDiv (s : State) (n : Fin 32) : Nat := 2 ^ fld s (tmrReg n 0) 0 4

/-- The freeze request acts on the timer (R226). -/
def tmrFrozen (s : State) (n : Fin 32) : Bool := s.dbg.frz && flg s (tmrReg n 0) 4

/-- The timer freewheels (R226). -/
def tmrFreewheel (s : State) (n : Fin 32) : Bool := s.dbg.frz && !flg s (tmrReg n 0) 4

/-- Ticks to the next event, its own tick included (R216). -/
def ticksToEvent (men : Bool) (t : Timer) : Nat :=
  if men ∧ t.match_.toNat ≠ 0 ∧ t.match_.toNat < t.count.toNat then t.count.toNat - t.match_.toNat else max 1 t.count.toNat

/-- Owed bc are counted up to, and not into, the bc of the next event (R216). -/
def consume (d : Nat) (men : Bool) (t : Timer) : Timer :=
  if ¬ t.run then { t with owed := 0 }
  else
    let n := min t.owed (ticksToEvent men t * d - t.pre % d - 1)
    { t with pre := (t.pre % d + n) % d, count := t.count - BitVec.ofNat 64 ((t.pre % d + n) / d), owed := t.owed - n }

/-- The owed bc of a timer are counted. -/
def runTimer (s : State) (n : Fin 32) : State :=
  setTimer s n (consume (tmrDiv s n) (flg s (tmrReg n 0) 7) (timer s n))

/-- An event is due in the bc at hand: a tick of a running timer; while it freewheels, only at an LFCLK edge (R226). -/
def tickDue (s : State) (n : Fin 32) : Bool :=
  (timer s n).run && (!tmrFreewheel s n || s.bc % 1000 == 0) && decide ((timer s n).owed ≥ 1) && decide ((timer s n).pre % tmrDiv s n = tmrDiv s n - 1)

/-- CAPTURE (R218, R222). -/
def tmrCaptureT (t : Timer) : Timer := { t with latch := t.count }
/-- STOP (R218). -/
def tmrStopT (t : Timer) : Timer := { t with run := false, owed := 0 }
/-- RESET (R218). -/
def tmrResetT (t : Timer) : Timer := { t with run := false, count := t.reload, pre := 0, owed := 0, replaced := true }
/-- LOAD_NOW (R218). -/
def tmrLoadT (t : Timer) : Timer := { t with count := t.reload, replaced := true }
/-- CLAMP (R218). -/
def tmrClampT (t : Timer) : Timer := if t.reload.toNat < t.count.toNat then { t with count := t.reload, replaced := true } else t

/-- START (R218). -/
def startTimer (s : State) (n : Fin 32) : State :=
  let t := timer s n
  let t := if t.count = 0 then { t with count := t.reload } else t
  if t.count = 0 then tmrStat (setTimer s n { t with run := false }) n 13 else setTimer s n { t with run := true }

/-- A timer changed by a command. -/
def onTimer (s : State) (n : Fin 32) (f : Timer → Timer) : State := setTimer s n (f (timer s n))

/-- The commands of a write of TMR_n_CMD, in ascending bit order (R218). -/
def timerCmd (s : State) (n : Fin 32) (v : Word) : State :=
  let s := if bit v 0 then onTimer s n tmrCaptureT else s
  let s := if bit v 1 then onTimer s n tmrStopT else s
  let s := if bit v 2 then onTimer s n tmrResetT else s
  let s := if bit v 3 then onTimer s n tmrLoadT else s
  let s := if bit v 4 then onTimer s n tmrClampT else s
  if bit v 5 then startTimer s n else s

/-- TMR_GRP_CMD (R218). -/
def timerGroupCmd (s : State) (v : Word) : State :=
  (List.finRange 32).foldl (fun s n => if bit (reg s 0x8808) n.val then timerCmd s n v else s) s

/-- A link action: 1 start, 2 stop, 3 load now, 4 reset (R220). -/
def linkAction (s : State) (n : Fin 32) (a : Nat) : State :=
  match a with
  | 1 => startTimer s n
  | 2 => onTimer s n tmrStopT
  | 3 => onTimer s n tmrLoadT
  | 4 => onTimer s n tmrResetT
  | _ => s

/-- A link action of a source timer on a timer acts in the next bc, at step 3 of R219. -/
def queueLink (s : State) (src n : Fin 32) (a : Nat) : State :=
  if a = 0 then s else onTimer s n fun t => { t with linkDue := t.linkDue ++ [(src.val, a)] }

/-- The link actions that have come for a timer act, in ascending source timer number (R219). -/
def takeLinks (s : State) (n : Fin 32) : State :=
  (List.range 32).foldl (fun u src => ((timer s n).linkDue.filter (·.1 == src)).foldl (fun u e => linkAction u n e.2) u)
    (onTimer s n fun t => { t with linkDue := [] })

/-- COUNT as the bc just past leaves it: with the event of its tick (R216, R220). -/
def endCount (s : State) (n : Fin 32) : BitVec 64 :=
  let t := timer s n
  if ¬ tickDue s n then t.count
  else if t.count.toNat ≤ 1 then t.reload
  else if flg s (tmrReg n 0) 7 ∧ t.count - 1 = t.match_ ∧ 3 ≤ fld s (tmrReg n 0) 19 3 then t.reload
  else t.count - 1

/-- The source of a timer's capture input: KIND, EDGE, NUM (R223). -/
def capSource (s : State) (n : Fin 32) (i : Nat) : Word := item s 0x8814 (n * 4 + 1 + i)

/-- A comparator (KIND 2) has fired, or a timer (KIND 3) has come to zero, in the bc just past: the inputs that name it capture COUNT (R223). -/
def captureFrom (s : State) (kind num : Nat) : State :=
  (List.finRange 32).foldl (fun u n => [0, 1].foldl (fun u i =>
    if bits (capSource s n i) 0 2 = kind ∧ bits (capSource s n i) 4 9 = num then
      onTimer u n fun t => { t with capDue := t.capDue ++ [(i, t.past0, s.bc - 1)] }
    else u) u) s

/-- A trigger is on its way to an engine context; those of several comparators in one bc give one (R31, R135). -/
def queueTrigger (s : State) (e c : Nat) (timer : Bool) : State :=
  let t : Trigger := ⟨e, c, s.bc, timer⟩
  if ¬ timer ∧ t ∈ s.cad.trigQ then s else { s with cad := { s.cad with trigQ := s.cad.trigQ ++ [t] } }

/-- An epoch line is about to open (R31, R220). -/
def queueEpoch (s : State) (l : Nat) : State :=
  if l ∈ s.cad.epochQ then s else { s with cad := { s.cad with epochQ := s.cad.epochQ ++ [l] } }

/-- A timer token enters its channel, waits, or is lost (R221). -/
def timerToken (s : State) (n : Fin 32) (isMatch f : Bool) : State :=
  let t := timer s n
  let ch := bits (item s 0x8814 (n * 4)) 0 14
  let w := orAll [n.val <<< 27, b2n isMatch <<< 26, b2n f <<< 25, t.seq.toNat]
  let s := setTimer s n { t with seq := t.seq + 1 }
  if (chan s ch).writer ≠ ⟨.timer, n.val⟩ ∨ t.tok.isSome then tmrStat s n 12
  else if (token s ch w).2 then (token s ch w).1
  else setTimer s n { timer s n with tok := some w }

/-- The emit of an event (R220). -/
def timerEmit (s : State) (n : Fin 32) (isMatch : Bool) : State :=
  let d := item s 0x8814 (n * 4)
  match fld s (tmrReg n 0) 24 3 with
  | 1 => timerToken s n isMatch (tmrFreewheel s n)
  | 2 => queueTrigger s (bits d 0 6) (bits d 6 6) true
  | 3 => queueEpoch s (bits d 0 5)
  | 4 => if h : bits d 0 5 < 17 then captureAxis s ⟨bits d 0 5, h⟩ else s
  | _ => s

/-- An event of a freewheeling timer that has already fired within the LFCLK edge is counted and not emitted (R226). -/
def fwAgain (s : State) (n : Fin 32) (isMatch : Bool) : Bool :=
  tmrFreewheel s n && (if isMatch then (timer s n).fwMatch else (timer s n).fwZero)

/-- Link action, for the next bc, and emit of an event (R220, R226). -/
def timerEvent (s : State) (n : Fin 32) (isMatch : Bool) (link : Nat) (emit : Bool) : State :=
  if fwAgain s n isMatch then
    tmrStat (setTimer s n { timer s n with seq := (timer s n).seq + (if emit ∧ fld s (tmrReg n 0) 24 3 = 1 then 1 else 0) }) n 11
  else
    let t := timer s n
    let s := setTimer s n { t with
      fwZero := t.fwZero || (tmrFreewheel s n && !isMatch), fwMatch := t.fwMatch || (tmrFreewheel s n && isMatch) }
    let s := queueLink s n (Fin.ofNat 32 (fld s (tmrReg n 0) 8 5)) link
    if emit then timerEmit s n isMatch else s

/-- The zero event of a timer (R216, R220): the tick of that bc. -/
def zeroEvent (s : State) (n : Fin 32) : State :=
  let t := timer s n
  let stop := decide (t.reload = 0) || flg s (tmrReg n 0) 6
  let s := setTimer s n { t with pre := 0, count := t.reload, owed := t.owed - 1, run := !stop }
  let s := timerEvent (captureFrom (tmrStat s n 8) 3 n.val) n false (fld s (tmrReg n 0) 13 3) (flg s (tmrReg n 0) 22)
  runTimer s n

/-- The match event of a timer (R216, R220). -/
def matchEvent (s : State) (n : Fin 32) : State :=
  let t := timer s n
  let s := setTimer s n { t with pre := 0, count := t.match_, owed := t.owed - 1 }
  let self := fld s (tmrReg n 0) 19 3
  let s := onTimer s n fun t =>
    if self = 2 then tmrStopT t
    else if self = 3 then { t with count := t.reload }
    else if self = 4 then { t with run := false, count := t.reload, pre := 0, owed := 0 } else t
  let s := timerEvent (tmrStat s n 9) n true (fld s (tmrReg n 0) 16 3) (flg s (tmrReg n 0) 23)
  runTimer s n

/-- TIMER_ZERO: the tick that takes COUNT from 1 to 0. -/
def execTimerZero (n : Fin 32) (s : State) : Out :=
  act (s.released && tickDue s n && decide ((timer s n).count.toNat ≤ 1)) s (zeroEvent s n)

/-- TIMER_MATCH: the tick at which COUNT comes to MATCH. -/
def execTimerMatch (n : Fin 32) (s : State) : Out :=
  act (s.released && tickDue s n && flg s (tmrReg n 0) 7 && decide ((timer s n).count.toNat > 1)
    && decide ((timer s n).count - 1 = (timer s n).match_)) s (matchEvent s n)

/-- TMR_CAPTURE (R218, R222). -/
def execTmrCapture (n : Fin 32) (s : State) : Out := act (live s) s (onTimer s n tmrCaptureT)
/-- TMR_STOP (R218). -/
def execTmrStop (n : Fin 32) (s : State) : Out := act (live s) s (onTimer s n tmrStopT)
/-- TMR_RESET (R218). -/
def execTmrReset (n : Fin 32) (s : State) : Out := act (live s) s (onTimer s n tmrResetT)
/-- TMR_LOAD_NOW (R218). -/
def execTmrLoadNow (n : Fin 32) (s : State) : Out := act (live s) s (onTimer s n tmrLoadT)
/-- TMR_CLAMP (R218). -/
def execTmrClamp (n : Fin 32) (s : State) : Out := act (live s) s (onTimer s n tmrClampT)
/-- TMR_START (R218). -/
def execTmrStart (n : Fin 32) (s : State) : Out := act (live s) s (startTimer s n)

/-- A write of RELOAD_HI commits both halves; COUNT stays (R217). -/
def writeReloadHi (s : State) (n : Fin 32) (v : Word) : State := onTimer s n fun t => { t with reload := v ++ t.reloadLo }
/-- A write of MATCH_HI commits both halves (R217). -/
def writeMatchHi (s : State) (n : Fin 32) (v : Word) : State := onTimer s n fun t => { t with match_ := v ++ t.matchLo }

/-- TMR_RELOAD_HI_WRITE. -/
def execTmrReloadHiWrite (n : Fin 32) (v : Word) (s : State) : Out := act (live s) s (writeReloadHi s n v)
/-- TMR_MATCH_HI_WRITE. -/
def execTmrMatchHiWrite (n : Fin 32) (v : Word) (s : State) : Out := act (live s) s (writeMatchHi s n v)

/-- A timer leaves freewheel at the prescaler value it has reached: the bc since the last LFCLK edge are not counted (R226). -/
def endFreewheel (s : State) (n : Fin 32) : State :=
  if tmrFreewheel s n then onTimer s n fun t => { t with owed := t.owed - s.bc % 1000 } else s

/-- The freeze request of the debugger (R226, R337). -/
def setFreeze (s : State) (on : Bool) : State :=
  let s := if on then s else (List.finRange 32).foldl endFreewheel s
  { s with dbg := { s.dbg with frz := on } }

/-- A write of TMR_n_CTL: MSELF 0b001 or 0b101 and above, ZLINK and MLINK above 0b100 and EKIND above 0b100 leave their fields
(R220). -/
def writeTimerCtl (s : State) (n : Fin 32) (v : Word) : State :=
  let old := reg s (tmrReg n 0)
  let keep (v : Word) (lo : Nat) (bad : Bool) : Word := if bad then putBits v lo 3 (bits old lo 3) else v
  let v := keep v 13 (bits v 13 3 > 4)
  let v := keep v 16 (bits v 16 3 > 4)
  let v := keep v 19 (bits v 19 3 = 1 ∨ bits v 19 3 > 4)
  let v := keep v 24 (bits v 24 3 > 4)
  setReg (if bit v 4 then endFreewheel s n else s) (tmrReg n 0) (v &&& 0x3FFFFFFF)

/-- TIMER_TOKEN_DELIVER: the waiting token enters its channel (R221, R32). -/
def execTimerTokenDeliver (n : Fin 32) (s : State) : Out :=
  match (timer s n).tok with
  | none => .next s
  | some w =>
    let r := token s (bits (item s 0x8814 (n * 4)) 0 14) w
    act r.2 s (setTimer r.1 n { timer r.1 n with tok := none })

/-- A capture reaches the queue (R225). -/
def enterCapture (s : State) (n : Fin 32) (input : Fin 2) (count : BitVec 64) : State :=
  let t := timer s n
  let e := (count, decide (input = 1))
  if t.capq.length < 4 then setTimer s n { t with capq := t.capq ++ [e] }
  else
    let s := tmrStat s n 10
    if flg s (tmrReg n 0) 5 then setTimer s n { t with capq := t.capq.tail ++ [e] } else s

/-- The edge is one that EDGE selects (R223, R231). -/
def edgeTaken (w : Word) (rising : Bool) : Bool := bit w (if rising then 2 else 3)

/-- TIMER_CAPTURE_INPUT: a capture enters the queue two bc after its source bc (R223, R225). For a field pin this is the second bc after the
first sample at the new level, which the sampler has then accepted. -/
def execTimerCaptureInput (n : Fin 32) (input : Fin 2) (rising : Bool) (s : State) : Out :=
  let w := capSource s n input.val
  let t := timer s n
  if bits w 0 2 = 1 then act (s.released && edgeTaken w rising) s (enterCapture s n input t.past1)
  else
    match t.capDue.find? fun e => e.1 == input.val with
    | some e => act (s.released && decide (e.2.2 + 2 ≤ s.bc)) s
        (enterCapture (onTimer s n fun t => { t with capDue := t.capDue.erase e }) n input e.2.1)
    | none => .next s

/-- What a read of TMR_n_CAPQ returns (R224). -/
def capqView (t : Timer) : Word :=
  match t.capq with
  | [] => 0
  | e :: q => orAll [1, b2n e.2 * 2, q.length * 4]

/-- A read of TMR_n_CAPQ pops the oldest entry into the latch (R224). -/
def popCapq (s : State) (n : Fin 32) : State :=
  match (timer s n).capq with
  | [] => s
  | e :: q => setTimer s n { timer s n with capq := q, latch := e.1 }

/-- TMR_CAPQ_READ. -/
def execTmrCapqRead (n : Fin 32) (s : State) : Out := act (live s) s (answer (popCapq s n) (capqView (timer s n)))

/-! ## Performance counters -/

/-- The counters of a core. -/
def pmcCore (s : State) (c : Nat) : PmcCore := tget {} s.pmc.cores c

/-- The state with a core's counters replaced. -/
def setPmc (s : State) (c : Nat) (x : PmcCore) : State := { s with pmc := { s.pmc with cores := tput s.pmc.cores c x } }

/-- The counters run (R229). -/
def pmcRuns (s : State) : Bool := !s.pmc.frozen && !(s.dbg.frz && flg s 0x6808 1)

/-- Counter k counts n more; a wrap is recorded (R227). -/
def pmcAdd (x : PmcCore) (k : Fin 18) (n : Nat) : PmcCore :=
  { x with
    ctr := x.ctr.set k (x.ctr[k] + BitVec.ofNat 48 n)
    wrap := if x.ctr[k].toNat + n ≥ 2 ^ 48 then x.wrap ||| ((1 : BitVec 18) <<< k.val) else x.wrap }

/-- A counter's selection takes an event of a way and a spoke (R228). -/
def pmcTakes (code : Nat) (wayB : Bool) (spoke : Nat) (e : Word) : Bool :=
  code != 0 && bits e 0 6 == code && (bits e 8 2 == 0 || bits e 8 2 == (if wayB then 2 else 1)) && (!bit e 12 || bits e 16 5 == spoke)

/-- The programmable counters of a core that select an event count it, as their way and spoke filters allow (R228). -/
def pmcCount (x : PmcCore) (code : Nat) (wayB : Bool) (spoke : Nat) : PmcCore :=
  (List.finRange 8).foldl (fun y i => if pmcTakes code wayB spoke x.evt[i] then pmcAdd y ⟨i.val, by omega⟩ 1 else y) x

/-- The programmable counters of a physical core meet an event. -/
def pmcEvent (s : State) (core code : Nat) (wayB : Bool) (spoke : Nat) : State :=
  let x := pmcCore s core
  if pmcRuns s ∧ x.evt.toArray.any (pmcTakes code wayB spoke) then setPmc s core (pmcCount x code wayB spoke) else s

/-- Every core's counters changed. -/
def mapPmc (s : State) (f : PmcCore → PmcCore) : State :=
  { s with pmc := { s.pmc with cores := s.pmc.cores.map fun e => (e.1, f e.2) } }

/-- The bc count since release in a register pair. -/
def stampBc (s : State) (lo hi : Nat) : State :=
  setReg (setReg s lo (BitVec.ofNat 32 s.bc)) hi (BitVec.ofNat 32 (s.bc / 2 ^ 32))

/-- SNAP (R229). -/
def pmcDoSnap (s : State) : State :=
  let s := mapPmc s fun x => { x with shadow := x.ctr }
  stampBc { s with pmc := { s.pmc with snapValid := true } } 0x682C 0x6830
/-- FREEZE and UNFREEZE (R229). -/
def pmcDoFreeze (s : State) (on : Bool) : State := { s with pmc := { s.pmc with frozen := on } }
/-- CLEAR (R229). -/
def pmcDoClear (s : State) : State :=
  stampBc (mapPmc s fun x => { x with ctr := Vector.replicate 18 0, wrap := 0 }) 0x6834 0x6838

/-- The commands of a write of PMC_CMD, in ascending bit order (R229). -/
def pmcCmd (s : State) (v : Word) : State :=
  let s := if bit v 0 then pmcDoSnap s else s
  let s := if bit v 1 then pmcDoFreeze s true else s
  let s := if bit v 2 then pmcDoFreeze s false else s
  if bit v 3 then pmcDoClear s else s

/-- PMC_SNAP. -/
def execPmcSnap (s : State) : Out := act (live s) s (pmcDoSnap s)
/-- PMC_FREEZE. -/
def execPmcFreeze (s : State) : Out := act (live s) s (pmcDoFreeze s true)
/-- PMC_UNFREEZE. -/
def execPmcUnfreeze (s : State) : Out := act (live s) s (pmcDoFreeze s false)
/-- PMC_CLEAR. -/
def execPmcClear (s : State) : Out := act (live s) s (pmcDoClear s)

/-- The 48 bits that a reader of counter k of a core sees: live, or the shadow (R229). -/
def pmcValue (s : State) (core k : Nat) : BitVec 48 :=
  let x := pmcCore s core
  (if flg s 0x6808 0 then x.shadow.toArray[k]? else x.ctr.toArray[k]?).getD 0

/-- The high half is held for the reader of a low word (R229). -/
def pmcHold (s : State) (src : Source) (v : BitVec 48) : State :=
  let h : BitVec 16 := v.extractLsb' 32 16
  match src with
  | .host => { s with pmc := { s.pmc with holdHost := h } }
  | .debug => { s with pmc := { s.pmc with holdDbg := h } }
  | .spoke g => setSpk s g { spk s g with pmcHold := h }

/-- What a read of a high word returns: the reader's hold, or the shadow in SNAPSHOT (R229). -/
def pmcHigh (s : State) (hold : BitVec 16) (v : BitVec 48) : Word :=
  (if flg s 0x6808 0 then v.extractLsb' 32 16 else hold).setWidth 32

/-- The counter that PMC_SEL names. -/
def pmcSel (s : State) : BitVec 48 := pmcValue s (fld s 0x6814 0 6) (fld s 0x6814 8 5)

/-- PMC_DATA_LO_READ. -/
def execPmcDataLoRead (src : Source) (s : State) : Out :=
  act (live s) s
    (let v := pmcSel s
     let s := pmcHold s src v
     if src = .host then answer s (v.setWidth 32) else s)

end Sys2Proof.Machine
end

