-- ==== Sys2Proof/Machine/Cadence.lean ====
section
/-! DEFINITION. The meanings of the cadence rows but ENGINE_TRIGGER and EPOCH_LINE_OPEN (R18 to R36). -/
namespace Sys2Proof.Machine

/-- The axis takes edges: released and enabled (R25). -/
def axLive (s : State) (n : Fin 17) : Bool := s.released && (axis s n).st != .off

/-- The pins of an input of a kind from its first pin (R18). -/
def pinsOf (kind first : Nat) : List Nat :=
  match kind with
  | 1 | 3 => [first, first + 1]
  | 2 => [first, first + 1, first + 2]
  | 4 => [first]
  | _ => []

/-- What the accepted levels of an input make of a bc (R18, R19). -/
inductive EdgeKind where
  | up | down | illegal
  deriving DecidableEq, Repr

/-- The accepted level of a pin: the sampled one once it has been stable for f + 1 samples, the newest in bit 0 (R19). -/
def acceptLevel (f : Nat) (old : Bool) (h : BitVec 16) : Bool :=
  if (List.range (f + 1)).all fun i => h.getLsbD i == h.getLsbD 0 then h.getLsbD 0 else old

/-- The place of (A, B) in the sequence that counts up (R18). -/
def quadPlace (l : Lines) : Nat :=
  match l.a, l.b with
  | false, false => 0
  | true, false => 1
  | true, true => 2
  | false, true => 3

/-- The edge that a change of the accepted levels is, before CTL.INV (R18, R19): both pins of a quadrature input in one bc are an illegal
transition; a pulse counts in the direction accepted with it. -/
def edgeOf (kind : Nat) (old new : Lines) : Option EdgeKind :=
  match kind with
  | 1 | 2 =>
    match (quadPlace new + 4 - quadPlace old) % 4 with
    | 1 => some .up
    | 2 => some .illegal
    | 3 => some .down
    | _ => none
  | 3 => if new.a ∧ ¬ old.a then some (if new.b then .down else .up) else none
  | 4 => if new.a ∧ ¬ old.a then some .up else none
  | _ => none

/-- An accepted edge of the secondary moves its own count, restarts its timeout and ends its loss (R26; the last DEDUCED, log entry 11). -/
def secStep (s : State) (n : Fin 17) (d : Int) : State :=
  setAxis s n { axis s n with sec := ((axis s n).sec + d).emod (wrapOf s n), tSec := s.bc, secLost := false }

/-- An edge that the axis counts, up or down after CTL.INV: the tracker, or a recovery (R21, R24). -/
def countEdge (s : State) (n : Fin 17) (dir : Bool) : State :=
  let a := axis s n
  let w := axWeight s n
  let d : Int := if dir then w else -w
  match a.st with
  | .off => s
  | .tracking =>
    let a' := track s n a (a.k + d) dir
    place s n a' (clamped w a')
  | .coasting =>
    if axKind s n = 4 then recoverAt s n a (nearest w a.u) dir
    else
      let s := recoverAt s n a (nearest 1 a.u) dir
      setAxis s n { axis s n with uncertain := true }
  | .stalled =>
    if axKind s n = 4 then recoverAt s n a (nearest w ((a.p.toNat : Int) * 2 ^ 8)) dir
    else setAxis s n { a with u := a.u + d * 2 ^ 32, lastDir := some dir, tTimeout := s.bc }

/-- What an edge of the primary or of the secondary does to an axis in service: edges of the secondary move its own count, and the axis
when it runs on it (R21, R23, R26). -/
def takeEdge (s : State) (n : Fin 17) (onSecondary : Bool) (e : EdgeKind) : State :=
  match e with
  | .illegal => loseInput (axStat s n 16) n onSecondary
  | _ =>
    let dir := (e == .up) != flg s (axReg n 0) 1
    let d : Int := if dir then axWeight s n else -axWeight s n
    let s₁ := if onSecondary then secStep s n d else s
    let s₂ := if onSecondary = (axis s n).onSec then countEdge s₁ n dir else s₁
    holdDist s₂ n

/-- AXIS_EDGE (R18, R19, R21 to R24, R26): the samples of the two pins pass the filter, and the change of the accepted levels is decoded.
An axis that is OFF follows the levels and takes no edge (R25). -/
def execAxisEdge (n : Fin 17) (onSecondary : Bool) (a b : BitVec 16) (s : State) : Out :=
  let x := axis s n
  let f := axFilter s n
  let old := if onSecondary then x.lines2 else x.lines
  let new : Lines := ⟨acceptLevel f old.a a, acceptLevel f old.b b⟩
  let s₁ := setAxis s n (if onSecondary then { x with lines2 := new } else { x with lines := new })
  act (s.released && n != 0 && (!onSecondary || hasSec s n)) s
    (match edgeOf (axKind s n) old new with
     | some e => if axLive s n then takeEdge s₁ n onSecondary e else s₁
     | none => s₁)

/-- Z_RESYNC (R22): a forward edge of Z of the encoder the axis runs on, or of the primary after a failover (R26). -/
def execZResync (n : Fin 17) (onSecondary : Bool) (s : State) : Out :=
  act (axLive s n && axKind s n == 2 && flg s (axReg n 0) 2 && (axis s n).lastDir != some false
    && (!onSecondary || (axis s n).onSec)) s
    (let sec := onSecondary
     let t := resync s n
     if sec then setAxis t n { axis t n with onSec := true } else t)

/-- A receiver fault on a pin of one axis (R23, R360). -/
def rxFaultAxis (s : State) (pin : Nat) (n : Fin 17) : State :=
  if ¬ axLive s n ∨ n = 0 then s
  else
    let prim := pinsOf (axKind s n) (fld s (axReg n 4) 4 9)
    let sec := if hasSec s n then pinsOf (axKind s n) (fld s (axReg n 8) 1 9) else []
    let s := if pin ∈ prim ∨ pin ∈ sec then axStat s n 17 else s
    let s := if pin ∈ prim then loseInput s n false else s
    if pin ∈ sec then loseInput s n true else s

/-- RXFAULT. -/
def execRxFault (pin : Fin 512) (s : State) : Out :=
  act s.released s ((List.finRange 17).foldl (fun s n => rxFaultAxis s pin.val n) s)

/-- TIMEOUT µs have passed since a bc (R23). -/
def timedOut (s : State) (n : Fin 17) (since : Nat) : Bool :=
  let t := fld s (axReg n 0x14) 16 16
  t != 0 && decide (s.bc ≥ since + 1000 * t)

/-- LOSS_TIMEOUT (R23, R26): TIMEOUT µs have passed since the last edge of an encoder, or the last write of CAD_PTP_RATE. Where both
encoders are due at once both are lost. -/
def execLossTimeout (n : Fin 17) (s : State) : Out :=
  let a := axis s n
  let secDue := hasSec s n && !a.secLost && timedOut s n a.tSec
  let primDue := !a.onSec && timedOut s n a.tTimeout
  let s₁ := if secDue then loseInput s n true else s
  act (s.released && a.st == .tracking && (primDue || secDue)) s (if primDue then loseInput s₁ n false else s₁)

/-- COAST_LIMIT (R24, R30): p and v stand, and the comparators with STALL_DISARM are aborted. -/
def execCoastLimit (n : Fin 17) (s : State) : Out :=
  let lim := fld s (axReg n 0x18) 0 16 * (if flg s (axReg n 0x18) 16 then 1000000 else 1000)
  let a := axis s n
  act (s.released && a.st == .coasting && decide (s.bc ≥ a.tLoss + lim)) s
    (mapEvts (axStat (setAxis s n { a with st := .stalled, v := if n = 0 then a.v else 0 }) n 11) n
      fun x => if bit x.cfg 10 then abortEvt x else x)

/-- AXIS_DISAGREE (R26). An axis that runs on the secondary has no second count to compare (DEDUCED, log entry 11). -/
def execAxisDisagree (n : Fin 17) (s : State) : Out :=
  let a := axis s n
  let apart := decide ((secDistance s n).natAbs > fld s (axReg n 8) 16 16)
  let p2 := BitVec.ofInt 64 (a.sec * 2 ^ 24)
  let s₁ := axStat (setAxis s n { a with disAct := true }) n 13
  let s₂ := if flg s 0x4824 31 then s₁
    else
      let r := putBits (reg s₁ 0x4824) 0 5 n.val
      let s := setReg s₁ 0x4824 (putBit r 31 true)
      let s := setReg (setReg s 0x4828 (a.p.setWidth 32)) 0x482C (a.p.extractLsb' 32 32)
      setReg (setReg s 0x4830 (p2.setWidth 32)) 0x4834 (p2.extractLsb' 32 32)
  act (axLive s n && hasSec s n && !a.onSec && !a.disAct && apart
    && decide (s.bc ≥ a.disFrom + 16 * fld s (axReg n 8) 10 6)) s (satReg s₂ 0x4824 8 8)

/-- AXIS_ENABLE (R25): a write of CTL.EN = 1, for the next bc. -/
def execAxisEnable (n : Fin 17) (s : State) : Out := act (live s) s (writeAxisCtl s n (putBit (reg s (axReg n 0)) 0 true))
/-- AXIS_DISABLE (R25): a write of CTL.EN = 0, for the next bc. -/
def execAxisDisable (n : Fin 17) (s : State) : Out := act (live s) s (writeAxisCtl s n (putBit (reg s (axReg n 0)) 0 false))

/-! ## Comparators -/

/-- The comparator tests in this bc: by the axis state and CFG.COAST, not while the freeze request holds it (R25, R30, R36). -/
def evtTests (s : State) (x : Comparator) : Bool :=
  let n := evtAxis x
  let coasting := bits x.cfg 8 2 == 0
  (match (axis s n).st with
   | .off => false
   | .tracking => true
   | .coasting => coasting
   | .stalled => n == 0 && coasting)
  && !(s.dbg.frz && flg s 0x4800 1)

/-- The crossing test of R27, in the comparator's direction. -/
def crosses (s : State) (x : Comparator) : Bool :=
  let a := axis s (evtAxis x)
  let m := wrapOf s (evtAxis x) * 2 ^ 24
  let d := reduce m ((a.p.toNat : Int) - a.pPrev.toNat)
  let δ := evtDelta s x a.p
  if bit x.cfg 5 then decide (x.dPrev > 0 ∧ δ ≤ 0 ∧ d < 0) else decide (x.dPrev < 0 ∧ δ ≥ 0 ∧ d > 0)

/-- The token of a firing (R32). -/
def evtWord (s : State) (c : Nat) (x : Comparator) : Word :=
  let n := evtAxis x
  let a := axis s n
  orAll [(a.p.toNat / 2 ^ 24 % 2 ^ 16) <<< 16, b2n (a.jump || x.heldL) <<< 15,
    b2n (a.st == .coasting || (n == 0 && a.st == .stalled)) <<< 14, n.val <<< 9, c]

/-- A token toward its channel: it enters, waits, or is lost (R31, R32). -/
def evtToken (s : State) (c : Nat) (x : Comparator) : State :=
  let ch := x.act.toNat % 2 ^ 14
  if (chan s ch).writer.kind ≠ .cadence ∨ x.pend.isSome then setEvt s c { x with lost := true }
  else
    let w := evtWord s c x
    if (token s ch w).2 then setEvt (token s ch w).1 c x else setEvt s c { x with pend := some w }

/-- The action of a firing (R31). -/
def evtAction (s : State) (c : Nat) (x : Comparator) : State :=
  let t := x.act.toNat
  match bits x.cfg 12 3 with
  | 1 => evtToken s c x
  | 2 => queueTrigger (setEvt s c x) (t % 64) (t / 64 % 64) false
  | 3 => startTimer (setEvt s c x) (Fin.ofNat 32 t)
  | 4 => onTimer (setEvt s c x) (Fin.ofNat 32 t) tmrLoadT
  | 5 => queueEpoch (setEvt s c x) (t % 32)
  | _ => setEvt s c x

/-- COMPARATOR_FIRE (R27 to R32): the firing is recorded, timers capture it (R223), and the action is performed. -/
def execComparatorFire (c : Fin 512) (s : State) : Out :=
  let x := evt s c.val
  act (s.released && flg s 0x4800 0 && x.st == .armed && evtTests s x && crosses s x) s
    (evtAction (captureFrom (orReg s (0x4880 + 4 * (c.val / 32)) ((1 : Word) <<< (c.val % 32))) 2 c.val) c.val { x with st := .fired })

/-- COMPARATOR_REARM (R28): δ has passed the hysteresis. -/
def execComparatorRearm (c : Fin 512) (s : State) : Out :=
  let x := evt s c.val
  let h : Int := (bits x.cfg 16 16 : Nat) * 2 ^ 24
  let δ := evtDelta s x (axis s (evtAxis x)).p
  act (s.released && x.st == .fired && bit x.cfg 7 && (axis s (evtAxis x)).st != .off
    && (if bit x.cfg 5 then decide (δ > h) else decide (δ < -h))) s (setEvt s c.val { x with st := .armed })

/-- CADENCE_TOKEN_DELIVER (R32): the pending token enters its channel: the one that ACT.TARGET names now, whoever writes it (DEDUCED, log
entry 11). -/
def execCadenceTokenDeliver (c : Fin 512) (s : State) : Out :=
  let x := evt s c.val
  match x.pend with
  | none => .next s
  | some w =>
    let r := token s (x.act.toNat % 2 ^ 14) w
    act r.2 s (setEvt r.1 c.val { x with pend := none })

/-- CAD_CAPTURE (R34). -/
def execCadCapture (n : Fin 17) (s : State) : Out := act (live s) s (captureAxis s n)
/-- CAPTURE_ALL (R34). -/
def execCaptureAll (mask : BitVec 17) (s : State) : Out := act (live s) s (captureMask s mask)
/-- SET_POS (R35, R25). -/
def execSetPos (n : Fin 17) (s : State) : Out := act (live s) s (setPosition s n)
/-- CLR_DIS (R26). -/
def execClrDis (s : State) : Out := act (live s) s (clearDis s)
/-- CAD_EVT_TGT_HI_WRITE (R29). -/
def execCadEvtTgtHiWrite (v : Word) (s : State) : Out := act (live s) s (writeTargetHi s v)
/-- CAD_EVT_CFG_WRITE (R28, R29). -/
def execCadEvtCfgWrite (v : Word) (s : State) : Out := act (live s) s (writeEvtCfg s v)
/-- CAD_PTP_RATE_WRITE (R23, R24). -/
def execCadPtpRateWrite (v : Word) (s : State) : Out := act (live s) s (writePtpRate s v)

/-! ## One bc (R35) -/

/-- One axis moves over one bc: u := u + v, clamped, with the limit of v while p is held at the far end; axis 0 advances by its
rate (R21, R24). -/
def tickAxis (s : State) (n : Fin 17) : State :=
  let a := axis s n
  let a := { a with pPrev := a.p, jump := false }
  if a.st = .off then setAxis s n a
  else if n = 0 then
    let a := { a with u := a.u + 2 ^ 32 + (reg s 0x483C).toInt }
    place s n a (a.u.fdiv (2 ^ 8))
  else
    match a.st with
    | .stalled => setAxis s n a
    | .coasting =>
      let a := { a with u := a.u + a.v }
      place s n a (a.u.fdiv (2 ^ 8))
    | _ =>
      let w := axWeight s n
      let u := a.u + a.v
      let far : Option Int := match a.clamp with
        | some true => if u > (a.k + w) * 2 ^ 32 - 2 ^ 8 then some ((a.k + w) * 2 ^ 32 - 2 ^ 8) else none
        | some false => if u < (a.k - w) * 2 ^ 32 + 2 ^ 8 then some ((a.k - w) * 2 ^ 32 + 2 ^ 8) else none
        | none => none
      let a := match far with
        | none => { a with u := u }
        | some f =>
          let lim : Int := (w * 2 ^ 32 / max 1 (s.bc - a.tEdge) : Nat)
          { a with u := f, v := max (-lim) (min a.v lim) }
      place s n a (clamped w a)

/-- The disagreement of an axis, judged every bc (R26). -/
def tickDisagree (s : State) (n : Fin 17) : State :=
  if ¬ hasSec s n then s
  else
    let a := axis s n
    if (secDistance s n).natAbs > fld s (axReg n 8) 16 16 then s
    else holdDist (setAxis s n { a with disAct := false, disFrom := s.bc }) n

/-- δ' of a comparator as the bc ends; held while the freeze request holds it, and frozen in COASTING and STALLED under
COAST = hold (R30, R36). -/
def tickEvt (s : State) (x : Comparator) : Comparator :=
  let a := axis s (evtAxis x)
  if a.st = .off then x
  else if s.dbg.frz ∧ flg s 0x4800 1 then { x with heldL := true }
  else if bits x.cfg 8 2 = 1 ∧ (a.st = .coasting ∨ a.st = .stalled) then { x with heldL := true }
  else { x with dPrev := evtDelta s x a.p, heldL := false }

/-- The next bc of the cadence unit, counted from the old one: the comparators keep δ, a write of EN takes effect, then every axis
moves. -/
def tickCadence (s : State) : State :=
  let t := { s with bc := s.bc + 1, cad := { s.cad with evts := s.cad.evts.map fun e => (e.1, tickEvt s e.2) } }
  let t := (List.finRange 17).foldl applyEnable t
  let t := (List.finRange 17).foldl tickAxis t
  let t := (List.finRange 17).foldl tickDisagree t
  { t with bc := s.bc }

end Sys2Proof.Machine
end

