-- ==== Sys2Proof/Machine/Pens.lean ====
section
/-! DEFINITION. Shared operations of the pin engines and of chrysalis mode: pins, contexts, shifters, bank switching, entry and
return (R120 to R154). -/
namespace Sys2Proof.Machine

/-! ## Pins (R123, R149, R359) -/

/-- A field pin by its number. -/
def pinAt (s : State) (p : Nat) : Pin := tget {} s.pen.pins p

/-- The state with a pin replaced. -/
def setPin (s : State) (p : Nat) (x : Pin) : State := { s with pen := { s.pen with pins := tput s.pen.pins p x } }

/-- The sequencer of a group. -/
def chry (s : State) (g : Fin 8) : Chrysalis := s.chry[g]

/-- The state with a sequencer replaced. -/
def setChry (s : State) (g : Fin 8) (c : Chrysalis) : State := { s with chry := s.chry.set g c }

/-- The pattern code of a local pin, from words 32 to 39 (R149). -/
def patternCode (c : Chrysalis) (i : Nat) : PinDrive :=
  match ((c.store.toArray[i / 8]?).getD 0).toNat >>> (3 * (i % 8)) % 8 with
  | 1 => .low
  | 2 => .high
  | 3 => .pullDown
  | 4 => .pullUp
  | _ => .float

/-- What a pin does under a pattern code. -/
def pinOfCode : PinDrive → Pin
  | .float => { level := false, out := false, pull := none }
  | .low => { level := false, out := true, pull := none }
  | .high => { level := true, out := true, pull := none }
  | .pullDown => { level := false, out := false, pull := some false }
  | .pullUp => { level := true, out := false, pull := some true }

/-- Local pins a to b of a group take what a function gives; every pin floats while the rail is down (R12, R146) and after an OV
exceed (R250). -/
def drivePins (s : State) (g : Fin 8) (a b : Nat) (f : Nat → Pin) : State :=
  let f := if s.nrg[g].ovFloat || !s.nrg[g].vioGood then fun _ => pinOfCode .float else f
  (List.range 64).foldl (fun s i => if a ≤ i ∧ i ≤ b then setPin s (64 * g.val + i) (f i) else s) s

/-- The safe-state latches apply the pattern to every pin of the group (R145). -/
def applyPattern (s : State) (g : Fin 8) : State := drivePins s g 0 63 fun i => pinOfCode (patternCode (chry s g) i)

/-! ## Engines and contexts (R120 to R122) -/

/-- Registers of engine e. -/
def engReg (e r : Nat) : Nat := 0xA000 + 0x20 * e + r

/-- An engine. -/
def eng (s : State) (e : Nat) : Engine := tget {} s.pen.engines e

/-- The state with an engine replaced. -/
def setEng (s : State) (e : Nat) (x : Engine) : State :=
  { s with pen := { s.pen with engines := tput s.pen.engines e x } }

/-- The state with a context replaced. -/
def setCtx (s : State) (e c : Nat) (x : Ctx) : State :=
  setEng s e { eng s e with ctxs := tput (eng s e).ctxs c x }

/-- The group that an engine serves (R120). -/
def groupOfEng (e : Nat) : Fin 8 := Fin.ofNat 8 (e / 8)

/-- A status bit of an engine is recorded. -/
def engStat (s : State) (e i : Nat) : State := orReg s (engReg e 0x1C) ((1 : Word) <<< i)

/-- Loop start and entry of the shape for a bank (R122). -/
def loopStart (x : Ctx) (bank : Bool) : BitVec 8 := if bank then x.loop1 else x.loop0
def entryOf (x : Ctx) (bank : Bool) : BitVec 8 := if bank then x.entry1 else x.entry0

/-- A stored word of a bank (R137). -/
def penWord (x : Engine) (bank : Bool) (w : Nat) : PenWord := tget {} x.store (b2n bank * 256 + w)

/-- The freeze request stops the engines of the group (R143). -/
def penFrozen (s : State) (e : Nat) : Bool := s.dbg.frz && bit (reg s 0xA824) (groupOfEng e).val

/-- The engine serves its contexts: released, enabled, its group in imago mode, not frozen, and the context in the rotation. -/
def penServes (s : State) (e c : Nat) : Bool :=
  s.released && flg s (engReg e 0) 0 && decide (c < fld s (engReg e 0) 8 7) && !(chry s (groupOfEng e)).active
    && !penFrozen s e

/-- The word at a context's PC, in the bank it runs in. -/
def wordAtPc (s : State) (e c : Nat) : PenWord := penWord (eng s e) (ctxAt s e c).bank (ctxAt s e c).pc.toNat

/-- The context may use a turn (R122); a word with bad parity leaves its turns unused (R137). -/
def penTurn (s : State) (e c : Nat) : Bool :=
  penServes s e c && (match (ctxAt s e c).st with | .run | .blocked => true | _ => false)
    && (ctxAt s e c).delay == 0 && (ctxAt s e c).pause == 0 && !(wordAtPc s e c).bad

/-! ## Bank switching (R138 to R140) -/

/-- Contexts that still run in the old bank while a switch is pending. -/
def leftCtxs (x : Engine) : List Nat :=
  if x.pending then (x.ctxs.filter fun e => e.2.st != .off && e.2.st != .held && e.2.bank == x.active).map (·.1) else []

/-- The switch is complete when every context runs in the new bank (R138). -/
def finishSwitch (s : State) (e : Nat) : State :=
  let x := eng s e
  if x.pending ∧ leftCtxs x = [] then
    engStat (setEng s e { x with active := !x.active, pending := false, forcing := false }) e 0
  else s

/-- A switch is requested (R138). -/
def requestSwitch (s : State) (e : Nat) (force : Bool) : State :=
  let x := eng s e
  if x.pending then
    if force then setEng s e { x with forcing := true } else engStat s e 3
  else
    let f (c : Ctx) : Ctx := if c.st = .off ∨ c.st = .held then { c with bank := !x.active } else c
    finishSwitch (setEng s e { x with
      pending := true, forcing := force, ctxs := x.ctxs.map fun y => (y.1, f y.2) }) e

/-- MODE of BANK (R138). -/
def bankMode (s : State) (e : Nat) : Bool := flg s (engReg e 8) 2

/-! ## Holding a context (R122, R189) -/

/-- The output channel's staging of a context that is held closes with a TRUNCATED end token. -/
def truncateCtx (s : State) (e c : Nat) : State :=
  match (ctxAt s e c).outCh with
  | none => s
  | some ch => if (chan s ch).writer = ⟨.engine, 64 * e + c⟩ ∧ (chan s ch).staged ≠ [] then truncateStaging s ch else s

/-- The pins that a context owns, by number. -/
def ownedPins (e : Nat) (x : Ctx) : List Nat :=
  if x.own then (List.range x.count).map (64 * (groupOfEng e).val + x.base + ·) else []

/-- A context enters HELD: its owned pins take the safe-state pattern, its staging is truncated, its locks are lost. -/
def holdCtx (s : State) (e c : Nat) (h : HoldCause) : State :=
  let x := ctxAt s e c
  let s := setCtx s e c { x with st := .held, hold := h, wait := none, delay := 0, carry := 0 }
  let s := if h = .group then s else
    (ownedPins e x).foldl (fun s p => setPin s p (pinOfCode (patternCode (chry s (groupOfEng e)) (p % 64)))) s
  let s := noteLoss (truncateCtx s e c) (lockIdCtx e c)
  let x' := eng s e
  let s := if x'.pending then setCtx s e c { ctxAt s e c with bank := !x'.active } else s
  finishSwitch (engStat s e 12) e

/-- The context that owns a pin, with its engine (R123). -/
def ownerOf (s : State) (p : Nat) : Option (Nat × Nat) :=
  ((s.pen.engines.filter fun e => (groupOfEng e.1).val == p / 64).flatMap fun e =>
    (e.2.ctxs.filter fun c => (ownedPins e.1 c.2).contains p).map fun c => (e.1, c.1)).head?

/-! ## Context items (item table) -/

/-- A context item written (R122): item 0x0 starts or stops, the others set their registers. -/
def writeCtxItem (x : Ctx) (i : Nat) (v : Word) : Ctx :=
  match i with
  | 0x0 =>
    let x := { x with
      pc := v.setWidth 8, e := bit v 15, trig := bit v 16, bank := bit v 17 }
    if bits v 8 3 = 1 then { x with st := if x.pause = 0 then .run else .delay, hold := .none, wait := none, delay := 0, carry := 0 }
    else if bits v 8 3 = 0 then { x with st := .off, hold := .none, wait := none, delay := 0, carry := 0 }
    else x
  | 0x1 => { x with pause := v.setWidth 16 }
  | 0x2 => { x with ta := v }
  | 0x3 => { x with tb := v }
  | 0x4 => { x with cap := v }
  | 0x5 => { x with emt := v }
  | 0x6 => { x with
      capn := min 32 (bits v 0 6), emtl := min 32 (bits v 6 6), cfl := bits v 12 6, efl := bits v 18 6
      autosend := bit v 24, autofill := bit v 25, ablock := bit v 26, cdir := bit v 27, edir := bit v 28 }
  | 0x7 => { x with base := bits v 0 6, count := bits v 6 6, testPin := bits v 12 5, own := bit v 17 }
  | 0x8 => { x with loop0 := v.extractLsb' 8 8, entry0 := v.extractLsb' 24 8 }
  | 0x9 => { x with loop1 := v.extractLsb' 8 8, entry1 := v.extractLsb' 24 8 }
  | 0xA => { x with inCh := if bit v 15 then some (bits v 0 14) else none }
  | 0xB => { x with outCh := if bit v 15 then some (bits v 0 14) else none }
  | _ => x

/-- The state code of a context (item 0x0). -/
def ctxStateCode : CtxState → Nat
  | .off => 0 | .run => 1 | .waiting => 2 | .blocked => 3 | .delay => 4 | .held => 5

/-- The hold cause code of a context (item 0x0). -/
def holdCode : HoldCause → Nat
  | .none => 0 | .unmapped => 1 | .illegal => 2 | .store => 3 | .readback => 4 | .group => 5

/-- A context item as it reads. -/
def readCtxItem (x : Ctx) (i : Nat) : Word :=
  match i with
  | 0x0 => orAll [x.pc.toNat, ctxStateCode x.st <<< 8, holdCode x.hold <<< 11, b2n x.e <<< 15, b2n x.trig <<< 16,
      b2n x.bank <<< 17]
  | 0x1 => x.pause.setWidth 32
  | 0x2 => x.ta
  | 0x3 => x.tb
  | 0x4 => x.cap
  | 0x5 => x.emt
  | 0x6 => orAll [x.capn, x.emtl <<< 6, x.cfl <<< 12, x.efl <<< 18, b2n x.autosend <<< 24, b2n x.autofill <<< 25,
      b2n x.ablock <<< 26, b2n x.cdir <<< 27, b2n x.edir <<< 28, b2n x.outbox.isSome <<< 29, b2n x.inbox.isSome <<< 30,
      b2n ((x.inbox.map (·.2)).getD false) <<< 31]
  | 0x7 => orAll [x.base, x.count <<< 6, x.testPin <<< 12, b2n x.own <<< 17]
  | 0x8 => orAll [x.loop0.toNat <<< 8, x.entry0.toNat <<< 24]
  | 0x9 => orAll [x.loop1.toNat <<< 8, x.entry1.toNat <<< 24]
  | 0xA => (x.inCh.map fun c => orAll [c, 2 ^ 15]).getD 0
  | 0xB => (x.outCh.map fun c => orAll [c, 2 ^ 15]).getD 0
  | 0xC => (x.inbox.map (·.1)).getD 0
  | 0xD => x.outbox.getD 0
  | _ => 0

/-- A context takes its bitstream start state, at the entry of its shape for the active bank (R122). -/
def startCtx (active : Bool) (x : Ctx) : Ctx :=
  let blank : Ctx := { ({} : Ctx) with
    base := x.base, count := x.count, testPin := x.testPin, own := x.own, loop0 := x.loop0, entry0 := x.entry0
    loop1 := x.loop1, entry1 := x.entry1, inCh := x.inCh, outCh := x.outCh, start := x.start }
  let y := x.start.zipIdx.foldl (fun c v => writeCtxItem c v.2 v.1) blank
  { y with pc := entryOf y active, bank := active, st := if y.st = .run ∧ y.pause ≠ 0 then .delay else y.st }

/-- The accumulator at enable: DIV − 0x1_0000 (R121). -/
def accAtEnable (s : State) (e : Nat) : Nat := (reg s (engReg e 4)).toNat - 0x10000

/-- An engine starts, or restarts, as at enable, each context at its start state (R121, R122). -/
def restartEngine (s : State) (e : Nat) : State :=
  let x := eng s e
  setEng s e { x with
    acc := accAtEnable s e, tick := 0, ctxs := x.ctxs.map fun y => (y.1, startCtx x.active y.2)
    reflex := none, due := [], capUsed := false, emtUsed := false }

/-- The engines of a group that the configuration lists. -/
def engsOf (s : State) (g : Fin 8) : List Nat :=
  (s.pen.engines.filter fun e => (groupOfEng e.1) == g).map (·.1)

/-! ## Chrysalis entry and return (R145 to R147, R154) -/

/-- Every context of a group enters HELD with cause group. -/
def holdGroup (s : State) (g : Fin 8) : State :=
  (engsOf s g).foldl (fun s e => ((eng s e).ctxs.map (·.1)).foldl (fun s c => holdCtx s e c .group) s) s

/-- The contexts that a configuration has just written into a group in chrysalis mode stand in HELD with cause group (R145). -/
def holdWritten (s : State) (g : Fin 8) : State :=
  if (chry s g).active then
    (engsOf s g).foldl (fun s e => setEng s e { eng s e with
      ctxs := (eng s e).ctxs.map fun y => (y.1, { y.2 with st := .held, hold := .group, wait := none, delay := 0, carry := 0 }) }) s
  else s

/-- The sequencer starts at a word with its registers clear and the pattern on the pins (R145). -/
def startSequencer (s : State) (g : Fin 8) (entry : BitVec 6) : State :=
  let c := chry s g
  applyPattern (setChry s g { c with
    s := 0, k := 0, a := 0, f := false, pc := entry, halted := false, started := true, from40 := decide (entry = 40)
    cs := false, sent := [], dummies := 0 }) g

/-- A cause with entry word 16 is active (R145, R147). -/
def entry16 (c : Chrysalis) : Bool := c.causes &&& (if c.hold40 then 0b11110 else 0b111110) != 0

/-- A cause that arises starts the sequencer: at an entry; with entry word 16 where it runs from word 40; with entry word 40 where no
cause with entry word 16 is active and it does not run from word 40 already (R145, R147; log entry 91). -/
def startsAt (c : Chrysalis) (at40 : Bool) : Bool :=
  !c.active || c.causes == 0 || (if at40 then !entry16 c && !c.from40 else c.from40)

/-- A cause of chrysalis mode arises for a group (R145, R147). -/
def enterChry (s : State) (g : Fin 8) (cause : Nat) (at40 : Bool) : State :=
  let c := chry s g
  let s := setChry s g { c with
    active := true, causes := c.causes ||| ((1 : BitVec 8) <<< cause), hold40 := if cause = 5 then at40 else c.hold40 }
  let s := if c.active then s else holdGroup s g
  if startsAt c at40 then startSequencer s g (if at40 then 40 else 16) else s

/-- A cause of chrysalis mode clears. -/
def dropCause (s : State) (g : Fin 8) (cause : Nat) : State :=
  setChry s g { chry s g with causes := (chry s g).causes &&& ~~~((1 : BitVec 8) <<< cause) }

/-- Every group of a mask is held as by a write of CHRY_CTL.HOLD = 1 with ENTRY (R145, R266). -/
def chryCtl (g : Nat) : Nat := 0xC00 + 0x40 * g + 0x28
def chryStatReg (g : Nat) : Nat := 0xC00 + 0x40 * g + 0x2C

/-- A write of CHRY_CTL.HOLD and ENTRY (R145). -/
def writeHold (s : State) (g : Fin 8) (on at40 : Bool) : State :=
  let s := setReg s (chryCtl g.val) (putBit (putBit (reg s (chryCtl g.val)) 0 on) 1 at40)
  if on then enterChry s g 5 at40 else dropCause s g 5

/-- Hold the groups of a mask, ENTRY = 1 (R266, R269, R270, R273). -/
def holdGroups (s : State) (mask : Nat) : State :=
  (List.finRange 8).foldl (fun s g => if (mask >>> g.val) % 2 = 1 then writeHold s g true true else s) s

/-- Block release clears cause 0b010, and a cause 0b001 that dates from VAON power-on (R146, R154). -/
def releaseCauses (s : State) : State :=
  (List.finRange 8).foldl (fun s g =>
    let s := dropCause s g 2
    if (chry s g).vioLoss then s else dropCause s g 1) s

/-- The conditions of a return to imago mode (R154). -/
def mayReturn (s : State) (g : Fin 8) : Bool :=
  (chry s g).active && s.nrg[g].vioGood && s.released && !s.coreReset && (chry s g).causes == 0

/-- A group returns to imago mode (R154): the pins keep their safe-state level, direction and pull until the owner writes. -/
def returnGroup (s : State) (g : Fin 8) : State :=
  let s := setChry s g { chry s g with active := false, halted := false }
  let s := applyPattern s g
  (engsOf s g).foldl restartEngine s

end Sys2Proof.Machine
end

