-- ==== Sys2Proof/Machine/Chrysalis.lean ====
section
/-! DEFINITION. Chrysalis mode: the control commands, the words of the store and the sequencer's instructions (R144 to R154). A row of
an instruction comes about where the word at PC spells it with these operands. -/
namespace Sys2Proof.Machine

/-- A status bit of a sequencer is recorded. -/
def chryStat (s : State) (g : Fin 8) (i : Nat) : State := orReg s (chryStatReg g.val) ((1 : Word) <<< i)

/-! ## The words (R144, R148, R151 to R153) -/

/-- One instruction of a sequencer, as a word spells it (R148). -/
inductive ChryInsn where
  | halt
  | drive (pattern : Bool) (first last : Fin 64) (level : Bool)
  | float (first last : Fin 64)
  | sample (pin : Fin 64)
  | waitt (n : BitVec 20)
  | waitp (pin : Fin 64) (level : Bool) (timeout : BitVec 11)
  | loopDec (target : BitVec 6)
  | loopLoad (v : BitVec 18)
  | loopJumpF0 (target : BitVec 6)
  | loopJump (target : BitVec 6)
  | send (final : Bool) (data : BitVec 8)
  | dummy (final : Bool) (n : BitVec 6)
  | stream (final : Bool)
  | storeCocoon | storeResult | storeAddr
  | cmp
  | illegal
  deriving DecidableEq, Repr

/-- The mask ROM, words 0 to 31: boot loader and default safe-state program (R152, R153). -/
def romWords : List (BitVec 24) :=
  [0x67FFFF, 0x70006B, 0x700000, 0x700000, 0x700000, 0x780007, 0x7E0000, 0x6C0010] ++ List.replicate 8 0 ++
  [0x180FC0, 0x940000, 0x680015, 0x40005F, 0x6C0010, 0x840000, 0x6C0013] ++ List.replicate 9 0

/-- The word that a sequencer executes (R144); past word 47 the store has none, and what is read is free (log entry 91). -/
def chryWord (c : Chrysalis) : BitVec 24 :=
  if c.pc.toNat < 32 then romWords.getD c.pc.toNat 0
  else if c.pc.toNat < 48 then (c.store.toArray[c.pc.toNat - 32]?).getD 0
  else Sys2Proof.Config.chryBeyond c.pc

/-- A field of a word. -/
def chryField (w : BitVec 24) (lo n : Nat) : Nat := (w.toNat >>> lo) % 2 ^ n

/-- The instruction where the fields that must be zero are zero and the form is defined, else an illegal word (R148, R151). -/
def legalIf (ok : Bool) (i : ChryInsn) : ChryInsn := if ok then i else .illegal

/-- A jump target up to 47 (R148). -/
def chryTarget (w : BitVec 24) (i : BitVec 6 → ChryInsn) : ChryInsn :=
  legalIf (decide (chryField w 0 6 ≤ 47)) (i (BitVec.ofNat 6 (chryField w 0 6)))

/-- The instruction that a word spells (R148, R151, R152). A bit of a field that the table lists is not one that must be zero, also
where the form does not use it (DEDUCED, log entry 91). -/
def chryDecode (w : BitVec 24) : ChryInsn :=
  let z (lo n : Nat) : Bool := chryField w lo n == 0
  let first : Fin 64 := Fin.ofNat 64 (chryField w 12 6)
  let last : Fin 64 := Fin.ofNat 64 (chryField w 6 6)
  match chryField w 20 4, chryField w 18 2 with
  | 0x0, _ => legalIf (z 0 20) .halt
  | 0x1, _ => legalIf (z 18 1 && z 1 5 && decide (first ≤ last)) (.drive (w.getLsbD 19) first last (w.getLsbD 0))
  | 0x2, _ => legalIf (z 18 2 && z 0 6 && decide (first ≤ last)) (.float first last)
  | 0x3, _ => legalIf (z 18 2 && z 0 12) (.sample first)
  | 0x4, _ => .waitt (w.setWidth 20)
  | 0x5, _ => legalIf (z 18 2) (.waitp first (w.getLsbD 11) (w.setWidth 11))
  | 0x6, 0 => chryTarget w .loopDec
  | 0x6, 1 => .loopLoad (w.setWidth 18)
  | 0x6, 2 => chryTarget w .loopJumpF0
  | 0x6, 3 => chryTarget w .loopJump
  | 0x7, 0 => legalIf (z 8 9) (.send (w.getLsbD 17) (w.setWidth 8))
  | 0x7, 2 => legalIf (z 8 9) (.dummy (w.getLsbD 17) (w.setWidth 6))
  | 0x7, 3 => legalIf (z 8 9) (.stream (w.getLsbD 17))
  | 0x8, 0 => legalIf (z 0 18) .storeCocoon
  | 0x8, 1 => legalIf (z 0 18) .storeResult
  | 0x8, 2 => legalIf (z 0 18) .storeAddr
  | 0x9, 1 => legalIf (z 0 18) .cmp
  | _, _ => .illegal

/-- Steps are REFCLK steps: FAST, or the boot loader runs (R148). -/
def refSteps (s : State) (g : Fin 8) : Bool := (chry s g).fast || (g == 0 && decide ((chry s g).pc.toNat < 16))

/-- The instruction at PC; a SHIFT is legal in group 0 at REFCLK steps only (R148, R151). -/
def chryAt (s : State) (g : Fin 8) : ChryInsn :=
  let i := chryDecode (chryWord (chry s g))
  match i with
  | .send _ _ | .dummy _ _ | .stream _ => legalIf (g == 0 && refSteps s g) i
  | _ => i

/-- The sequencer takes a step: an entry has started it, its group is in chrysalis mode and it is not halted (R148). -/
def chryRuns (s : State) (g : Fin 8) : Bool := (chry s g).started && (chry s g).active && !(chry s g).halted

/-- The sequencer executes this instruction now. -/
def chryDoes (s : State) (g : Fin 8) (i : ChryInsn) : Bool := chryRuns s g && chryAt s g == i

/-! ## Operations -/

/-- The sequencer with PC at the next word. -/
def nextWord (c : Chrysalis) : Chrysalis := { c with pc := c.pc + 1 }

/-- One instruction of a sequencer: its registers after it. -/
def chryStep (s : State) (g : Fin 8) (f : Chrysalis → Chrysalis) : State := setChry s g (f (chry s g))

/-- The sequencer stops; the pins keep their levels (R148, R151). -/
def chryStop (s : State) (g : Fin 8) : State := chryStep s g fun c => { c with halted := true }

/-- An illegal word stops the sequencer and is recorded; it has no other effect (R151). -/
def chryIllegal (s : State) (g : Fin 8) : State := chryStat (chryStop s g) g 13

/-- RELEASE succeeds when VIO is good, the ledger is below its limit and the mismatching pin reads its level; with no readback cause no
pin mismatches (R154). -/
def writeRelease (s : State) (g : Fin 8) (pinOk : Bool) : State :=
  let n := s.nrg[g]
  let c := chry s g
  if n.vioGood ∧ n.eNow.toNat < n.limE.toNat ∧ (pinOk ∨ ¬ c.causes.getLsbD 4) then
    let gone : BitVec 8 := 0b11000 ||| (if c.vioLoss then 0b10 else 0)
    let s := setChry s g { c with causes := c.causes &&& ~~~gone, vioLoss := false }
    { s with nrg := s.nrg.set g { n with fold := false } }
  else chryStat s g 14

/-- A write of FAST (R148). -/
def writeFast (s : State) (g : Fin 8) (fast : Bool) : State :=
  chryStep (setReg s (chryCtl g.val) (putBit (reg s (chryCtl g.val)) 2 fast)) g fun c => { c with fast := fast }

/-- Four bytes written into a cocoon copy at a byte address, which wraps at 1 MiB. -/
def cocoonPut (c : Copy) (a : Nat) (w : Word) : Copy :=
  let i := a % 2 ^ 20 / 32
  { c with words := tput c.words i (patchData (tget 0 c.words i) (a % 32 / 4 * 4) (toBytes 4 w.toNat)) }

/-- Words written into copy 0 from a byte address up. -/
def cocoonPutAll (c : Copy) : Nat → List Word → Copy
  | _, [] => c
  | a, w :: ws => cocoonPutAll (cocoonPut c a w) (a + 4) ws

/-- Copy 0 replaced. -/
def setCopy (s : State) (i : Fin 3) (c : Copy) : State := { s with cfg := { s.cfg with copies := s.cfg.copies.set i c } }

/-- CHRY_HOLD. -/
def execChryHold (g : Fin 8) (on entry40 : Bool) (s : State) : Out := .next (writeHold s g on entry40)
/-- CHRY_RELEASE. -/
def execChryRelease (g : Fin 8) (pinOk : Bool) (s : State) : Out := .next (writeRelease s g pinOk)
/-- CHRY_FAST_SELECT. -/
def execChryFastSelect (g : Fin 8) (fast : Bool) (s : State) : Out := .next (writeFast s g fast)
/-- CHRYSALIS_RETURN (R154). -/
def execChrysalisReturn (g : Fin 8) (s : State) : Out := act (mayReturn s g) s (returnGroup s g)
/-- CHRY_HALT. -/
def execChryHalt (g : Fin 8) (s : State) : Out := act (chryDoes s g .halt) s (chryStop s g)

/-- CHRY_DRIVE: a range of pins at a level, or each at its pattern code (R148, R149). -/
def execChryDrive (g : Fin 8) (pattern : Bool) (first last : Fin 64) (level : Bool) (s : State) : Out :=
  act (chryDoes s g (.drive pattern first last level)) s
    (drivePins (chryStep s g nextWord) g first.val last.val fun i =>
      if pattern then pinOfCode (patternCode (chry s g) i) else { level := level, out := true, pull := none })

/-- CHRY_FLOAT: a range of pins to high impedance (R148). -/
def execChryFloat (g : Fin 8) (first last : Fin 64) (s : State) : Out :=
  act (chryDoes s g (.float first last)) s
    (drivePins (chryStep s g nextWord) g first.val last.val fun _ => pinOfCode .float)

/-- What a pin reads: with LOOPBK its own driver's level, where it drives (R150, log entry 91). -/
def chryReads (s : State) (g : Fin 8) (i : Nat) (level : Bool) : Bool :=
  let p := pinAt s (64 * g.val + i)
  if flg s (chryCtl g.val) 3 && p.out then p.level else level

/-- CHRY_SAMPLE: S shifts left and takes the pin's level (R148). -/
def execChrySample (g : Fin 8) (pin : Fin 64) (level : Bool) (s : State) : Out :=
  act (chryDoes s g (.sample pin)) s (chryStep s g fun c =>
    { nextWord c with s := (c.s <<< 1) ||| BitVec.ofNat 32 (b2n (chryReads s g pin.val level)) })

/-- CHRY_WAITT: 1 + n steps, taken as one (R148). -/
def execChryWaitt (g : Fin 8) (n : BitVec 20) (s : State) : Out := act (chryDoes s g (.waitt n)) s (chryStep s g nextWord)

/-- CHRY_WAITP at the step of its outcome: the pin reads at the level (F = 1); else, with t ≠ 0, t steps have passed (F = 0); with t = 0
the wait goes on (R148, R150). -/
def execChryWaitp (g : Fin 8) (pin : Fin 64) (level : Bool) (timeout : BitVec 11) (reads : Bool) (s : State) : Out :=
  let met := chryReads s g pin.val reads == level
  act (chryDoes s g (.waitp pin level timeout) && (met || timeout != 0)) s (chryStep s g fun c => { nextWord c with f := met })

/-- A jump, or the next word. -/
def chryJump (s : State) (g : Fin 8) (target : BitVec 6) (taken : Bool) (f : Chrysalis → Chrysalis) : State :=
  chryStep s g fun c => if taken then { f c with pc := target } else nextWord (f c)

/-- CHRY_LOOP_DEC. -/
def execChryLoopDec (g : Fin 8) (target : BitVec 6) (s : State) : Out :=
  act (chryDoes s g (.loopDec target)) s
    (chryJump s g target ((chry s g).k != 0) fun c => if c.k = 0 then c else { c with k := c.k - 1 })
/-- CHRY_LOOP_LOAD. -/
def execChryLoopLoad (g : Fin 8) (v : BitVec 18) (s : State) : Out :=
  act (chryDoes s g (.loopLoad v)) s (chryStep s g fun c => { nextWord c with k := v })
/-- CHRY_LOOP_JUMP_F0. -/
def execChryLoopJumpF0 (g : Fin 8) (target : BitVec 6) (s : State) : Out :=
  act (chryDoes s g (.loopJumpF0 target)) s (chryJump s g target (!(chry s g).f) id)
/-- CHRY_LOOP_JUMP. -/
def execChryLoopJump (g : Fin 8) (target : BitVec 6) (s : State) : Out :=
  act (chryDoes s g (.loopJump target)) s (chryJump s g target true id)

/-- Chip select asserts at the first SHIFT and releases after one with END (R152). -/
def chipSelect (c : Chrysalis) (final : Bool) : Chrysalis :=
  { nextWord (if c.cs then c else { c with sent := [], dummies := 0 }) with cs := !final }

/-- CHRY_SHIFT_SEND. -/
def execChryShiftSend (g : Fin 8) (final : Bool) (data : BitVec 8) (s : State) : Out :=
  act (chryDoes s g (.send final data)) s
    (chryStep s g fun c => let d := chipSelect c final; { d with sent := d.sent ++ [data] })
/-- CHRY_SHIFT_DUMMY: n + 1 dummy clocks. -/
def execChryShiftDummy (g : Fin 8) (final : Bool) (n : BitVec 6) (s : State) : Out :=
  act (chryDoes s g (.dummy final n)) s
    (chryStep s g fun c => let d := chipSelect c final; { d with dummies := d.dummies + n.toNat + 1 })

/-- The boot load has ended: BOOTDONE, and the cold start's load is no longer due (R152, R342). -/
def bootEnds (s : State) : State :=
  { chryStep s 0 fun c => { c with bootDone := true } with bootDue := false }

/-- CHRY_SHIFT_STREAM: K + 1 words of the flash go into copy 0 at A, and A moves past them; word 6 ends the boot load (R152). -/
def execChryShiftStream (g : Fin 8) (final : Bool) (words : List Word) (s : State) : Out :=
  let c := chry s g
  act (chryDoes s g (.stream final) && words.length == c.k.toNat + 1) s
    (let s' := chryStep s g fun c => { chipSelect c final with a := c.a + BitVec.ofNat 20 (4 * (c.k.toNat + 1)) }
     let s' := setCopy s' 0 { cocoonPutAll s.cfg.copies[0] (c.a.toNat / 4 * 4) words with st := .writing }
     if c.pc = 6 then bootEnds s' else s')

/-- CHRY_STORE_COCOON: copy 0 at A takes S, then A := A + 4 (R148). -/
def execChryStoreCocoon (g : Fin 8) (s : State) : Out :=
  let c := chry s g
  act (chryDoes s g .storeCocoon) s
    (setCopy (chryStep s g fun c => { nextWord c with a := c.a + 4 }) 0
      (cocoonPut s.cfg.copies[0] (c.a.toNat / 4 * 4) (BitVec.ofNat 32 c.s.toNat)))
/-- CHRY_STORE_RESULT. -/
def execChryStoreResult (g : Fin 8) (s : State) : Out :=
  act (chryDoes s g .storeResult) s (chryStep s g fun c => { nextWord c with result := c.s.setWidth 16 })
/-- CHRY_STORE_ADDR. -/
def execChryStoreAddr (g : Fin 8) (s : State) : Out :=
  act (chryDoes s g .storeAddr) s (chryStep s g fun c => { nextWord c with a := c.s.setWidth 20 })

/-- The lowest pin with a drive code that does not read its pattern level (R148, R149). -/
def lowestMismatch (s : State) (g : Fin 8) (levels : BitVec 64) : Option Nat :=
  (List.range 64).find? fun i =>
    match patternCode (chry s g) i with
    | .low => chryReads s g i (levels.getLsbD i)
    | .high => !chryReads s g i (levels.getLsbD i)
    | _ => false

/-- CHRY_CMP. -/
def execChryCmp (g : Fin 8) (levels : BitVec 64) (s : State) : Out :=
  act (chryDoes s g .cmp) s
    (match lowestMismatch s g levels with
     | none => chryStep s g fun c => { nextWord c with f := true }
     | some i =>
       chryStat (chryStep s g fun c =>
         { nextWord c with f := false, s := putBits c.s 0 6 i }) g 12)

/-- SEQUENCER_ILLEGAL_WORD (R151). -/
def execSequencerIllegalWord (g : Fin 8) (s : State) : Out := act (chryDoes s g .illegal) s (chryIllegal s g)

end Sys2Proof.Machine
end

