-- ==== Sys2Proof/Machine/ResetOps.lean ====
section
/-! DEFINITION. Reset of the core domains and the start of the boot load, as shared operations (R145, R342, R347, R348). -/
namespace Sys2Proof.Machine

/-- Registers that a reset of the core domains keeps: PWR and NRG in VAON (R348), and the debug domain's, in VDBG (R347). -/
def keptReg (k : Nat) : Bool :=
  let off := if k < 0x40000 then k else k / 65536
  (0x800 ≤ off && off < 0x1000) || (0x3000 ≤ off && off < 0x4000)

/-- The bank after a reset: owned by HOST, nothing pending; the bank map stays (R344, R348). -/
def resetBank (b : Bank) : Bank := { phys := b.phys }

/-- Main memory through a reset of the core domains: contents, remap log, row remaps and bank map stay (R348). -/
def resetMemory (m : Memory) (cold : Bool) : Memory :=
  { cells := m.cells, errs := m.errs, due := m.due, banks := m.banks.map resetBank, roles := m.roles, rows := m.rows
    remap := m.remap, unmir := m.unmir, initDone := !cold }

/-- The cores through a reset: retired and lent cores keep their role and number (R348). -/
def resetCore (c : Core) : Core := { logical := c.logical, role := c.role }

/-- The loader through a reset: the copies and ACTIVE (R348). -/
def resetLoader (l : Loader) : Loader := { copies := l.copies, active := l.active }

/-- Everything that a reset of the core domains returns to its reset value does so; an unfinished cold start stays one, and with the molt
its holds end (R154, R342, R347, R348). -/
def clearCore (s : State) : State :=
  { ({} : State) with
    coldStart := s.bootDue, bootDue := s.bootDue
    regs := s.regs.filter fun e => keptReg e.1
    cores := s.cores.map resetCore
    progs := s.progs
    avl := { log := s.avl.log }
    mem := resetMemory s.mem s.bootDue
    pwr := s.pwr, nrg := s.nrg, chry := s.chry.map fun c => { c with causes := c.causes &&& ~~~(0b1000000 : BitVec 8) }
    pen := { pins := s.pen.pins }
    cfg := resetLoader s.cfg
    host := { rstCause := s.host.rstCause, rstCount := s.host.rstCount }
    dbg := { s.dbg with coreHalts := [], feed := none }, free := s.free, pending := s.pending }

/-- The last cause and the count of resets (BLK_RST_CAUSE). -/
def recordReset (s : State) (cause : Nat) : State :=
  let n := s.host.rstCount
  { s with host := { s.host with rstCause := BitVec.ofNat 4 cause, rstCount := if n = 0xFFFF then n else n + 1 } }

/-- Every group enters chrysalis mode (R145). -/
def allEnter (s : State) (cause : Nat) : State := (List.finRange 8).foldl (fun s g => enterChry s g cause false) s

/-- A cause of entry word 16 restarts the sequencer of group 0 out of its boot load (R342). -/
def leaveBoot (s : State) : State :=
  if (chry s 0).pc.toNat < 16 ∧ s.bootDue then startSequencer s 0 16 else s

/-- The core domains enter reset (R347). A cause that arises while they are in reset only holds them there (R343). -/
def coreResetNow (s : State) (cause : Nat) : State :=
  if s.coreReset then s else leaveBoot (allEnter (recordReset (clearCore s) cause) 2)

/-- The boot load begins in a cold start once VIO0 and VMEM are good (R342). -/
def bootStart (s : State) : State :=
  if s.bootDue ∧ s.nrg[0].vioGood ∧ s.pwr.vmemGood then
    chryStep (startSequencer s 0 0) 0 fun c => { c with bootDone := false }
  else s

/-- VIO good at power-on, or again: the group enters with cause 0b001 at word 16, group 0 at word 0 for a boot load that is due
(R145, R146). Where the block is released already, the power-on cause has cleared (log entry 91). -/
def enterVio (s : State) (g : Fin 8) : State :=
  let c := chry s g
  let s := if c.active then
      startSequencer (if s.released ∧ ¬ c.vioLoss then s else setChry s g { c with causes := c.causes ||| 0b10 }) g 16
    else enterChry s g 1 false
  if g = 0 then bootStart s else s

end Sys2Proof.Machine
end

