-- ==== Sys2Proof/Machine/Takeover.lean ====
section
/-! DEFINITION. The hot-standby pair: yielding and taking the active role (R266, R270, R272, R273, R349). -/
namespace Sys2Proof.Machine

/-- A pair starts: gate and buffer empty, its first checkpoint the context it starts with (R259, R292). -/
def startPair (s : State) (p : Nat) : State :=
  let x := pairAt s p
  if x.leader.toNat < 1664 ∧ x.follower.toNat < 1664 then
    setPair s p { x with
      st := .running, gate := [], log := [], nL := 0, nF := 0, ckpt := some (contextOf (spk s x.leader.toNat)), ckptN := 0
      pend := none, pendN := 0, sigs := [], skip := [], mismatch := false, since := 0, storing := 0, req := none, lockSeq := none }
  else s

/-- The pairs whose checkpoint records go to the partner (R272). -/
def mirrored (s : State) : List Nat :=
  (s.avl.pairs.filter fun e => e.2.mirror && decide (e.2.leader.toNat < 1664 ∧ e.2.follower.toNat < 1664)).map (·.1)

/-- A CONTROL frame on the tandem link (R201): 0 asks the partner to yield, 1 tells it to take over, 2 confirms a yield; its
payload word is not given (log entry 34). -/
def sendControl (s : State) (kind : Fin 3) : State :=
  sendTandem s 0xF3 [Sys2Proof.Config.controlWord kind] (tandemUp s)

/-- The stop cause that the mirrored pairs of a yielding block show: not given (log entry 34). -/
def yieldCause (n : Nat) : StopCause :=
  match Sys2Proof.Config.yieldCause n with
  | 0 => .own
  | 1 => .master
  | 2 => .fault
  | 3 => .kill
  | _ => .retired

/-- A completed takeover or yield is recorded and logged (R275). -/
def takeoverDone (s : State) : State := logFault (orReg s 0x215C 0x200) 0xA 0 0

/-- The active block yields (R273): role NONE, every group held, mirrored pairs STOPPED, the confirmation sent. -/
def yieldRole (s : State) (own : Bool) : State :=
  if s.avl.role = 1 then
    let s := if own then sendControl s 1 else s
    let s := holdGroups { s with avl := { s.avl with role := 3, roleWindow := none } } 255
    let c := yieldCause s.free
    let s := (mirrored s).foldl (fun s p => stopNow s (pairAt s p).leader.toNat c) { s with free := s.free + 1 }
    takeoverDone (sendControl s 2)
  else s

/-- The context that a checkpoint record carries (R272). -/
def recordContext (ws : List MemWord) : Context :=
  let w (i : Nat) : Nat := (ws[i]?.getD 0).toNat
  let h := w 0
  let item (base per size : Nat) (i : Nat) : Nat := w (base + i / per) >>> (size * (i % per))
  { pc := BitVec.ofNat 18 (h >>> 128)
    g := Vector.ofFn fun i : Fin 16 => BitVec.ofNat 32 (item 1 8 32 i.val)
    a := Vector.ofFn fun i : Fin 4 => BitVec.ofNat 72 (item 3 3 72 i.val)
    v := Vector.ofFn fun i : Fin 8 => BitVec.ofNat 256 (w (7 + i.val))
    s := Vector.ofFn fun i : Fin 8 => BitVec.ofNat 64 (item 5 4 64 i.val)
    tsw := BitVec.ofNat 32 (h >>> 160)
    resv := none }

/-- A mirrored pair is restored from its latest record, if it has one, and released (R273). -/
def resumePair (s : State) (p : Nat) : State :=
  let x := pairAt s p
  let s := match x.record with
    | some ws =>
      let c := recordContext ws
      let s := [x.leader.toNat, x.follower.toNat].foldl (fun s g => setSpk s g (restore (spk s g) c)) s
      setPair s p { x with seq := BitVec.ofNat 16 ((ws.headD 0).toNat >>> 16) }
    | none => s
  releaseNow (startPair s p) x.leader.toNat

/-- The standby block becomes ACTIVE (R273). -/
def becomeActive (s : State) : State :=
  let s := { s with avl := { s.avl with role := 1, taking := false, roleWindow := none } }
  let s := (mirrored s).foldl resumePair s
  takeoverDone ((List.finRange 8).foldl (fun s g => writeHold s g false false) s)

/-- What a block keeps while its role is STANDBY: every group held, mirrored pairs DEFERRED (R272). -/
def enterStandby (s : State) : State :=
  (mirrored s).foldl (fun s p => (together s (pairAt s p).leader.toNat).foldl
    (fun s g => enter s g (spk s g) .deferred) s) (holdGroups s 255)

/-- TAKE (R273): refused out of sync; at once with the partner lost; else the partner is asked. -/
def takeRole (s : State) : State :=
  if s.avl.role ≠ 2 then s
  else if ¬ s.str.inSync then orReg s 0x215C 0x100
  else if flg s 0xE418 1 then becomeActive s
  else sendControl { s with avl := { s.avl with taking := true } } 0

/-- AVL_TKOV_TAKE. -/
def execAvlTkovTake (s : State) : Out := act (live s) s (takeRole s)
/-- AVL_TKOV_YIELD. -/
def execAvlTkovYield (s : State) : Out := act (live s) s (yieldRole s true)
/-- TAKE_REQUEST_RECEIVED: always honoured by the active block. -/
def execTakeRequestReceived (s : State) : Out := act (live s && tandemUp s != []) s (yieldRole s false)
/-- YIELD_CONFIRM_RECEIVED. -/
def execYieldConfirmReceived (s : State) : Out := act (live s && tandemUp s != [] && s.avl.role == 2) s (becomeActive s)

end Sys2Proof.Machine
end

