-- ==== Sys2Proof/Machine/Recovery.lean ====
section
/-! DEFINITION. The start of a cluster recovery (R350, R351). -/
namespace Sys2Proof.Machine

/-- A spoke of a recovering cluster stops, its debugger halt with it, and what it has outstanding drains (R350). -/
def drainSpoke (s : State) (g : Nat) : State :=
  let s := stopOne s g .master
  setSpk s g { spk s g with flight := [], stuck := [], resv := none }

/-- A channel of the cluster's set, or with an endpoint on a spoke of the cluster (R350). -/
def clusterChan (cl : Nat) (e : Nat × Chan) : Bool :=
  let mine (x : Endpoint) : Bool := x.kind == .spoke && clusterOf x.id == cl
  e.1 / 1024 == cl || mine e.2.writer || mine e.2.reader

/-- The channel emptied. -/
def emptyChan (c : Chan) : Chan := { writer := c.writer, reader := c.reader }

/-- Steps 1 to 3 of a recovery (R350). -/
def beginRecovery (s : State) (cl : Nat) : State :=
  let s := ((s.spokes.filter fun e => e.2.listed && clusterOf e.1 == cl).map (·.1)).foldl drainSpoke s
  { s with
    dl := s.dl.map fun e => (e.1, if e.1 / 32 = cl then {} else e.2)
    chans := s.chans.map fun e => (e.1, if clusterChan cl e then emptyChan e.2 else e.2)
    dbg := { s.dbg with coreHalts := s.dbg.coreHalts.filter fun c => c / 4 != cl }
    avl := { s.avl with recovering := s.avl.recovering ||| ((1 : BitVec 13) <<< cl) } }

/-- A molt applies a CORE region of the cluster (R351). -/
def moltHolds (s : State) (cl : Nat) : Bool :=
  s.cfg.molt == .applying && s.cfg.left.any fun r => match r with | .core c => c.val / 4 == cl | _ => false

/-- A recovery starts, or waits for the molt's region (R350, R351). -/
def startRecovery (s : State) (cl : Nat) : State :=
  if moltHolds s cl then { s with avl := { s.avl with recoverDue := s.avl.recoverDue ||| ((1 : BitVec 13) <<< cl) } }
  else beginRecovery s cl

/-- Recoveries that waited for a region that has ended start (R351). -/
def recoverWaiting (s : State) : State :=
  (List.range 13).foldl (fun s cl =>
    if s.avl.recoverDue.getLsbD cl && !moltHolds s cl then
      beginRecovery { s with avl := { s.avl with recoverDue := s.avl.recoverDue &&& ~~~((1 : BitVec 13) <<< cl) } } cl
    else s) s

end Sys2Proof.Machine
end

