-- ==== Sys2Proof/Machine/Engines.lean ====
section
/-! DEFINITION. The meanings of the pin engine rows (R120 to R143) and ENGINE_TRIGGER. The word that a row stands for is the
row itself with its loop and seam bits; only WAKE fetches it from the store (log entry 20). -/
namespace Sys2Proof.Machine

/-! ## One word -/

/-- An operation on a context: the state and the context before it, and what it leaves: completed, blocked, or waiting. -/
inductive PenRes where
  /-- Completed: the state (the context in it), and the PC if the word writes it. -/
  | done (s : State) (x : Ctx) (pc : Option (BitVec 8))
  /-- Blocked, with nothing done (R122). -/
  | block (s : State)
  /-- Waiting for a condition (R127). -/
  | wait (s : State) (w : CtxWait)
  /-- An illegal word (R134). -/
  | illegal

/-- The context has switched at a seam (R139). -/
def seamSwitch (e : Engine) (b : WordBits) (x : Ctx) : Ctx :=
  if e.pending ∧ ¬ e.forcing ∧ b.seam ∧ x.bank = e.active then { x with bank := !x.bank } else x

/-- A context after a completed word: next PC by the loop bit (R125), the stretch (R124, R135), the seam (R139). -/
def completeCtx (e : Engine) (b : WordBits) (stretch : Nat) (x : Ctx) (pc : Option (BitVec 8)) : Ctx :=
  let next := match pc with
    | some t => t
    | none => if b.loop then loopStart x x.bank else x.pc + 1
  let d := stretch + x.carry
  seamSwitch e b { x with
    pc := next, delay := d, carry := 0, wait := none, st := if d > 0 ∨ x.pause ≠ 0 then .delay else .run }

/-- The result of a word takes hold on its context. -/
def settlePen (s : State) (e c : Nat) (b : WordBits) (stretch : Nat) : PenRes → State
  | .done s' x pc => finishSwitch (setCtx s' e c (completeCtx (eng s' e) b stretch x pc)) e
  | .block s' => setCtx s' e c { ctxAt s' e c with st := .blocked, wait := some .retry, waitBits := b }
  | .wait s' w => setCtx s' e c { ctxAt s' e c with st := .waiting, wait := some w, waitBits := b }
  | .illegal => engStat (holdCtx s e c .illegal) e 10

/-- A context reads a pin of its range: an offset at or beyond its count reads 0 and sets RANGE (R129). -/
def readPin (s : State) (e : Nat) (x : Ctx) (off : Nat) (level : Bool) : State × Bool :=
  if off < x.count then (s, level) else (engStat s e 6, false)

/-- The context's pins among the levels of its group, in the low bits (R130, R132). -/
def ownView (x : Ctx) (pins : BitVec 64) : Word := ((pins >>> x.base).setWidth 32) &&& BitVec.ofNat 32 (2 ^ x.count - 1)

/-- Levels or directions written to pin offsets below n; only owned pins take them (R123, R132, R133). A first direction takes
a safe-state pull off (R154). -/
def writePins (s : State) (e : Nat) (x : Ctx) (dirs : Bool) (n : Nat) (v : Word) : State :=
  if ¬ x.own then (if n = 0 then s else engStat s e 7)
  else
    (List.range n).foldl (fun s i =>
      let p := 64 * (groupOfEng e).val + x.base + i
      let y := pinAt s p
      setPin s p (if dirs then { y with out := bit v i, pull := none } else { y with level := bit v i })) s

/-- HOLD (R127). -/
def penHold (s : State) (e : Nat) (x : Ctx) (stretch : Nat) (k : HoldKind) (off : Nat) (level : Bool) : PenRes :=
  let r := readPin s e x off level
  match k with
  | .low => if ¬ r.2 then .done r.1 x none else .wait r.1 (.pin k off stretch)
  | .high => if r.2 then .done r.1 x none else .wait r.1 (.pin k off stretch)
  | _ => .wait r.1 (.pin k off stretch)

/-- A bit enters CAP (R128). -/
def shiftIn (x : Ctx) (b : Bool) : Ctx :=
  { x with
    cap := if x.cdir then (x.cap >>> 1) ||| (if b then 0x80000000 else 0) else (x.cap <<< 1) ||| (if b then 1 else 0)
    capn := min 32 (x.capn + 1) }

/-- A capture shift with AUTOSEND (R128). -/
def penShift (s : State) (e : Nat) (x : Ctx) (b : Bool) : PenRes :=
  let y := shiftIn x b
  if x.autosend ∧ y.capn ≥ x.cfl then
    match x.outbox with
    | none => .done s { y with outbox := some y.cap, cap := 0, capn := 0 } none
    | some _ =>
      if x.ablock then .block s
      else .done (bump (engStat s e 8) 0xA834) { y with cap := 0, capn := 0 } none
  else .done s y none

/-- A bit leaves EMT, with AUTOFILL (R129): the context and the bit, none where it blocks. -/
def shiftOut (x : Ctx) : Option (Ctx × Bool) :=
  let out (x : Ctx) : Bool := if x.edir then x.emt.getLsbD 0 else x.emt.msb
  let sh (x : Ctx) : Ctx := { x with emt := if x.edir then x.emt >>> 1 else x.emt <<< 1, emtl := x.emtl - 1 }
  if x.autofill ∧ x.emtl = 0 then
    match x.inbox with
    | some w =>
      let y := { x with emt := w.1, emtl := x.efl, e := w.2, inbox := none }
      some (sh y, out y)
    | none => if x.ablock then none else some (sh x, false)
  else some (sh x, out x)

/-- EMIT (R129). -/
def penEmit (s : State) (e : Nat) (x : Ctx) (off : Nat) : PenRes :=
  match shiftOut x with
  | none => .block s
  | some (y, b) =>
    if off < x.count then
      let p := 64 * (groupOfEng e).val + x.base + off
      .done (if x.own then setPin s p { pinAt s p with level := b } else engStat s e 7) y none
    else .done (engStat s e 6) y none

/-- AUX codes (R127). -/
def penAux (s : State) (e : Nat) (x : Ctx) (stretch : Nat) (code : Nat) : PenRes :=
  let fill (f : Ctx → Bool → Ctx) : PenRes :=
    match shiftOut x with
    | none => .block s
    | some (y, b) => .done s (f y b) none
  let push (t : Word) (b : Bool) : Word := (t <<< 1) ||| (if b then 1 else 0)
  match code with
  | 0x00 => .done s x none
  | 0x01 => if x.trig then .done s { x with trig := false } none else .wait s (.trigger stretch)
  | 0x02 => if x.inbox.isSome then .done s x none else .wait s (.inbox stretch)
  | 0x03 => if x.outbox.isNone then .done s x none else .wait s (.outbox stretch)
  | 0x08 => penShift s e x false
  | 0x09 => penShift s e x true
  | 0x0A => penShift s e x (bit x.ta 0)
  | 0x0B => penShift s e x (bit x.tb 0)
  | 0x10 => fill fun y _ => y
  | 0x11 => fill fun y b => { y with ta := push y.ta b }
  | 0x12 => fill fun y b => { y with tb := push y.tb b }
  | _ => .illegal

/-- SAMP (R128). -/
def penSamp (s : State) (e : Nat) (x : Ctx) (off : Nat) (level : Bool) : PenRes :=
  let r := readPin s e x off level
  penShift r.1 e x r.2

/-- Free entries of the output channel's FIFO; none without a channel. -/
def outRoom (s : State) (x : Ctx) : Nat := (x.outCh.map (entryRoom s)).getD 0

/-- The words staged for the output channel. -/
def outStaged (s : State) (x : Ctx) : List Word := (x.outCh.map fun ch => (chan s ch).staged).getD []

/-- The staging of the output channel replaced. -/
def setStaged (s : State) (x : Ctx) (ws : List Word) : State :=
  match x.outCh with
  | some ch => setChan s ch { chan s ch with staged := ws }
  | none => s

/-- A whole message moves into the output FIFO. -/
def sendMessage (s : State) (x : Ctx) (ws : List Word) : State :=
  match x.outCh with
  | some ch => pushWords (setStaged s x []) ch (message ws false false)
  | none => s

/-- SEND (R130). -/
def penSend (s : State) (e : Nat) (x : Ctx) (final blk : Bool) (src : SendSrc) (pins : BitVec 64) : PenRes :=
  let word : Option Word := match src with
    | .cap => some x.cap
    | .pins => some (ownView x pins)
    | .ta => some x.ta
    | .tb => some x.tb
    | .stamp => some (BitVec.ofNat 32 s.bc)
    | .full => if x.capn ≥ x.cfl then some x.cap else none
  let clears := decide (src = .cap) || (decide (src = .full) && word.isSome)
  let y := if clears then { x with cap := 0, capn := 0 } else x
  let ws := outStaged s x ++ word.toList
  if final ∨ ws.length = 4 then
    if ws = [] then .done s y none
    else if ws.length ≤ outRoom s x then .done (sendMessage s x ws) y none
    else if blk then .block s
    else .done (bump (engStat (setStaged s x []) e 8) 0xA834) y none
  else .done (setStaged s x ws) y none

/-- TAKE without MSG (R131). -/
def penTake (s : State) (x : Ctx) (blk : Bool) (dst : TakeDst) : PenRes :=
  if dst = .refill ∧ x.emtl ≠ 0 then .done s x none
  else
    match x.inbox with
    | none => if blk then .block s else .done s x none
    | some w =>
      let y := { x with inbox := none, e := w.2 }
      .done s (match dst with
        | .emt | .refill => { y with emt := w.1, emtl := x.efl }
        | .ta => { y with ta := w.1 }
        | .tb => { y with tb := w.1 }) none

/-- The words of a FIFO through the first END, and the rest; none if no END is there. -/
def splitMessage : List ChanWord → Option (List Word × List ChanWord)
  | [] => none
  | w :: t => if w.last then some ([w.word], t) else (splitMessage t).map fun r => (w.word :: r.1, r.2)

/-- TAKE with MSG: one whole message, the first word from the inbox (R131). -/
def penTakeMsg (s : State) (x : Ctx) (blk : Bool) : PenRes :=
  let whole : Option (List Word × State) :=
    match x.inbox, x.inCh with
    | some w, some ch =>
      if w.2 then some ([w.1], s)
      else (splitMessage (chan s ch).fifo).map fun r => (w.1 :: r.1, setChan s ch { chan s ch with fifo := r.2, inMsg := false })
    | some w, none => if w.2 then some ([w.1], s) else none
    | none, _ => none
  match whole with
  | none => if blk then .block s else .done s x none
  | some (ws, s') =>
    let n := ws.length
    let at_ (i : Nat) : Word := ws.toArray[i]?.getD 0
    .done s' { x with
      inbox := none, e := true, emt := at_ (n - 1), emtl := x.efl
      ta := if n ≥ 2 then at_ 0 else x.ta, tb := if n ≥ 3 then at_ 1 else x.tb
      cap := if n = 4 then at_ 2 else x.cap, capn := if n = 4 then 32 else x.capn } none

/-- The STATUS source (R132). -/
def penStatus (s : State) (x : Ctx) : Word :=
  orAll [b2n x.inbox.isSome, b2n (decide ((outStaged s x).length + 1 ≤ outRoom s x)) <<< 1, b2n x.e <<< 2,
    b2n x.trig <<< 3, x.capn <<< 4, x.emtl <<< 10, b2n x.outbox.isSome <<< 16]

/-- COPY (R132). -/
def penCopy (s : State) (e : Nat) (x : Ctx) (dst : CopyDst) (src : CopySrc) (pins : BitVec 64) : PenRes :=
  let v : Word := match src with
    | .pins => ownView x pins
    | .ta => x.ta
    | .tb => x.tb
    | .cap => x.cap
    | .emt => x.emt
    | .zero => 0
    | .ones => BitVec.allOnes 32
    | .status => penStatus s x
    | .notTa => ~~~x.ta
    | .notTb => ~~~x.tb
    | .inbox => (x.inbox.map (·.1)).getD 0
    | .revTa => x.ta.reverse
  let x := match src, x.inbox with
    | .inbox, some w => { x with inbox := none, e := w.2 }
    | _, _ => x
  match dst with
  | .pins => .done (writePins s e x false x.count v) x none
  | .dirs => .done (writePins s e x true x.count v) x none
  | .ta => .done s { x with ta := v } none
  | .tb => .done s { x with tb := v } none
  | .cap => .done s { x with cap := v, capn := 0 } none
  | .emt => .done s { x with emt := v, emtl := x.efl } none
  | .pc => .done s x (some (v.setWidth 8))
  | .pause => .done s { x with pause := v.setWidth 16 } none

/-- PUT (R133). -/
def penPut (s : State) (e : Nat) (x : Ctx) (dst : PutDst) (imm : BitVec 6) : PenRes :=
  let v : Word := imm.setWidth 32
  match dst with
  | .pins => .done (writePins s e x false (min x.count 6) v) x none
  | .dirs => .done (writePins s e x true (min x.count 6) v) x none
  | .ta => .done s { x with ta := v } none
  | .tb => .done s { x with tb := v } none

/-- Branch conditions by code, with the test pin's level (R126). -/
def penBranch (s : State) (e : Nat) (x : Ctx) (cond : Nat) (target : BitVec 8) (level : Bool) : PenRes :=
  let go (s : State) (x : Ctx) (b : Bool) : PenRes := .done s x (if b then some target else none)
  match cond with
  | 0 => go s x true
  | 1 => go s { x with ta := x.ta - 1 } (x.ta - 1 != 0)
  | 2 => go s { x with tb := x.tb - 1 } (x.tb - 1 != 0)
  | 3 => go s x (x.ta == 0)
  | 4 => go s x (x.ta == x.tb)
  | 5 => let r := readPin s e x x.testPin level; go r.1 x r.2
  | 6 => go s x (x.emtl == 0)
  | _ => go s x x.inbox.isSome

/-! ## Words of the store (R124) -/

/-- The level of the context's pin at an offset among its group's pins. -/
def levelAt (x : Ctx) (pins : BitVec 64) (off : Nat) : Bool := pins.getLsbD (x.base + off)

/-- The source of a SEND by its code. -/
def sendSrcOf : Nat → Option SendSrc
  | 0 => some .cap | 1 => some .pins | 2 => some .ta | 3 => some .tb | 4 => some .stamp | 5 => some .full
  | _ => none

/-- The destination of a TAKE by its code. -/
def takeDstOf : Nat → Option TakeDst
  | 0 => some .emt | 1 => some .ta | 2 => some .tb | 3 => some .refill
  | _ => none

/-- The destination of a COPY by its code. -/
def copyDstOf : Nat → CopyDst
  | 0 => .pins | 1 => .dirs | 2 => .ta | 3 => .tb | 4 => .cap | 5 => .emt | 6 => .pc | _ => .pause

/-- The source of a COPY by its code. -/
def copySrcOf : Nat → Option CopySrc
  | 0x0 => some .pins | 0x1 => some .ta | 0x2 => some .tb | 0x3 => some .cap | 0x4 => some .emt | 0x5 => some .zero
  | 0x6 => some .ones | 0x7 => some .status | 0x8 => some .notTa | 0x9 => some .notTb | 0xA => some .inbox
  | 0xB => some .revTa | _ => none

/-- An instruction word as it executes, with its stretch (R124). -/
def penExecWord (s : State) (e : Nat) (x : Ctx) (w : BitVec 12) (pins : BitVec 64) : PenRes × Nat :=
  let n := w.toNat
  let st := n / 32 % 8
  let a := n % 32
  if n / 2048 = 1 then (penBranch s e x (n / 256 % 8) (w.setWidth 8) (levelAt x pins x.testPin), 0)
  else
    match n / 256 % 8 with
    | 0 =>
      let k : HoldKind := match a / 8 with | 0 => .low | 1 => .high | 2 => .rise | _ => .fall
      (penHold s e x st k (a % 8) (levelAt x pins (a % 8)), st)
    | 1 => (penAux s e x st a, st)
    | 2 => (penSamp s e x a (levelAt x pins a), st)
    | 3 => (penEmit s e x a, st)
    | 4 =>
      match sendSrcOf (a % 8) with
      | some src => (penSend s e x (a / 16 == 1) (a / 8 % 2 == 1) src pins, st)
      | none => (.illegal, 0)
    | 5 =>
      if a / 16 = 1 then
        if a % 8 = 0 then (penTakeMsg s x (a / 8 % 2 == 1), st) else (.illegal, 0)
      else
        match takeDstOf (a % 8) with
        | some d => (penTake s x (a / 8 % 2 == 1) d, st)
        | none => (.illegal, 0)
    | 6 =>
      match copySrcOf a with
      | some src => (penCopy s e x (copyDstOf st) src pins, 0)
      | none => (.illegal, 0)
    | _ =>
      let d : PutDst := match n / 64 % 4 with | 0 => .pins | 1 => .dirs | 2 => .ta | _ => .tb
      (penPut s e x d (w.setWidth 6), 0)

/-! ## Rows of the operations -/

/-- A word of a context at its turn. -/
def penRow (x : CtxId) (b : WordBits) (stretch : Nat) (f : State → Nat → Ctx → PenRes) (s : State) : Out :=
  let e := x.engine.val
  let c := x.ctx.val
  act (penTurn s e c) s (settlePen s e c b stretch (f s e (ctxAt s e c)))

/-- A shifter has moved a bit in the rotation's step of this ECLK (R129, R141). -/
def useShifter (s : State) (e : Nat) (cap : Bool) : State :=
  setEng s e (if cap then { eng s e with capUsed := true } else { eng s e with emtUsed := true })

/-- A word of a context that shifts, at its turn: a shift that blocks moves nothing. -/
def shiftRow (x : CtxId) (b : WordBits) (stretch : Nat) (cap : Bool) (f : State → Nat → Ctx → PenRes) (s : State) : Out :=
  let e := x.engine.val
  let c := x.ctx.val
  let r := f s e (ctxAt s e c)
  act (penTurn s e c) s
    (match r with
     | .done _ _ _ => useShifter (settlePen s e c b stretch r) e cap
     | _ => settlePen s e c b stretch r)

/-- HOLD. -/
def execHold (x : CtxId) (b : WordBits) (stretch : BitVec 3) (kind : HoldKind) (off : BitVec 3) (level : Bool) (s : State) : Out :=
  penRow x b stretch.toNat (fun s e c => penHold s e c stretch.toNat kind off.toNat level) s
/-- AUX NOP. -/
def execAuxNop (x : CtxId) (b : WordBits) (stretch : BitVec 3) (s : State) : Out :=
  penRow x b stretch.toNat (fun s e c => penAux s e c stretch.toNat 0x00) s
/-- AUX trigger wait. -/
def execAuxTriggerWait (x : CtxId) (b : WordBits) (stretch : BitVec 3) (s : State) : Out :=
  penRow x b stretch.toNat (fun s e c => penAux s e c stretch.toNat 0x01) s
/-- AUX inbox wait. -/
def execAuxInboxWait (x : CtxId) (b : WordBits) (stretch : BitVec 3) (s : State) : Out :=
  penRow x b stretch.toNat (fun s e c => penAux s e c stretch.toNat 0x02) s
/-- AUX outbox wait. -/
def execAuxOutboxWait (x : CtxId) (b : WordBits) (stretch : BitVec 3) (s : State) : Out :=
  penRow x b stretch.toNat (fun s e c => penAux s e c stretch.toNat 0x03) s
/-- AUX shift of a 0 into CAP. -/
def execAuxShift0 (x : CtxId) (b : WordBits) (stretch : BitVec 3) (s : State) : Out :=
  shiftRow x b stretch.toNat true (fun s e c => penAux s e c stretch.toNat 0x08) s
/-- AUX shift of a 1 into CAP. -/
def execAuxShift1 (x : CtxId) (b : WordBits) (stretch : BitVec 3) (s : State) : Out :=
  shiftRow x b stretch.toNat true (fun s e c => penAux s e c stretch.toNat 0x09) s
/-- AUX shift of TA[0] into CAP. -/
def execAuxShiftTa (x : CtxId) (b : WordBits) (stretch : BitVec 3) (s : State) : Out :=
  shiftRow x b stretch.toNat true (fun s e c => penAux s e c stretch.toNat 0x0A) s
/-- AUX shift of TB[0] into CAP. -/
def execAuxShiftTb (x : CtxId) (b : WordBits) (stretch : BitVec 3) (s : State) : Out :=
  shiftRow x b stretch.toNat true (fun s e c => penAux s e c stretch.toNat 0x0B) s
/-- AUX shift out of EMT, discarded. -/
def execAuxEmitDiscard (x : CtxId) (b : WordBits) (stretch : BitVec 3) (s : State) : Out :=
  shiftRow x b stretch.toNat false (fun s e c => penAux s e c stretch.toNat 0x10) s
/-- AUX shift out of EMT into TA. -/
def execAuxEmitTa (x : CtxId) (b : WordBits) (stretch : BitVec 3) (s : State) : Out :=
  shiftRow x b stretch.toNat false (fun s e c => penAux s e c stretch.toNat 0x11) s
/-- AUX shift out of EMT into TB. -/
def execAuxEmitTb (x : CtxId) (b : WordBits) (stretch : BitVec 3) (s : State) : Out :=
  shiftRow x b stretch.toNat false (fun s e c => penAux s e c stretch.toNat 0x12) s
/-- SAMP. -/
def execSamp (x : CtxId) (b : WordBits) (stretch : BitVec 3) (off : BitVec 5) (level : Bool) (s : State) : Out :=
  shiftRow x b stretch.toNat true (fun s e c => penSamp s e c off.toNat level) s
/-- EMIT. -/
def execEmit (x : CtxId) (b : WordBits) (stretch : BitVec 3) (off : BitVec 5) (s : State) : Out :=
  shiftRow x b stretch.toNat false (fun s e c => penEmit s e c off.toNat) s
/-- SEND. -/
def execSend (x : CtxId) (b : WordBits) (stretch : BitVec 3) (final blk : Bool) (src : SendSrc) (pins : BitVec 64) (s : State) : Out :=
  penRow x b stretch.toNat (fun s e c => penSend s e c final blk src pins) s
/-- TAKE. -/
def execTake (x : CtxId) (b : WordBits) (stretch : BitVec 3) (blk : Bool) (dst : TakeDst) (s : State) : Out :=
  penRow x b stretch.toNat (fun s _ c => penTake s c blk dst) s
/-- TAKE with MSG. -/
def execTakeMsg (x : CtxId) (b : WordBits) (stretch : BitVec 3) (blk : Bool) (s : State) : Out :=
  penRow x b stretch.toNat (fun s _ c => penTakeMsg s c blk) s
/-- COPY. -/
def execCopy (x : CtxId) (b : WordBits) (dst : CopyDst) (src : CopySrc) (pins : BitVec 64) (s : State) : Out :=
  penRow x b 0 (fun s e c => penCopy s e c dst src pins) s
/-- PUT. -/
def execPut (x : CtxId) (b : WordBits) (dst : PutDst) (imm : BitVec 6) (s : State) : Out :=
  penRow x b 0 (fun s e c => penPut s e c dst imm) s
/-- B.AL. -/
def execBAl (x : CtxId) (b : WordBits) (target : BitVec 8) (s : State) : Out :=
  penRow x b 0 (fun s e c => penBranch s e c 0 target false) s
/-- B.LA. -/
def execBLa (x : CtxId) (b : WordBits) (target : BitVec 8) (s : State) : Out :=
  penRow x b 0 (fun s e c => penBranch s e c 1 target false) s
/-- B.LB. -/
def execBLb (x : CtxId) (b : WordBits) (target : BitVec 8) (s : State) : Out :=
  penRow x b 0 (fun s e c => penBranch s e c 2 target false) s
/-- B.ZA. -/
def execBZa (x : CtxId) (b : WordBits) (target : BitVec 8) (s : State) : Out :=
  penRow x b 0 (fun s e c => penBranch s e c 3 target false) s
/-- B.EQ. -/
def execBEq (x : CtxId) (b : WordBits) (target : BitVec 8) (s : State) : Out :=
  penRow x b 0 (fun s e c => penBranch s e c 4 target false) s
/-- B.PH. -/
def execBPh (x : CtxId) (b : WordBits) (target : BitVec 8) (level : Bool) (s : State) : Out :=
  penRow x b 0 (fun s e c => penBranch s e c 5 target level) s
/-- B.EE. -/
def execBEe (x : CtxId) (b : WordBits) (target : BitVec 8) (s : State) : Out :=
  penRow x b 0 (fun s e c => penBranch s e c 6 target false) s
/-- B.IB. -/
def execBIb (x : CtxId) (b : WordBits) (target : BitVec 8) (s : State) : Out :=
  penRow x b 0 (fun s e c => penBranch s e c 7 target false) s

/-! ## Waking (R135, R136) -/

/-- The condition of a wait holds, with the group's pins as sampled one ECLK before and now; a pin beyond the count reads 0 (R127,
R129). -/
def waitMet (x : Ctx) (before pins : BitVec 64) : Option CtxWait → Bool
  | some (.pin k off _) =>
    let l (p : BitVec 64) : Bool := decide (off < x.count) && levelAt x p off
    (match k with
     | .low => !l pins
     | .high => l pins
     | .rise => !l before && l pins
     | .fall => l before && !l pins)
  | some (.trigger _) => x.trig
  | some (.inbox _) => x.inbox.isSome
  | some (.outbox _) => x.outbox.isNone
  | some (.met _) => true
  | _ => false

/-- The stretch of a wait. -/
def waitStretch : Option CtxWait → Nat
  | some (.pin _ _ n) => n
  | some (.trigger n) => n
  | some (.inbox n) => n
  | some (.outbox n) => n
  | some (.met n) => n
  | _ => 0

/-- The word at the PC executes, from the bank the context runs in. -/
def penFetchExec (s : State) (e c : Nat) (pins : BitVec 64) : State :=
  let x := ctxAt s e c
  let w := penWord (eng s e) x.bank x.pc.toNat
  let r := penExecWord s e x w.insn pins
  settlePen s e c ⟨w.loop, w.seam⟩ r.2 r.1

/-- A wait completes: the PC moves on, the stretch is carried, the trigger latch clears (R127, R135, R139). -/
def completeWait (s : State) (e c : Nat) : State :=
  let x := ctxAt s e c
  let stretch := waitStretch x.wait
  let trig := match x.wait with | some (.trigger _) => false | _ => x.trig
  let y := completeCtx (eng s e) x.waitBits 0 { x with trig := trig, carry := 0 } none
  finishSwitch (setCtx s e c { y with st := .run, carry := x.carry + stretch, delay := 0 }) e

/-- A word that uses the capture shifter: SAMP and the CAP shifts of AUX (R129). -/
def usesCap (w : BitVec 12) : Bool :=
  let n := w.toNat
  n / 256 == 2 || (n / 256 == 1 && decide (8 ≤ n % 32 ∧ n % 32 ≤ 0xB))

/-- A word that uses the emit shifter: EMIT and the EMT shifts of AUX (R129). -/
def usesEmt (w : BitVec 12) : Bool :=
  let n := w.toNat
  n / 256 == 3 || (n / 256 == 1 && decide (0x10 ≤ n % 32 ∧ n % 32 ≤ 0x12))

/-- A blocked word that executes again by a wake: TAKE, and what waits for an autofill; SEND and what waits for the outbox use their next
turn (R135). -/
def retriesByWake (w : BitVec 12) : Bool := w.toNat / 256 == 5 || usesEmt w

/-- The reflex unit takes the wake instruction of context c now: none has executed in this ECLK, none deferred comes before it, and the
rotation has not used the shifter that the word needs (R129, R136). -/
def reflexFree (x : Engine) (c : Nat) (w : BitVec 12) : Bool :=
  x.reflex.isNone && x.due.all (fun d => decide (c ≤ d)) && !(usesCap w && x.capUsed) && !(usesEmt w && x.emtUsed)

/-- Wakes of one ECLK come in ascending order of context (R136). -/
def inOrder (x : Engine) (c : Nat) : Bool := x.due.contains c || x.reflex.all fun k => decide (k < c)

/-- Context numbers in ascending order. -/
def insertUp (c : Nat) : List Nat → List Nat
  | [] => [c]
  | d :: t => if c = d then d :: t else if c < d then c :: d :: t else d :: insertUp c t

/-- The wake instruction of a context waits for a later ECLK: its wait is complete, and its trigger taken (R127, R136). -/
def deferWake (s : State) (e c : Nat) : State :=
  let x := ctxAt s e c
  let x := match x.wait with
    | some (.trigger n) => { x with trig := false, wait := some (.met n) }
    | some .retry | none => x
    | w => { x with wait := some (.met (waitStretch w)) }
  let s := setCtx s e c x
  setEng s e { eng s e with due := insertUp c (eng s e).due }

/-- The reflex unit executes a wake instruction. -/
def takeReflex (s : State) (e c : Nat) : State :=
  setEng s e { eng s e with reflex := some c, due := (eng s e).due.filter (· != c) }

/-- A wait for the outbox is complete: the next word takes an ordinary turn (R135). -/
def completeAlone (s : State) (e c : Nat) : State :=
  let s := completeWait s e c
  let z := ctxAt s e c
  setCtx s e c { z with delay := z.carry, carry := 0, st := if z.carry > 0 ∨ z.pause ≠ 0 then .delay else .run }

/-- WAKE: a completed wait and the wake instruction behind it; a blocked TAKE, EMIT, SEND or shift executes again. `before` and `pins` are
the group's pins at the edge before the sample that completes the wait and at that sample, `later` those at the edge of the wake
instruction (R135). The reflex unit executes one in each ECLK, the lowest context first, and defers the others (R136). -/
def execWake (x : CtxId) (before pins later : BitVec 64) (s : State) : Out :=
  let e := x.engine.val
  let c := x.ctx.val
  let y := ctxAt s e c
  let ok := penServes s e c && inOrder (eng s e) c
  match y.st, y.wait with
  | .waiting, some (.outbox _) => act (penServes s e c && y.outbox.isNone) s (completeAlone s e c)
  | .waiting, w =>
    let s' := completeWait s e c
    act (ok && waitMet y before pins w && !(wordAtPc s' e c).bad) s
      (if reflexFree (eng s e) c (wordAtPc s' e c).insn then penFetchExec (takeReflex s' e c) e c later else deferWake s e c)
  | .blocked, _ =>
    let w := wordAtPc s e c
    if retriesByWake w.insn then
      act (ok && !w.bad) s
        (if reflexFree (eng s e) c w.insn then penFetchExec (takeReflex s e c) e c later else deferWake s e c)
    else act (penServes s e c && !w.bad) s (penFetchExec s e c later)
  | _, _ => .next s

/-- ENGINE_TRIGGER (R127, R135, R145): a trigger on its way sets the latch; a second, or one to a held context, is lost. -/
def execEngineTrigger (x : CtxId) (s : State) : Out :=
  let e := x.engine.val
  let c := x.ctx.val
  let mine (t : Trigger) : Bool := t.eng == e && t.ctx == c
  let s' := { s with cad := { s.cad with trigQ := s.cad.trigQ.eraseP mine } }
  let y := ctxAt s e c
  act (s.released && s.cad.trigQ.any mine) s
    (if y.st = .held ∨ y.trig ∨ (chry s (groupOfEng e)).active then engStat s' e 9
     else setCtx s' e c { y with trig := true })

/-- INBOX_FILL (R131): an empty inbox takes the oldest word of a valid input channel, whatever the context's state; while the group's
engines are frozen, words wait in their FIFOs (R143). -/
def execInboxFill (x : CtxId) (s : State) : Out :=
  let e := x.engine.val
  let c := x.ctx.val
  let y := ctxAt s e c
  match y.inCh with
  | none => .next s
  | some ch =>
    match popWord s ch with
    | none => .next s
    | some (w, s') =>
      act (s.released && y.inbox.isNone && !penFrozen s e) s
        (setCtx s' e c { y with inbox := some (w.word, w.last) })

/-- OUTBOX_SEND (R128): the outbox word leaves as a one-word message once the FIFO has room. -/
def execOutboxSend (x : CtxId) (s : State) : Out :=
  let e := x.engine.val
  let c := x.ctx.val
  let y := ctxAt s e c
  match y.outCh, y.outbox with
  | some ch, some w =>
    let r := token s ch w
    act (s.released && r.2 && !(chry s (groupOfEng e)).active) s (setCtx r.1 e c { ctxAt r.1 e c with outbox := none })
  | _, _ => .next s

/-! ## Stores, banks, readback -/

/-- ENGINE_ILLEGAL_WORD (R134). -/
def execEngineIllegalWord (x : CtxId) (s : State) : Out :=
  let e := x.engine.val
  let c := x.ctx.val
  act (penTurn s e c) s (engStat (holdCtx s e c .illegal) e 10)

/-- BANK_SWITCH (R138): a write of BANK.SWITCH. -/
def execBankSwitch (e : Fin 64) (s : State) : Out := act (live s) s (requestSwitch s e.val (bankMode s e.val))

/-- PEN_SWITCH_ALL (R138). -/
def switchAll (s : State) (groups : Nat) : State :=
  (List.range 64).foldl (fun s e =>
    if (groups >>> (groupOfEng e).val) % 2 = 1 then requestSwitch s e (bankMode s e) else s) s

/-- PEN_SWITCH_ALL. -/
def execPenSwitchAll (groups : BitVec 8) (s : State) : Out := act (live s) s (switchAll s groups.toNat)

/-- What a context that FORCE moved waits on: the word at its new PC (R140). -/
def rewait (e : Engine) (x : Ctx) : Ctx :=
  if x.st ≠ .waiting ∧ x.st ≠ .blocked then x
  else
    let w := penWord e x.bank x.pc.toNat
    let n := w.insn.toNat
    let st := n / 32 % 8
    let y := { x with waitBits := ⟨w.loop, w.seam⟩ }
    let wait? : Option CtxWait :=
      if n / 256 = 0 then
        some (.pin (match n % 32 / 8 with | 0 => .low | 1 => .high | 2 => .rise | _ => .fall) (n % 8) st)
      else if n / 256 = 1 then
        match n % 32 with
        | 1 => some (.trigger st)
        | 2 => some (.inbox st)
        | 3 => some (.outbox st)
        | _ => none
      else none
    match wait? with
    | some k => { y with st := .waiting, wait := some k }
    | none => { y with st := .blocked, wait := some .retry }

/-- One context under FORCE (R140). -/
def forceCtx (s : State) (e c : Nat) : State :=
  let x := ctxAt s e c
  let en := eng s e
  let r := tget (0, false) en.reloc (b2n (!en.active) * 256 + x.pc.toNat)
  let s := setEng s e { en with due := en.due.filter (· != c) }
  if r.2 then setCtx s e c (rewait en { x with pc := r.1, bank := !en.active })
  else
    let s := setCtx s e c { x with st := .held, hold := .unmapped, wait := none, bank := !en.active }
    let s := (ownedPins e x).foldl (fun s p => setPin s p (pinOfCode (patternCode (chry s (groupOfEng e)) (p % 64)))) s
    engStat (engStat (noteLoss (truncateCtx s e c) (lockIdCtx e c)) e 2) e 12

/-- FORCE_SWITCH (R140): every remaining context is moved, at the engine's next tick, which it has only while it runs. -/
def execForceSwitch (e : Fin 64) (s : State) : Out :=
  let x := eng s e.val
  act (s.released && x.pending && x.forcing && flg s (engReg e.val 0) 0 && !(chry s (groupOfEng e.val)).active && !penFrozen s e.val) s
    (finishSwitch (engStat ((leftCtxs x).foldl (fun s c => forceCtx s e.val c) s) e.val 1) e.val)

/-- A write of PW_DATA (R138): the shadow entry, refused while a switch is pending. -/
def writePwData (s : State) (e : Nat) (v : Word) : State :=
  let x := eng s e
  let a := reg s (engReg e 0xC)
  let k := b2n (!x.active) * 256 + bits a 0 8
  let s' := if x.pending then engStat s e 3
    else if bit a 8 then setEng s e { x with reloc := tput x.reloc k (v.setWidth 8, bit v 8) }
    else setEng s e { x with store := tput x.store k ⟨v.setWidth 12, bit v 12, bit v 13, false⟩ }
  if bit a 16 then setReg s' (engReg e 0xC) (putBits a 0 8 (bits a 0 8 + 1)) else s'

/-- PEN_PW_DATA_WRITE. -/
def execPenPwDataWrite (e : Fin 64) (v : Word) (s : State) : Out := act (live s) s (writePwData s e.val v)

/-- A host write through the context window: items 0x0 to 0x6 of a context that is OFF or HELD for a cause other than group. -/
def writeCtx (s : State) (e : Nat) (v : Word) : State :=
  let sel := reg s (engReg e 0x14)
  let c := bits sel 0 6
  let i := bits sel 8 4
  let x := ctxAt s e c
  let free := x.st = .off ∨ (x.st = .held ∧ x.hold ≠ .group)
  if i ≤ 6 ∧ free then
    let y := writeCtxItem x i v
    let s' := setCtx s e c y
    if i = 0 ∧ y.st = .off ∧ x.st ≠ .off then noteLoss s' (lockIdCtx e c) else s'
  else if 7 ≤ i ∧ i ≤ 0xB ∧ ¬ s.cfg.committed then setCtx s e c (writeCtxItem x i v)
  else s

/-- PEN_CTX_WRITE. -/
def execPenCtxWrite (e : Fin 64) (v : Word) (s : State) : Out := act (live s) s (writeCtx s e.val v)

/-- READBACK_MISMATCH (R142): transient, or lasting with the reaction of PEN_RB_CTL.REACT. -/
def execReadbackMismatch (pin : Fin 512) (again : Bool) (s : State) : Out :=
  let p := pin.val
  let g : Fin 8 := Fin.ofNat 8 (p / 64)
  let own := ownerOf s p
  let e := (own.map (·.1)).getD (8 * g.val)
  let s₁ := bump (satReg (engStat s e 4) 0xA818 16 16) 0x2158
  let s₁ := setReg s₁ 0xA814 (orAll [p, b2n (pinAt s p).level <<< 9, 2 ^ 31])
  let s₂ := match fld s 0xA810 12 2, own with
    | 1, some (e, c) => holdCtx s₁ e c .readback
    | 2, _ => enterChry s₁ g 4 false
    | _, _ => s₁
  act (s.released && (pinAt s p).out && (!(chry s g).active || s.nrg[g].fold)) s
    (if s.nrg[g].fold then engStat s e 5
     else if again then s₂
     else ldgCorr (bump (satReg s 0xA818 0 16) 0x2154))

/-- PEN_RB_COUNT_READ: the counts are returned and cleared. -/
def execPenRbCountRead (s : State) : Out := act (live s) s (answer (setReg s 0xA818 0) (reg s 0xA818))

/-! ## One bc of the engines (R121, R124) -/

/-- A turn of a context that it does not execute in: a skipped turn is counted. -/
def skipTurn (x : Ctx) : Ctx :=
  let back (x : Ctx) : Ctx := if x.st = .delay ∧ x.delay = 0 ∧ x.pause = 0 then { x with st := .run } else x
  if x.delay > 0 then back { x with delay := x.delay - 1 }
  else if x.pause ≠ 0 then back { x with pause := x.pause - 1 } else back x

/-- An ECLK of an engine ends: each wake instruction that still waits counts one deferral (R136). -/
def endEclk (s : State) (e : Nat) : State :=
  let x := eng s e
  let due := x.due.filter fun c =>
    match (ctxAt s e c).wait with
    | some (.met _) => true
    | some .retry => (ctxAt s e c).st == .blocked
    | _ => false
  let s := if penFrozen s e then s else due.foldl (fun s _ => bump s 0xA830) s
  setEng s e { x with reflex := none, due := due, capUsed := false, emtUsed := false }

/-- One ECLK of an engine: the divider, and the turn that its tick gives (R120, R121). -/
def tickEngine (s : State) (e : Nat) : State :=
  let s := endEclk s e
  let x := eng s e
  let div := (reg s (engReg e 4)).toNat
  if ¬ flg s (engReg e 0) 0 ∨ (chry s (groupOfEng e)).active then s
  else if penFrozen s e then setEng s e { x with acc := accAtEnable s e }
  else if x.acc + 0x10000 < div then setEng s e { x with acc := x.acc + 0x10000 }
  else
    let c := x.tick % max 1 (fld s (engReg e 0) 8 7)
    let y := tget {} x.ctxs c
    let ctxs := if y.st = .delay then tput x.ctxs c (skipTurn y) else x.ctxs
    setEng s e { x with acc := x.acc + 0x10000 - div, tick := x.tick + 1, ctxs := ctxs }

/-- One bc of every engine that the configuration lists. -/
def tickEngines (s : State) : State := (s.pen.engines.map (·.1)).foldl tickEngine s

end Sys2Proof.Machine
end

