-- ==== Sys2Proof/Machine/Banks.lean ====
section
/-! DEFINITION. Memory banks: handovers, the moth, row and bank repair, the host window and the shadow loader (R155 to R180). -/
namespace Sys2Proof.Machine

/-- The state with main memory's record changed. -/
def onMem (s : State) (f : Memory → Memory) : State := { s with mem := f s.mem }

/-- The state with a bank's record changed. -/
def onBank (s : State) (b : Fin 32) (f : Bank → Bank) : State :=
  onMem s fun m => { m with banks := m.banks.set b (f m.banks[b]) }

/-- A status bit of a bank is recorded. -/
def bankStat (s : State) (b i : Nat) : State := orReg s (bankReg b 8) ((1 : Word) <<< i)

/-! ## Handover (R157, R158) -/

/-- The bank passes to its new owner at H. The old owner's reservations on it clear (R157, R158). -/
def passBank (s : State) (b : Fin 32) (next : BitVec 5) : State :=
  let old := s.mem.banks[b].owner.toNat
  let clear (e : Nat × Spoke) : Nat × Spoke :=
    match e.2.resv with
    | some w => if clusterOf e.1 = old ∧ bankOf w = b.val then (e.1, { e.2 with resv := none }) else e
    | none => e
  bankStat (onBank { s with spokes := s.spokes.map clear } b fun k => { k with owner := next, pending := none }) b.val 5

/-- A write of OWNER with GO (R157, R158). -/
def handoverGo (s : State) (b : Fin 32) (next : BitVec 5) (atEpoch : Bool) (line : Nat) : State :=
  let s := setReg s (bankReg b.val 0) (orAll [next.toNat * 256, b2n atEpoch * 65536, line % 32 * 2 ^ 17])
  let k := s.mem.banks[b]
  if k.pending.isSome ∨ ¬ ownerCode next.toNat then bankStat s b.val 6
  else if next = k.owner then passBank s b next
  else onBank s b fun k => { k with pending := some ⟨next, if atEpoch then some line else none⟩ }

/-- A write of OWNER with CANCEL: a handover that waits for its epoch ends (R158). -/
def handoverCancel (s : State) (b : Fin 32) : State :=
  match s.mem.banks[b].pending with
  | some ⟨_, some _⟩ => onBank s b fun k => { k with pending := none }
  | _ => s

/-- A memory handover armed on an epoch line starts its drain (R157, R295). -/
def openHandovers (s : State) (line : Nat) : State :=
  onMem s fun m => { m with banks := m.banks.map fun k =>
    match k.pending with
    | some ⟨n, some l⟩ => if l = line then { k with pending := some ⟨n, none⟩ } else k
    | _ => k }

/-- No request of a cluster that owns the bank is outstanding at it (R157). -/
def bankIdle (s : State) (b : Fin 32) : Bool :=
  s.spokes.all fun e => clusterOf e.1 != s.mem.banks[b].owner.toNat ||
    e.2.flight.all fun f => f.device || f.err || f.words.all fun w => bankOf w != b.val

/-- HANDOVER_GO. -/
def execHandoverGo (bank : Fin 32) (next : BitVec 5) (atEpoch : Bool) (line : Fin 32) (s : State) : Out :=
  act (live s) s (handoverGo s bank next atEpoch line.val)
/-- HANDOVER_CANCEL. -/
def execHandoverCancel (bank : Fin 32) (s : State) : Out := act (live s) s (handoverCancel s bank)
/-- HANDOVER_COMPLETE: H of a drain. -/
def execHandoverComplete (bank : Fin 32) (s : State) : Out :=
  match s.mem.banks[bank].pending with
  | some ⟨next, none⟩ => act (bankIdle s bank) s (passBank s bank next)
  | _ => .next s

/-! ## Row and bank repair (R175 to R177) -/

/-- The row of a word in its physical array (R155). -/
def rowOf (s : State) (w : Nat) : RowRef := ⟨physOf s (bankOf w), w % 8, w / 128 % 512⟩

/-- The logical bank that a physical array serves (R176). -/
def servedBy (s : State) (p : Nat) : Option (Fin 32) := (List.finRange 32).find? fun b => s.mem.banks[b].phys == p

/-- The words of a row of a logical bank (R155). -/
def rowWords (b : Nat) (r : RowRef) : List Nat :=
  (List.range 16).map fun c => b * 65536 + r.row * 128 + c * 8 + r.sub

/-- An entry of the remap log (R177): kind, array, sub-array, row, spare row or new array. -/
def remapEntry (s : State) (kind : Nat) (r : RowRef) (x : Nat) : BitVec 64 :=
  BitVec.ofNat 64 (2 ^ 60 + kind <<< 48 + r.phys <<< 42 + r.sub <<< 39 + r.row <<< 30 + x <<< 24 + fld s 0x870 0 24)

/-- Entries that the log may hold (R177). -/
def remapMax : Nat := 2048

/-- Entries that the log holds. -/
def remapLen (m : Memory) : Nat := m.remap[0].length

/-- Entry i as a read takes it: that on which at least two copies agree (R177). -/
def remapAt (m : Memory) (i : Nat) : BitVec 64 :=
  let a := m.remap[0].getD i 0
  let b := m.remap[1].getD i 0
  let c := m.remap[2].getD i 0
  if a = b ∨ a = c then a else if b = c then b else Sys2Proof.Config.remapSplit a b c

/-- An entry in every copy of the log. -/
def pushRemap (m : Memory) (e : BitVec 64) : Memory := { m with remap := m.remap.map (· ++ [e]) }

/-- An entry is appended, or lost to a full log (R177). -/
def appendRemap (s : State) (e : BitVec 64) : State :=
  if remapLen s.mem < remapMax then onMem s fun m => { pushRemap m e with unmir := m.unmir + 1 } else s

/-- A word takes data and bits in error. -/
def putCode (s : State) (w : Nat) (c : CodeWord) : State :=
  onMem s fun m => { m with cells := putBytes m.cells (32 * w) (toBytes 32 c.data.toNat), errs := setErr m.errs w c.err }

/-- A copy reads a word through the decoder and writes it to its new place: what it delivers, or poison for a lasting DUE (R169, R175,
R176). A word known to hold one reads so again. -/
def carryWord (s : State) (w : Nat) (o : ReadOutcome) : State :=
  if poisoned s w then s
  else
    let o : ReadOutcome := if w ∈ s.mem.due then ⟨.due, .due⟩ else o
    match readWord s 0x15 false w o with
    | (t, true) => putCode t w ⟨seenWord s w o, 0⟩
    | (t, false) => onMem t fun m => { m with errs := setErr m.errs w poisonErr, due := m.due.filter (· != w) }

/-- Banks with one more. -/
def addBank (l : List Nat) (b : Nat) : List Nat := if b ∈ l then l else l ++ [b]

/-- A bank copy starts into the lowest idle spare, after a copy in progress has ended; or none remains (R176), which may ask the partner
to take over (R266). -/
def startSparing (s : State) (b : Fin 32) : State :=
  if s.mem.copying.isSome then onMem s fun m => { m with spNeed := addBank m.spNeed b.val, spWait := addBank m.spWait b.val }
  else
    match (List.finRange 34).find? fun p => s.mem.roles[p] == .spare with
    | none => if fld s 0x2108 10 2 = 1 then yieldRole s true else s
    | some p => onMem s fun m => { m with
        copying := some (b.val, p.val), roles := m.roles.set p .target, spNeed := m.spNeed.filter (· != b.val) }

/-- A bank calls for sparing (R176). -/
def needSparing (s : State) (b : Fin 32) : State :=
  if flg s 0x7808 3 then startSparing s b
  else onMem s fun m => { m with spNeed := addBank m.spNeed b.val }

/-- Spare rows used in a sub-array (R175). -/
def rowsUsed (m : Memory) (phys sub : Nat) : Nat :=
  (m.rows.filter fun e => e.1.phys == phys && e.1.sub == sub).length
    + (m.rowCopies.filter fun r => r.phys == phys && r.sub == sub).length

/-- A row copy starts, or the sub-array has no spare row left (R175). -/
def startRowCopy (s : State) (b : Fin 32) (r : RowRef) : State :=
  if r ∈ s.mem.rowCopies then s
  else if rowsUsed s.mem r.phys r.sub < 64 then onMem s fun m => { m with rowCopies := m.rowCopies ++ [r] }
  else needSparing (bankStat s b.val 8) b

/-- A row shows a lasting fault (R175). -/
def rowFault (s : State) (b : Fin 32) (r : RowRef) : State :=
  if flg s 0x7808 2 then startRowCopy s b r
  else onMem s fun m => { m with rowDue := if r ∈ m.rowDue then m.rowDue else m.rowDue ++ [r] }

/-! ## The moth (R171 to R175) -/

/-- The moth runs: memory is powered and written, in a reset of the core domains too (R12, R342). -/
def mothUp (s : State) : Bool := s.mem.initDone && s.pwr.vmemGood

/-- What the moth leaves: during a reset of the core domains their registers stay at their reset values, and memory and the life ledger
take the effect (R12, R347, R348). -/
def mothLeaves (s t : State) : State := if s.coreReset then { t with regs := t.regs.filter fun e => keptReg e.1 } else t

/-- One read of the moth: what it counts and calls for; `fix` is what follows a corrected outcome (R168). -/
def mothRead (s : State) (w : Nat) (o : ReadOutcome) (fix : State → State) : State :=
  if poisoned s w then s
  else match decoded s (bankOf w) (onRead s w o.first) with
    | .clean => s
    | .corr1 | .corr2 => fix s
    | _ => match decoded s (bankOf w) (onRead s w o.again) with
      | .clean => noteTrans s w
      | .corr1 | .corr2 => fix (noteTrans s w)
      | _ => rowFault (noteUnc s 0x15 w false) (Fin.ofNat 32 (bankOf w)) (rowOf s w)

/-- The moth writes the word that it has read back, counted as corrected. -/
def mothWrites (s : State) (w : Nat) (d : MemWord) : State :=
  putCode (onMem (noteCorr s w) fun m => { m with visits := m.visits.filter (· != w) }) w ⟨d, 0⟩

/-- After the write-back the word is read again, and anything but CLEAN is lasting (R168). -/
def mothCorrect (s : State) (w : Nat) (d : MemWord) (after : Ecc) : State :=
  let s := mothWrites s w d
  if decoded s (bankOf w) after = .clean then s else rowFault s (Fin.ofNat 32 (bankOf w)) (rowOf s w)

/-- MOTH_SCRUB_VISIT. -/
def execMothScrubVisit (word : Fin 2097152) (o : ReadOutcome) (after : Ecc) (s : State) : Out :=
  let w := word.val
  act (mothUp s && flg s 0x7808 0) s
    (mothLeaves s (mothRead (onMem s fun m => { m with visits := m.visits.filter (· != w) }) w o
      fun t => mothCorrect t w (seenWord s w o) after))

/-- The register instance that describes a physical array (R180). -/
def arrayInst (s : State) (phys : Nat) : Nat :=
  match servedBy s phys with
  | some b => b.val
  | none => 32 + ((List.range phys).filter fun p => (servedBy s p).isNone).length

/-- A second march failure in a sub-array of a region (R173, R175, R176). -/
def marchFail (phys row : Nat) (s : State) (sub : Nat) : State :=
  let s := bankStat s (arrayInst s phys) 9
  match servedBy s phys with
  | some b =>
    let k := phys * 8 + sub
    let l := tget [] s.mem.marchFails k
    let l := if row ∈ l then l else l ++ [row]
    let s := rowFault (onMem s fun m => { m with marchFails := tput m.marchFails k l }) b ⟨phys, sub, row⟩
    if 64 < l.length then needSparing s b else s
  | none =>
    if h : phys < 34 then
      if s.mem.roles[phys] = .spare then
        appendRemap (onMem s fun m => { m with roles := m.roles.set phys .retired })
          (remapEntry s 3 ⟨phys, sub, row⟩ 0)
      else s
    else s

/-- The 32 words of a march region of a logical bank: 4 columns of a row in each sub-array (R173). -/
def regionWords (b row quarter : Nat) : List Nat :=
  (List.range 32).map fun i => b * 65536 + row * 128 + (4 * quarter + i / 8) * 8 + i % 8

/-- Save and restore of one word: read through the decoder, and written back with fresh check bytes where data was delivered (R173); a
word with a lasting DUE or poison keeps its content (R168, log entry 93). -/
def saveWord (s : State) (w : Nat) (o : ReadOutcome) : State :=
  let lost := decoded s (bankOf w) (onRead s w o.first) == .due && decoded s (bankOf w) (onRead s w o.again) == .due
  let t := mothRead s w o fun t => mothWrites t w (seenWord s w o)
  if poisoned s w ∨ lost then t else putCode t w ⟨seenWord s w o, 0⟩

/-- The words of the region, saved and restored. -/
def saveWords (s : State) : List Nat → List ReadOutcome → State
  | [], _ => s
  | w :: ws, o => saveWords (saveWord s w (o.headD cleanRead)) ws o.tail

/-- The march of a region waits: its array is being copied into, or its row is being copied (R174). -/
def marchWaits (s : State) (phys row : Nat) : Bool :=
  (match s.mem.copying with | some (_, t) => t == phys | none => false)
    || s.mem.rowCopies.any fun r => r.phys == phys && r.row == row

/-- MARCH_REGION: region r is quarter r % 4 of row r / 4 of its array's 512 (log entry 22). -/
def execMarchRegion (region : Fin 69632) (save : List ReadOutcome) (r : MarchResult) (s : State) : Out :=
  let phys := region.val / 2048
  let row := region.val % 2048 / 4
  act (mothUp s && flg s 0x7808 0 && flg s 0x7808 1 && !marchWaits s phys row) s
    (let t := onMem s fun m => { m with
        region := (region.val + 1) % 69632, passes := if region.val = 69631 then m.passes + 1 else m.passes }
     let t := match servedBy s phys with
       | some b => saveWords t (regionWords b.val row (region.val % 4)) save
       | none => t
     mothLeaves s (match r with
       | .lasting subs => ((List.range 8).filter subs.getLsbD).foldl (marchFail phys row) t
       | _ => t))

/-- The words of a row copied in order. -/
def carryWords (s : State) : List Nat → List ReadOutcome → State
  | [], _ => s
  | w :: ws, o => carryWords (carryWord s w (o.headD cleanRead)) ws o.tail

/-- ROW_REMAP: the oldest row copy of the bank's array ends; its remap takes effect and is logged (R175, R177). -/
def execRowRemap (bank : Fin 32) (o : List ReadOutcome) (s : State) : Out :=
  let p := s.mem.banks[bank].phys
  match s.mem.rowCopies.find? fun r => r.phys == p with
  | none => .next s
  | some r =>
    let x := (s.mem.rows.filter fun e => e.1.phys == p && e.1.sub == r.sub).length
    let t := carryWords s (rowWords bank.val r) o
    let t := onMem t fun m => { m with rows := m.rows ++ [(r, x)], rowCopies := m.rowCopies.filter (· != r) }
    act (mothUp s) s (mothLeaves s (appendRemap (bankStat t bank.val 7) (remapEntry t 1 r x)))

/-- MEM_CMD.ROW: the rows recorded for the bank are repaired (R175). -/
def cmdRow (s : State) (b : Fin 32) : State :=
  let p := s.mem.banks[b].phys
  let due := s.mem.rowDue.filter fun r => r.phys == p
  due.foldl (fun s r => startRowCopy s b r) (onMem s fun m => { m with rowDue := m.rowDue.filter fun r => r.phys != p })

/-- MEM_CMD.CLR (R180). -/
def cmdClr (s : State) : State := clrReg (onMem s fun m => { m with spDone := false }) 0x7820 0x80000000

/-- MEM_CMD_ROW. -/
def execMemCmdRow (bank : Fin 32) (s : State) : Out := act (live s) s (cmdRow s bank)
/-- MEM_CMD_SPARE. -/
def execMemCmdSpare (bank : Fin 32) (s : State) : Out := act (live s) s (startSparing s bank)
/-- MEM_CMD_CLR. -/
def execMemCmdClr (s : State) : Out := act (live s) s (cmdClr s)

/-- A map change: the array takes over a logical bank and the old one is retired (R176, R345). -/
def swapMap (s : State) (b : Fin 32) (t : Fin 34) : State :=
  let old := s.mem.banks[b].phys
  onBank (onMem s fun m => { m with roles := (m.roles.setIfInBounds old .retired).set t .service }) b
    fun k => { k with phys := t.val }

/-- The words of a bank that a copy does not simply carry over: those with a listed outcome, with bits in error or with a lasting DUE. -/
def oddWords (s : State) (b : Nat) (o : List (Fin 65536 × ReadOutcome)) : List Nat :=
  (o.map (fun e => 65536 * b + e.1.val) ++ (s.mem.errs.map (·.1)).filter (fun w => bankOf w == b)
    ++ s.mem.due.filter fun w => bankOf w == b).eraseDups

/-- Every word of a bank copied to a spare array (R176). -/
def copyBank (s : State) (b : Nat) (o : List (Fin 65536 × ReadOutcome)) : State :=
  (oddWords s b o).foldl (fun s w =>
    carryWord s w (((o.find? fun e => 65536 * b + e.1.val == w).map (·.2)).getD cleanRead)) s

/-- Sparing that waited for a copy starts, the oldest first (R176). -/
def nextSparing (s : State) : State :=
  match s.mem.spWait with
  | [] => s
  | b :: l => startSparing (onMem s fun m => { m with spWait := l }) (Fin.ofNat 32 b)

/-- BANK_SWAP: the copy is done and the map changes (R176). -/
def execBankSwap (o : List (Fin 65536 × ReadOutcome)) (s : State) : Out :=
  match s.mem.copying with
  | none => .next s
  | some (b, t) =>
    let b : Fin 32 := Fin.ofNat 32 b
    let old := s.mem.banks[b].phys
    let u := copyBank s b.val o
    let u := onMem (swapMap u b (Fin.ofNat 34 t)) fun m => { m with
      copying := none, spDone := true, spNeed := m.spNeed.filter (· != b.val)
      rowCopies := m.rowCopies.filter fun r => r.phys != old, rowDue := m.rowDue.filter fun r => r.phys != old }
    act (mothUp s) s (mothLeaves s (nextSparing (appendRemap (bankStat u b.val 10) (remapEntry u 2 ⟨old, 0, 0⟩ t))))

/-- ACK (R177): the entries up to MEM_REMAP_SEL are mirrored. -/
def ackRemap (s : State) : State :=
  onMem s fun m => { m with unmir := min m.unmir (remapLen m - (fld s 0x782C 0 11 + 1)) }

/-- REMAP_ACK. -/
def execRemapAck (s : State) : Out := act (live s) s (ackRemap s)

/-! ## The host window (R178) -/

/-- ADDR advances by 4 with AUTOINC (R178). -/
def hostAdvance (s : State) : State :=
  if flg s 0x783C 31 then setReg s 0x783C (putBits (reg s 0x783C) 0 26 (fld s 0x783C 0 26 + 4)) else s

/-- A read of MEM_HOST_DATA (R178): the value, none where it is refused or fails. -/
def hostDataRead (s : State) (o : ReadOutcome) : State × Option Word :=
  let r := memLoad s reqHOST (fld s 0x783C 2 24 * 4) 4 (oneRead o)
  match r.2 with
  | some d => (hostAdvance r.1, some (BitVec.ofNat 32 d))
  | none => (r.1, none)

/-- A write of MEM_HOST_DATA (R178): whether it took effect. -/
def hostDataWrite (s : State) (v : Word) (o : ReadOutcome) : State × Bool :=
  let r := memStore s reqHOST none (fld s 0x783C 2 24 * 4) (toBytes 4 v.toNat) (oneRead o)
  (if r.2 then hostAdvance r.1 else r.1, r.2)

/-- MEM_HOST_DATA_READ. -/
def execMemHostDataRead (o : ReadOutcome) (s : State) : Out :=
  let r := hostDataRead s o
  act (memReady s) s (match r.2 with | some w => answer r.1 w | none => hostRefuse r.1 0x7840 false 4)
/-- MEM_HOST_DATA_WRITE. -/
def execMemHostDataWrite (v : Word) (o : ReadOutcome) (s : State) : Out :=
  let r := hostDataWrite s v o
  act (memReady s) s (if r.2 then answer r.1 0 else hostRefuse r.1 0x7840 true 4)

/-! ## The shadow loader (R179) -/

/-- One halfword of the image goes to the shadow bank of an engine, or of its relocation table (R138, R179). -/
def penldEntry (s : State) (e : Nat) (reloc : Bool) (i : Nat) (v : Nat) : State :=
  let x := eng s e
  let k := b2n (!x.active) * 256 + i
  let h : BitVec 16 := BitVec.ofNat 16 v
  if reloc then setEng s e { x with reloc := tput x.reloc k (h.setWidth 8, h.getLsbD 8) }
  else setEng s e { x with store := tput x.store k ⟨h.setWidth 12, h.getLsbD 12, h.getLsbD 13, false⟩ }

/-- Word i of the source: its 16 halfwords are copied, up to a number of entries, unless the read fails or is refused. -/
def penldWord (o : List ReadOutcome) (limit e src : Nat) (r : State × Bool) (i : Nat) : State × Bool :=
  let s := r.1
  let w := src + i
  if r.2 ∧ 16 * i < limit then
    if mayAccess s reqPEN (bankOf w) false then
      match readWord s reqPEN false w (o.getD i cleanRead) with
      | (t, true) =>
        ((List.range (min 16 (limit - 16 * i))).foldl (fun t j =>
          penldEntry t e (decide (16 ≤ i)) (i % 16 * 16 + j) ((seenWord s w (o.getD i cleanRead)).toNat >>> (16 * j) % 65536)) t, true)
      | (t, false) => (t, false)
    else (noteNown s reqPEN (bankOf w), false)
  else r

/-- The copy of a running shadow load, up to a number of entries. A pending switch makes the engine refuse (R138). -/
def penldCopy (s : State) (o : List ReadOutcome) (limit : Nat) : State × Bool :=
  let r := reg s 0x7844
  let e := bits r 21 6
  if (eng s e).pending then (engStat s e 3, false)
  else (List.range (if bit r 27 then 32 else 16)).foldl (penldWord o limit e (bits r 0 21)) (s, true)

/-- The copy ends: BUSY falls, and ERR shows a failure. -/
def endPenld (s : State) (ok : Bool) : State :=
  setReg s 0x7844 (putBit (putBit (reg s 0x7844) 30 false) 29 (flg s 0x7844 29 || !ok))

/-- A write of MEM_PENLD (R179): ERR clears by one; GO starts a copy, and stops the one that runs, at one entry per bc since its GO. -/
def writePenld (s : State) (v : Word) : State :=
  let old := reg s 0x7844
  let old := if bit v 29 then putBit old 29 false else old
  if bit old 30 then
    let s := setReg s 0x7844 old
    if bit v 31 then endPenld (penldCopy s [] s.mem.penldAge).1 false else s
  else
    let s := setReg s 0x7844 ((old &&& 0x20000000) ||| (v &&& 0x0FFFFFFF) ||| (if bit v 31 then 0x40000000 else 0))
    if bit v 31 then onMem s fun m => { m with penldAge := 0 } else s

/-- PENLD_GO. -/
def execPenldGo (v : Word) (s : State) : Out := act (live s && bit v 31) s (writePenld s v)
/-- PENLD_DONE. -/
def execPenldDone (o : List ReadOutcome) (s : State) : Out :=
  let r := penldCopy s o 512
  act (memReady s && flg s 0x7844 30) s (endPenld r.1 r.2)

/-! ## Counters that clear on read (R6, R180) -/

/-- MEM_ERRCNT_READ. -/
def execMemErrcntRead (bank : Fin 34) (s : State) : Out :=
  act (live s) s (answer (setReg s (bankReg bank.val 0xC) 0) (reg s (bankReg bank.val 0xC)))

/-- NOWN as it reads, and as a read leaves it: COUNT clears, LAST stays. Instances 32 and 33 read zero (R180). -/
def nownView (s : State) (b : Nat) : Word := if b < 32 then reg s (bankReg b 0x10) else 0

/-- MEM_NOWN_READ. -/
def execMemNownRead (bank : Fin 34) (s : State) : Out :=
  act (live s) s (answer (clrReg s (bankReg bank.val 0x10) 0xFFFF) (nownView s bank.val))

end Sys2Proof.Machine
end

