-- ==== Sys2Proof/Machine/LockUnit.lean ====
section
/-! DEFINITION. The lock unit: losses, requests of pin engine contexts, and the commands of the host and the debugger (R181 to
R190). -/
namespace Sys2Proof.Machine

/-- LOCK_HOLDER_LOSS (R189): a loss reaches the unit. -/
def execLockHolderLoss (who : BitVec 16) (s : State) : Out :=
  act (s.lck.losses.contains who) s
    (let s := loseHolder { s with lck := { s.lck with losses := s.lck.losses.filter (· != who) } } who
     if who = lockIdHOST then
       { setReg s 0x6038 (putBit (reg s 0x6038) 16 false) with lck := { s.lck with hostPend := none } }
     else s)

/-- What the unit decides on a context's request word (R185): the reply, none where an LCK queues. -/
def decideCtx (s : State) (who : BitVec 16) (w : Word) : State × Option Word :=
  let a := bits w 2 24 * 4
  if bits w 30 2 = 3 ∨ bits w 26 4 ≠ 0 ∨ bits w 0 2 ≠ 0 then (s, some (lockStatus 7 0))
  else if bits w 30 2 = 2 then ((lockRelease s who a).1, some (lockRelease s who a).2)
  else lockAcquire s who a (bits w 30 2 = 1)

/-- PEN_LOCK_REQUEST (R185): while a reply to the context waits, no request of it is read. A request of a lost context is decided as any
other; what it is granted is a further loss, and its status is discarded (R189). -/
def execPenLockRequest (x : CtxId) (s : State) : Out :=
  let e := x.engine.val
  let c := x.ctx.val
  match (ctxAt s e c).outCh with
  | none => .next s
  | some ch =>
    if (chan s ch).reader.kind = .lock ∧ ctxReplies s e c = [] then
      match popWord s ch with
      | none => .next s
      | some (w, s) =>
        let r := decideCtx s (lockIdCtx e c) w.word
        .next (if ctxLost s e c then noteLoss r.1 (lockIdCtx e c)
          else match r.2 with
            | some v => replyCtx r.1 e c v
            | none => r.1)
    else .next s

/-- LOCK_REPLY_DELIVER (R185). -/
def execLockReplyDeliver (x : CtxId) (s : State) : Out :=
  let e := x.engine.val
  let c := x.ctx.val
  match ctxReplies s e c, (ctxAt s e c).inCh with
  | w :: l, some ch => act (entryRoom s ch != 0) s (token (setReplies s e c l) ch w).1
  | _, _ => .next s

/-- LCK_HOST_ADDR. -/
def hostLockAddr (s : State) : Nat := fld s 0x6030 2 24 * 4

/-- A host command is refused (HREF). -/
def hostLockRefused (s : State) : State := orReg s 0x600C 0x10

/-- An ACQ or a TRY of the host (R185). -/
def hostAcquire (s : State) (try_ : Bool) : State :=
  if s.lck.hostPend.isSome then hostLockRefused s
  else
    let a := hostLockAddr s
    let r := lockAcquire s lockIdHOST a try_
    match r.2 with
    | some w => setReg r.1 0x6038 (w &&& 0xFFFF)
    | none =>
      { setReg r.1 0x6038 (putBit (reg r.1 0x6038) 16 true) with lck := { r.1.lck with hostPend := some a } }

/-- A REL of the host. -/
def hostRelease (s : State) : State :=
  if s.lck.hostPend.isSome then hostLockRefused s
  else
    let r := lockRelease s lockIdHOST (hostLockAddr s)
    setReg r.1 0x6038 (r.2 &&& 0xFFFF)

/-- A CANCEL of the host: it withdraws a queued ACQ, or is refused. -/
def hostCancel (s : State) : State :=
  if s.lck.hostPend.isSome then
    let s := leaveQueues s lockIdHOST
    { setReg s 0x6038 (putBit (reg s 0x6038) 16 false) with lck := { s.lck with hostPend := none } }
  else hostLockRefused s

/-- LCK_HOST_ACQ. -/
def execLckHostAcq (s : State) : Out := act (live s) s (hostAcquire s false)
/-- LCK_HOST_TRY. -/
def execLckHostTry (s : State) : Out := act (live s) s (hostAcquire s true)
/-- LCK_HOST_REL. -/
def execLckHostRel (s : State) : Out := act (live s) s (hostRelease s)
/-- LCK_HOST_CANCEL. -/
def execLckHostCancel (s : State) : Out := act (live s) s (hostCancel s)

/-- A FORCE of the debug bus master, on an entry HELD_BY_HALTED (R190). -/
def lockForce (s : State) (i : Nat) : State :=
  if (lockEnt s i).st = .halted then orReg (loseLock s i) 0x600C 0x20 else s

/-- A CLEAR, on an ABANDONED entry (R190). -/
def lockClear (s : State) (i : Nat) : State :=
  if (lockEnt s i).st = .abandoned then setLockEnt s i {} else s

/-- LCK_FORCE. -/
def execLckForce (index : Fin 4096) (s : State) : Out := act (live s) s (lockForce s index.val)
/-- LCK_CLEAR. -/
def execLckClear (index : Fin 4096) (s : State) : Out := act (live s) s (lockClear s index.val)

end Sys2Proof.Machine
end

