-- ==== Sys2Proof/Machine/Power.lean ====
section
/-! DEFINITION. Power management and field energy limits: rails, downshift, temperature, aging, the life ledger, PMBus and the
governor (R233 to R253). -/
namespace Sys2Proof.Machine

/-- A status bit of PWR_STAT is recorded. -/
def pwrStat (s : State) (i : Nat) : State := orReg s 0x80C ((1 : Word) <<< i)

/-- A lasting fault counts block-wide, while the core domains run (R256, R275). -/
def lastingFault (s : State) : State := if s.coreReset then s else bump s 0x2158

/-- A repeat that succeeds counts as a transient fault (R256). -/
def transientFault (s : State) : State := if s.coreReset then s else bump s 0x2154

/-- What the end of a transfer or measurement counts (R256). -/
def countEnd (s : State) : XferEnd → State
  | .clean => s
  | .retried => transientFault s
  | .failed => lastingFault s

/-- The state with the power manager's record changed. -/
def onPwr (s : State) (f : Power → Power) : State := { s with pwr := f s.pwr }

/-- Downshift is in effect (R236). -/
def downshift (s : State) : Bool := s.pwr.dsSag || s.pwr.dsTherm || s.pwr.dsForced

/-- A saturating 32-bit counter register counts one event. -/
def satWord (s : State) (off : Nat) : State := satReg s off 0 32

/-- A change of downshift causes; an entry into downshift is counted (R236). -/
def changeDs (s : State) (f : Power → Power) : State :=
  let t := onPwr s f
  if !downshift s && downshift t then satWord t 0x89C else t

/-- PWR_SAG_MIN takes the lowest VCORE of a sag (R236). -/
def sagMin (s : State) (mv : BitVec 16) : State :=
  if mv.toNat < fld s 0x824 0 16 then setReg s 0x824 (mv.setWidth 32) else s

/-- The set point that gives the VCORE levels: the lower of old and new while it changes (R234). -/
def levelRef (s : State) : Nat :=
  if s.pwr.vsetWait = 0 then s.pwr.vset.toNat else min s.pwr.vset.toNat s.pwr.vsetOld.toNat

/-- VCORE below a level given in percent of the set point (R233, R234). -/
def belowLevel (s : State) (mv percent : Nat) : Bool := decide (mv * 100 < levelRef s * percent)

/-- SAG (R236, R237, R238): VCORE below −7 %. A new sag is counted; a dip below −12 % is recorded as DEEP. -/
def execSag (mv : BitVec 16) (s : State) : Out :=
  act (belowLevel s mv.toNat 93) s
    (let t := sagMin (onPwr s fun p => { p with vmeas := mv.setWidth 10, sagAge := 0 }) mv
     let t := if belowLevel s mv.toNat 88 then pwrStat t 9 else t
     if s.pwr.dsSag then t
     else changeDs (ldgUp (satWord (pwrStat t 8) 0x820) 0x878) fun p => { p with dsSag := true })

/-- Every sensor reads below WARN − 2 °C (R237, R239). -/
def sensorsCool (s : State) : Bool :=
  s.pwr.temps.all fun t => decide (t.toInt < (BitVec.ofNat 12 (fld s 0x830 0 12)).toInt - 8)

/-- The sag clears: VCORE has stood above −6 % and its filter for 2,000 bc, all of them since it last crossed its warning level (R237). -/
def sagOver (s : State) (above : Nat) : Bool := s.pwr.dsSag && decide (2000 ≤ above ∧ above ≤ s.pwr.sagAge)

/-- DOWNSHIFT_EXIT (R237): the causes that have cleared leave; from the end of a sag no downward step is taken for 1 s (R235). -/
def execDownshiftExit (above : Nat) (s : State) : Out :=
  act (downshift s) s (onPwr s fun p =>
    { p with
      dsSag := p.dsSag && !sagOver s above, sagHold := if sagOver s above then 1000000000 else p.sagHold
      dsTherm := p.dsTherm && !sensorsCool s, dsForced := p.dsForced && flg s 0x808 0 })

/-- FORCE_DS written (R236, R237). -/
def writeForceDs (s : State) (on : Bool) : State :=
  changeDs (setReg s 0x808 (putBit 0 0 on)) fun p => { p with dsForced := on }

/-- PWR_FORCE_DS. -/
def execPwrForceDs (on : Bool) (s : State) : Out := .next (writeForceDs s on)

/-- SAG_MIN_RESTART (R236). -/
def execSagMinRestart (s : State) : Out := .next (setReg s 0x824 0xFFFF)

/-- VCORE_RESET (R236, R238): VCORE below −12 % for 20 bc. -/
def execVcoreReset (mv : BitVec 10) (s : State) : Out :=
  act (s.pwr.vcoreGood && belowLevel s mv.toNat 88) s
    (let s := if s.pwr.dsSag then sagMin s (mv.setWidth 16) else s
     coreResetNow (pwrStat (satReg (onPwr s fun p => { p with vmeas := mv, vcoreGood := false }) 0x82C 0 16) 10) 1)

/-- The larger of two signed readings. -/
def hotter (a b : BitVec 12) : BitVec 12 := if a.toInt < b.toInt then b else a

/-- A swing of the sensor mean: 40 °C up from a minimum and 40 °C down again, in units of 1/32 °C (R241). -/
def swing (s : State) (m : Int) : State :=
  let p := s.pwr
  if p.swingUp then
    if m ≤ p.swingMax - 1280 then ldgUp (onPwr s fun p => { p with swingUp := false, swingMin := m }) 0x874
    else onPwr s fun p => { p with swingMax := max m p.swingMax }
  else if p.swingMin + 1280 ≤ m then onPwr s fun p => { p with swingUp := true, swingMax := m }
  else onPwr s fun p => { p with swingMin := min m p.swingMin }

/-- The sum of the readings, in units of 1/32 °C of their mean. -/
def tempSum (t : Vector (BitVec 12) 8) : Int := (t.toList.map fun x => x.toInt).sum

/-- TEMP_SAMPLE (R237, R239, R241). -/
def execTempSample (t : Vector (BitVec 12) 8) (s : State) : Out :=
  let top := t.toList.foldl hotter t[0]
  let warn := (BitVec.ofNat 12 (fld s 0x830 0 12)).toInt
  let trip := (BitVec.ofNat 12 (fld s 0x830 16 12)).toInt
  let s := onPwr s fun p =>
    { p with temps := t, tempMax := some ((p.tempMax.map (hotter · top)).getD top), hourSum := p.hourSum + tempSum t, hourN := p.hourN + 1 }
  let s := swing s (tempSum t)
  let s := if sensorsCool s then onPwr s fun p => { p with dsTherm := false, tripHold := false } else s
  let s := if warn ≤ top.toInt then changeDs (pwrStat s 12) fun p => { p with dsTherm := true } else s
  .next (if trip ≤ top.toInt then
      coreResetNow (onPwr (setReg (pwrStat s 13) 0x894 (top.setWidth 32)) fun p => { p with tripHold := true }) 2
    else s)

/-- The worst margin of the monitors that count (R235, R240). -/
def worstMargin (margins : Vector (BitVec 16) 16) (excluded : BitVec 16) : Option Int :=
  (margins.toList.zipIdx.filter fun e => !excluded.getLsbD e.2).foldl
    (fun m e => match m with
      | none => some e.1.toInt
      | some x => some (min x e.1.toInt)) none

/-- The set point moves at most 5 mV toward a goal held within MIN and MAX (R235). -/
def stepPoint (s : State) (goal : Nat) : Nat :=
  let v := s.pwr.vset.toNat
  let goal := max (fld s 0x810 12 10) (min (fld s 0x810 22 10) goal)
  if v < goal then min goal (v + 5) else max goal (v - 5)

/-- The goal of the next step: by the worst margin with AUTO = 1, PWR_VCORE_SET with AUTO = 0 (R235). -/
def avsGoal (s : State) : Nat :=
  let v := s.pwr.vset.toNat
  if flg s 0x810 0 then
    match worstMargin s.pwr.margins s.pwr.excluded with
    | none => v
    | some m =>
      if m < 10 * fld s 0x810 1 7 then v + 5
      else if 10 * (fld s 0x810 1 7 + fld s 0x810 8 4) < m then
        (if downshift s || s.pwr.sagHold != 0 then v else v - 5)
      else v
  else fld s 0x814 0 10

/-- A new set point: until the regulator reports it reached, for at most 100 µs, the old one counts too (R234). -/
def setPoint (s : State) (mv : BitVec 10) : State :=
  if mv = s.pwr.vset then s
  else onPwr { s with free := s.free + 1 } fun p =>
    { p with vset := mv, vsetOld := p.vset, vsetWait := min 100000 (Sys2Proof.Config.avsReached s.free) }

/-- AVS_STEP (R235, R245): at most one step in 10 ms. -/
def execAvsStep (r : XferEnd) (s : State) : Out :=
  act (s.pwr.avsWait == 0) s
    (let s := onPwr (countEnd s r) fun p => { p with avsWait := 10000000 }
     if r = .failed then pwrStat s 14 else setPoint s (BitVec.ofNat 10 (stepPoint s (avsGoal s))))

/-- A monitor's margin in 0.01 % over its reference (R240); with a reference of 0 the manual states none. -/
def exactMargin (count ref : Word) : Int :=
  if ref = 0 then (Sys2Proof.Config.ageMargin count ref).toInt else (count.toNat - ref.toNat : Int) * 10000 / ref.toNat

/-- A value fits 16 signed bits. -/
def fits16 (m : Int) : Bool := decide (-32768 ≤ m ∧ m ≤ 32767)

/-- A monitor's margin as PWR_AGE_DATA holds it; outside the field the manual states no value (log entry 40). -/
def ageMargin (count ref : Word) : BitVec 16 :=
  if fits16 (exactMargin count ref) then BitVec.ofInt 16 (exactMargin count ref) else Sys2Proof.Config.ageMargin count ref

/-- A margin as the ledger holds it: it saturates (R241). -/
def satMargin (m : Int) : Int := max (-32768) (min 32767 m)

/-- The worst margin of a pass goes into the ledger beside the lowest ever measured (R241). -/
def noteMargin (s : State) (m : Int) : State :=
  let w := satMargin m
  let low := if s.pwr.marginSet then min (BitVec.ofNat 16 (fld s 0x880 16 16)).toInt w else w
  let s := onPwr (setReg s 0x880 (orAll [(BitVec.ofInt 16 w).toNat, (BitVec.ofInt 16 low).toNat * 65536])) fun p =>
    { p with marginSet := true }
  if fits16 m then s else pwrStat s 17

/-- The lowest of some margins. -/
def lowest : List Int → Option Int
  | [] => none
  | m :: l => some (l.foldl min m)

/-- The set bits of a mask of the monitors. -/
def monitors (mask : BitVec 16) : List Nat := (List.range 16).filter mask.getLsbD

/-- AGING_MEASURE (R240, R241, R256). -/
def execAgingMeasure (counts : Vector (BitVec 32) 16) (again bad : BitVec 16) (s : State) : Out :=
  let m := Vector.ofFn fun i : Fin 16 =>
    if bad.getLsbD i.val then s.pwr.margins[i] else ageMargin counts[i] s.pwr.ageRef[i]
  let worst := lowest (((List.finRange 16).filter fun i => !bad.getLsbD i.val).map fun i => exactMargin counts[i] s.pwr.ageRef[i])
  let s := onPwr s fun p => { p with margins := m, excluded := bad }
  let s := (monitors (again &&& ~~~bad)).foldl (fun s _ => transientFault s) s
  let s := (monitors bad).foldl (fun s _ => lastingFault s) s
  let s := if bad ≠ 0 then pwrStat s 14 else s
  .next (match worst with
    | none => s
    | some w => noteMargin s w)

/-- The 48 degree-hours of the ledger (R241). -/
def ledgerTdh (s : State) : Nat := (reg s 0x884).toNat + fld s 0x888 0 16 * 2 ^ 32

/-- LEDGER_HOUR (R241, R242). -/
def execLedgerHour (s : State) : Out :=
  let p := s.pwr
  let mean : Int := if p.hourN = 0 then tempSum p.temps / 32 else p.hourSum / (32 * p.hourN)
  let sum : Int := ledgerTdh s + mean
  let n := min (2 ^ 48 - 1) sum.toNat
  let s := if p.vcoreGood then ldgUp s 0x870 else s
  let s := if (2 ^ 48 - 1 : Int) < sum then pwrStat s 17 else s
  let s := setReg (setReg s 0x884 (BitVec.ofNat 32 n)) 0x888 (BitVec.ofNat 32 (n / 2 ^ 32))
  .next (pwrStat (onPwr s fun p => { p with hourSum := 0, hourN := 0 }) 18)

/-! ## PMBus (R243 to R245). A step's transfers are made as the step begins, a raw command's and a poll's when its row comes, so no two
pend at one moment for a port and the order of service is timing (log entry 92). -/

/-- The commands of PMBus 1.3 that the block sends: PAGE, OPERATION, READ_VOUT, READ_IOUT, READ_TEMPERATURE_1, STATUS_WORD (PRESUMED from
that standard, log entry 92). -/
def cmdPage : BitVec 8 := 0x00
def cmdOperation : BitVec 8 := 0x01
def cmdStatusWord : BitVec 8 := 0x79
def pollCmds : List (BitVec 8) := [0x8B, 0x8C, 0x8D, cmdStatusWord]

/-- A transfer under PMB_CTL. -/
def xfer (s : State) (addr : BitVec 7) (cmd : BitVec 8) (data : BitVec 16) (read : Bool) : PmbXfer :=
  { addr, cmd, data, read, fast := flg s 0x84C 0, pec := flg s 0x84C 1 }

/-- A port has made these transfers. -/
def onBus (s : State) (port : Bool) (l : List PmbXfer) : State :=
  onPwr s fun p => { p with bus := p.bus.set (if port then 1 else 0) l (by split <;> decide) }

/-- A lasting failure of a transfer (R245): address and port of the low byte, and the command. -/
def pmbFail (s : State) (addrPort : Nat) (cmd : BitVec 8) : State :=
  lastingFault (setReg (pwrStat s 15) 0x868 (orAll [addrPort % 256, cmd.toNat * 256]))

/-- How a transfer ends (R245, R256). -/
def endXfer (s : State) (addrPort : Nat) (cmd : BitVec 8) : XferEnd → State
  | .clean => s
  | .retried => transientFault s
  | .failed => pmbFail s addrPort cmd

/-- The valid entries of the sequence table, ascending. -/
def seqEntries (s : State) : List Nat :=
  (List.finRange 32).filterMap fun i => if bit s.pwr.seqTab[i] 31 then some i.val else none

/-- An entry of the sequence table (R244). -/
def seqEntry (s : State) (i : Nat) : Word := (s.pwr.seqTab.toArray[i]?).getD 0

/-- An entry sends PAGE. -/
def sendsPage (e : Word) : Bool := bits e 8 8 != 0xFF

/-- The transfers of a step: PAGE, then OPERATION (R244). -/
def stepXfers (s : State) (up : Bool) (e : Word) : List PmbXfer :=
  (if sendsPage e then [xfer s (e.setWidth 7) cmdPage (BitVec.ofNat 16 (bits e 8 8)) false] else [])
    ++ [xfer s (e.setWidth 7) cmdOperation (if up then 0x80 else 0) false]

/-- The sequence goes on with these entries: the first one's step begins (R244). -/
def beginStep (s : State) (up : Bool) : List Nat → State
  | [] => onPwr s fun p => { p with seqRun := none }
  | i :: rest =>
    let e := seqEntry s i
    onBus (onPwr s fun p => { p with seqRun := some (up, i :: rest), seqAge := 0 }) (bit e 7) (stepXfers s up e)

/-- A sequence command: refused while a sequence runs (R244). -/
def startSeq (s : State) (up : Bool) : State :=
  if s.pwr.seqRun.isSome then onPwr s fun p => { p with seqRef := true }
  else beginStep (onPwr s fun p => { p with seqRef := false }) up (if up then seqEntries s else (seqEntries s).reverse)

/-- PMB_UP. -/
def execPmbUp (s : State) : Out := .next (startSeq s true)
/-- PMB_DOWN. -/
def execPmbDown (s : State) : Out := .next (startSeq s false)

/-- The ms for which a step reads STATUS_WORD at most: none going down (R244). -/
def goodWait (up : Bool) (e : Word) : Nat := if up then bits e 24 4 else 0

/-- The transfer of a step that has failed for good (R244, R245). -/
def stepFailure (up : Bool) (e : Word) (r : SeqResult) : Option (BitVec 8) :=
  if sendsPage e ∧ r.page = .failed then some cmdPage
  else if r.op = .failed then some cmdOperation
  else if goodWait up e ≠ 0 ∧ r.status = .failed then some cmdStatusWord
  else none

/-- The repeats of a step that have succeeded. -/
def stepRetries (up : Bool) (e : Word) (r : SeqResult) : Nat :=
  b2n (sendsPage e && r.page == .retried) + b2n (r.op == .retried) + b2n (goodWait up e != 0 && r.status == .retried)

/-- POWER_GOOD# has cleared within the wait, or none is asked for (R244). -/
def goodInTime (up : Bool) (e : Word) (r : SeqResult) : Bool :=
  goodWait up e == 0 || (match r.good with | some n => decide (n ≤ goodWait up e) | none => false)

/-- bc from the start of a step to its end: up to a failure, the expired wait, or the wait and the delay (R244). -/
def stepTime (up : Bool) (e : Word) (r : SeqResult) : Nat :=
  let ms : Nat := 1000000
  let wait := if goodWait up e = 0 then 0 else if goodInTime up e r then r.good.getD 0 else goodWait up e
  let delay := if up ∧ ((stepFailure up e r).isSome ∨ ¬ goodInTime up e r) then 0 else bits e 16 8 * 100000
  (if (stepFailure up e r).isSome then 0 else wait * ms) + delay

/-- The end of a step and the start of the next: up stops at a failing step, down goes on (R244). -/
def endStep (s : State) (up : Bool) (i : Nat) (rest : List Nat) (r : SeqResult) : State :=
  let e := seqEntry s i
  let s := (List.range (stepRetries up e r)).foldl (fun s _ => transientFault s) s
  match stepFailure up e r with
  | some c => beginStep (pmbFail s (bits e 0 8) c) up (if up then [] else rest)
  | none => if goodInTime up e r then beginStep s up rest else beginStep (pwrStat s 15) up []

/-- PMB_SEQ_STEP. -/
def execPmbSeqStep (r : SeqResult) (s : State) : Out :=
  match s.pwr.seqRun with
  | some (up, i :: rest) => act (decide (stepTime up (seqEntry s i) r ≤ s.pwr.seqAge)) s (endStep s up i rest r)
  | _ => .next s

/-- Host software calls for a raw transfer through PMB_CMD; an accepted command clears REF (R243, R252). -/
def callRaw (s : State) (read : Bool) : State :=
  onPwr s fun p => { p with seqRef := false, rawDue := p.rawDue ++ [(read, reg s 0x864)] }

/-- The raw transfer that is made: the oldest called for where it is of this kind, else a new one of PMB_RAW. -/
def rawWord (s : State) (read : Bool) : Word :=
  match s.pwr.rawDue with
  | (r, w) :: _ => if r = read then w else reg s 0x864
  | [] => reg s 0x864

/-- A raw transfer is made (R243, R245). -/
def rawXfer (s : State) (read : Bool) (r : XferEnd) : State :=
  let w := rawWord s read
  let rest := match s.pwr.rawDue with
    | (q, w') :: l => if q = read then l else (q, w') :: l
    | [] => []
  let s := onBus (onPwr s fun p => { p with seqRef := false, rawDue := rest }) (bit w 7)
    [xfer s (w.setWidth 7) (w.extractLsb' 8 8) (if read then 0 else w.extractLsb' 16 16) read]
  endXfer s (bits w 0 8) (w.extractLsb' 8 8) r

/-- PMB_RAW. -/
def execPmbRaw (r : XferEnd) (s : State) : Out := .next (rawXfer s false r)
/-- PMB_RAWRD: the data read come into PMB_RAW[31:16]. -/
def execPmbRawrd (r : XferEnd) (data : BitVec 16) (s : State) : Out :=
  let t := rawXfer s true r
  .next (if r = .failed then t else setReg t 0x864 (putBits (reg t 0x864) 16 16 data.toNat))

/-- The bits of a STATUS_WORD that report a fault: all but BUSY, OFF and POWER_GOOD# (PRESUMED, log entry 21). -/
def statusFaults : BitVec 16 := 0xF73F

/-- One read of a poll: item k of entry i (R245). -/
def pollRead (s : State) (i : Fin 32) (k : Fin 4) (r : XferEnd) (v : BitVec 16) : State :=
  let s := endXfer s (bits s.pwr.seqTab[i] 0 8) (pollCmds.getD k.val 0) r
  if r = .failed then s
  else
    let s := onPwr s fun p => { p with tel := tput p.tel i.val ((tget (Vector.replicate 4 0) p.tel i.val).set k v) }
    if k = 3 ∧ v &&& statusFaults ≠ 0 then pwrStat s 16 else s

/-- One entry of a poll: its four reads in order (R245). -/
def pollOne (s : State) (r : PollResult) : State :=
  let e := s.pwr.seqTab[r.entry]
  let s := onBus s (bit e 7) (pollCmds.map fun c => xfer s (e.setWidth 7) c 0 true)
  (List.finRange 4).foldl (fun s k => pollRead s r.entry k r.ends[k] r.vals[k]) s

/-- The entries that are polled (R244, R245). -/
def telEntries (s : State) : List (Fin 32) := (List.finRange 32).filter fun i => bit s.pwr.seqTab[i] 28

/-- PMB_POLL: every entry with TEL = 1 is read. -/
def execPmbPoll (r : List PollResult) (s : State) : Out :=
  act (flg s 0x84C 2 && r.map (·.entry) == telEntries s) s (r.foldl pollOne s)

/-! ## The governor (R246 to R250) -/

/-- Registers of group g. -/
def nrgReg (g r : Nat) : Nat := 0xC00 + 0x40 * g + r

/-- A status bit of a group is recorded. -/
def nrgStat (s : State) (g : Fin 8) (i : Nat) : State := orReg s (nrgReg g.val 0x14) ((1 : Word) <<< i)

/-- The state with a group's record changed. -/
def onNrg (s : State) (g : Fin 8) (f : NrgGroup → NrgGroup) : State := { s with nrg := s.nrg.set g (f s.nrg[g]) }

/-- The rail that NRG_GRPg_CTL.VIO selects, in mV (R233). -/
def vioLevel (s : State) (g : Fin 8) : Nat := if flg s (nrgReg g.val 0x10) 0 then 3300 else 1800

/-- VIO_GOOD (R234, R145, R146): the rail has stood above 90 % of the selected level; a 1.8 V rail with 3.3 V selected never does (R361). -/
def execVioGood (g : Fin 8) (mv : BitVec 12) (s : State) : Out :=
  act (!s.nrg[g].vioGood && decide (90 * vioLevel s g < 100 * mv.toNat)) s (enterVio (onNrg s g fun n => { n with vioGood := true }) g)

/-- VIO_LOST (R146, R234): below 89 % of the selected level; chrysalis mode with cause 0b001, and UNPWR. -/
def execVioLost (g : Fin 8) (mv : BitVec 12) (s : State) : Out :=
  act (s.nrg[g].vioGood && decide (100 * mv.toNat < 89 * vioLevel s g)) s
    (let s := nrgStat (onNrg s g fun n => { n with vioGood := false }) g 5
     let s := enterChry s g 1 false
     let s := setChry s g { chry s g with vioLoss := (chry s g).vioLoss || !s.coreReset }
     drivePins s g 0 63 fun _ => pinOfCode .float)

/-- The largest value that the straps allow for a limit (R247). -/
def limitCap (s : State) (g : Fin 8) (l : NrgLimit) : Nat :=
  match l with
  | .pin => min 16 s.nrg[g].straps.io.toNat - 1
  | .current => s.nrg[g].straps.io.toNat
  | .energy => s.nrg[g].straps.po.toNat

/-- A limit written: at most what the straps allow, with LIMREF where it is reduced (R247). -/
def writeLimit (s : State) (g : Fin 8) (l : NrgLimit) (v : Word) : State :=
  let w := match l with | .pin => bits v 0 4 | .current => bits v 0 10 | .energy => bits v 0 16
  let a := min w (limitCap s g l)
  let s := if a < w then nrgStat s g 4 else s
  onNrg s g fun n =>
    match l with
    | .pin => { n with pinLim := n.pinLim.set (Fin.ofNat 64 (fld s (nrgReg g.val 0x18) 0 6)) (BitVec.ofNat 4 a) }
    | .current => { n with limI := BitVec.ofNat 10 a }
    | .energy => { n with limE := BitVec.ofNat 16 a }

/-- NRG_LIMIT_WRITE. -/
def execNrgLimitWrite (g : Fin 8) (limit : NrgLimit) (v : Word) (s : State) : Out := .next (writeLimit s g limit v)

/-- The level of VIO above which a group exceeds, in mV: the lower of Uo and 110 % of the selected level (R249). -/
def ovLevel (s : State) (g : Fin 8) : Nat :=
  min (100 * s.nrg[g].straps.uo.toNat) ((if flg s (nrgReg g.val 0x10) 0 then 3300 else 1800) * 11 / 10)

/-- The measured VIO of a group, in mV. -/
def vioMv (s : State) (g : Fin 8) : Nat := ((s.pwr.rails.toArray[g.val]?).getD 0).toNat

/-- The current at which a pad is clamped, in 0.25 mA: its limit, folded back to 25 %, 50 % or 1 mA (R247, R248, R250). -/
def padLimit (s : State) (g : Fin 8) (i : Fin 64) : Nat :=
  let full := 4 * (s.nrg[g].pinLim[i].toNat + 1)
  if s.nrg[g].fold then
    match fld s (nrgReg g.val 0x10) 6 2 with
    | 0 => full / 4
    | 1 => full / 2
    | _ => min 4 full
  else full

/-- The kinds of exceed that hold for a powered group in this bc (R249). -/
def exceeds (s : State) (g : Fin 8) : ExceedKinds :=
  let n := s.nrg[g]
  { ov := decide (ovLevel s g < vioMv s g)
    pin := (List.finRange 64).find? fun i => n.dwell[i] != 0 && decide (fld s (nrgReg g.val 0x10) 1 5 ≤ n.dwell[i].toNat)
    grp := decide (4 * n.limI.toNat < n.iNow.toNat)
    nrg := decide (n.limE.toNat < n.eNow.toNat) }

/-- NRG_LAST of an exceed: the first kind in the order OV, PIN, GRP, NRG (R249). -/
def lastExceed (g : Fin 8) (k : ExceedKinds) : Word :=
  if k.ov then orAll [0x1FF, 1 * 512]
  else match k.pin with
    | some i => orAll [64 * g.val + i.val, 2 * 512]
    | none => if k.grp then orAll [0x1FF, 3 * 512] else orAll [0x1FF, 4 * 512]

/-- What an exceed does (R249, R250). -/
def exceed (s : State) (g : Fin 8) (k : ExceedKinds) : State :=
  let s := orReg s (nrgReg g.val 0x14) (orAll [b2n k.ov, b2n k.pin.isSome * 2, b2n k.grp * 4, b2n k.nrg * 8])
  let s := satWord (setReg s 0xE08 (lastExceed g k)) 0xE0C
  let s := onNrg s g fun n => { n with fold := true, ovFloat := n.ovFloat || k.ov, judged := true }
  let s := enterChry s g 3 false
  if k.ov then drivePins s g 0 63 fun _ => pinOfCode .float else s

/-- GOVERNOR_EXCEED (R249): one in a bc. -/
def execGovernorExceed (g : Fin 8) (s : State) : Out :=
  let k := exceeds s g
  act (s.nrg[g].vioGood && !s.nrg[g].judged && (k.ov || k.pin.isSome || k.grp || k.nrg)) s (exceed s g k)

/-- VIO_BELOW_OV_LEVEL (R250). -/
def execVioBelowOvLevel (g : Fin 8) (s : State) : Out :=
  act (s.nrg[g].ovFloat && !(exceeds s g).ov) s (applyPattern (onNrg s g fun n => { n with ovFloat := false }) g)

/-- MEAS_I and MEAS_E of a group. -/
def measWord (n : NrgGroup) (energy : Bool) : Word :=
  if energy then orAll [n.eNow.toNat, n.ePeak.toNat * 65536] else orAll [n.iNow.toNat, n.iPeak.toNat * 65536]

/-- The peak clears (R6, R253). -/
def clearPeak (s : State) (g : Fin 8) (energy : Bool) : State :=
  onNrg s g fun n => if energy then { n with ePeak := 0 } else { n with iPeak := 0 }

/-- NRG_MEAS_PEAK_READ. -/
def execNrgMeasPeakRead (g : Fin 8) (energy : Bool) (s : State) : Out :=
  .next (answer (clearPeak s g energy) (measWord s.nrg[g] energy))

/-- PWR_TEMP_MAX: 0 with no reading since it was cleared (R252). -/
def tempMaxWord (s : State) : Word := (s.pwr.tempMax.getD 0).setWidth 32

/-- PWR_TEMP_MAX_READ. -/
def execPwrTempMaxRead (s : State) : Out :=
  .next (answer (onPwr s fun p => { p with tempMax := none }) (tempMaxWord s))

/-! ## One bc (R237, R248, R252) -/

/-- The sample of a pad: nothing where it does not drive, else what it would draw, clamped at its limit (R248). -/
def samplePad (s : State) (g : Fin 8) (i : Fin 64) : BitVec 8 :=
  if (pinAt s (64 * g.val + i.val)).out then
    BitVec.ofNat 8 (min (padLimit s g i) (Sys2Proof.Config.padCurrent s.free (64 * g.val + i.val)).toNat)
  else 0

/-- The governor's sample of a powered group: its pads, their sum, and the ledger value over the last 1,000 samples, in nJ (R248). -/
def sampleGroup (s : State) (g : Fin 8) : State :=
  if s.nrg[g].vioGood then
    let cur := Vector.ofFn (samplePad s g)
    let i : BitVec 12 := BitVec.ofNat 12 (min 4095 ((List.finRange 64).map fun k => cur[k].toNat).sum)
    let ring := (vioMv s g * i.toNat :: s.nrg[g].ring).take 1000
    let e : BitVec 16 := BitVec.ofNat 16 (min 65535 (ring.sum / 4000000))
    onNrg s g fun n => { n with
      cur := cur, ring := ring, iNow := i, eNow := e, judged := false
      dwell := Vector.ofFn fun k : Fin 64 =>
        if cur[k].toNat = padLimit s g k then (if n.dwell[k] = 31 then 31 else n.dwell[k] + 1) else 0
      iPeak := if n.iPeak < i then i else n.iPeak, ePeak := if n.ePeak < e then e else n.ePeak }
  else onNrg s g fun n => { n with judged := false }

/-- The rails above their reset levels, in the order of RAIL_GOOD (R252). -/
def railsGood (s : State) : List Bool :=
  (List.finRange 8).map (fun g => s.nrg[g].vioGood) ++ [s.pwr.vcoreGood, s.pwr.vmemGood, s.pwr.vsdGood, true, s.pwr.vdbgGood]

/-- While a sag lasts, SAG_MIN takes the lowest VCORE measured (R236). -/
def tickSag (s : State) : State :=
  if s.pwr.dsSag then setReg s 0x824 (BitVec.ofNat 32 (min (fld s 0x824 0 16) s.pwr.vmeas.toNat)) else s

/-- What a bc brings to the power manager and the governor. -/
def tickPower (s : State) : State :=
  let s := onPwr s fun p => { p with
    sagHold := p.sagHold - 1, sagAge := p.sagAge + 1, vsetWait := p.vsetWait - 1, avsWait := p.avsWait - 1, seqAge := p.seqAge + 1
    dsPart := if downshift s then (p.dsPart + 1) % 1000 else p.dsPart
    railGood := BitVec.ofNat 13 ((railsGood s).zipIdx.map fun e => b2n e.1 <<< e.2).sum
    vmeas := (Sys2Proof.Config.railVoltage s.free 8).setWidth 10
    rails := Vector.ofFn fun i : Fin 13 => Sys2Proof.Config.railVoltage s.free i.val }
  let s := if downshift s ∧ s.pwr.dsPart = 0 then satWord s 0x828 else s
  let s := (List.finRange 8).foldl sampleGroup (tickSag s)
  { s with free := s.free + 1 }

end Sys2Proof.Machine
end

