-- ==== Sys2Proof/Machine/LinkOps.lean ====
section
/-! DEFINITION. Shared operations of links and stream DMA: rings, completions, tokens, sending and the tandem link (R192 to R203). -/
namespace Sys2Proof.Machine

/-! ## Links -/

/-- Registers of the quad of link l. -/
def quadReg (l r : Nat) : Nat := 0xE000 + 0x40 * (l / 4) + r

/-- A status bit of a link is recorded. -/
def linkStat (s : State) (l i : Nat) : State := orReg s (quadReg l 8) ((1 : Word) <<< (8 * (l % 4) + i))

/-- The link is enabled and not off (R192, R214). -/
def linkOn (s : State) (l : Nat) : Bool :=
  s.released && flg s (quadReg l 0) 0 && flg s (quadReg l 0) (4 + l % 4) && linkMode s l != 0

/-- Duari stream framing or tandem. -/
def isDuari (s : State) (l : Nat) : Bool := decide (4 ≤ linkMode s l)

/-- FEC runs on the link: as selected, always in MODE 0b110, and in none without a standard for it (R192). -/
def fecOn (s : State) (l : Nat) : Bool :=
  let m := linkMode s l
  m == 6 || (decide (2 ≤ m) && fld s (quadReg l 4) (8 * (l % 4) + 3) 2 != 0)

/-- The link is up and carries traffic. -/
def linkUp (s : State) (l : Nat) : Bool := linkOn s l && (link s l).up

/-- The state with a link's record changed. -/
def onLink (s : State) (l : Nat) (f : Link → Link) : State := setLink s l (f (link s l))

/-- A link counter counts one event and saturates (R214). -/
def linkCnt (s : State) (l : Nat) (i : Fin 7) : State :=
  onLink s l fun k => { k with cnt := k.cnt.set i (if k.cnt[i] = 0xFFFFFFFF then k.cnt[i] else k.cnt[i] + 1) }

/-- RTX is in use on the link (R197). -/
def rtx (s : State) (l : Nat) : Bool := (link s l).caps.getLsbD 0

/-- Stream DMA is frozen (R213). -/
def dmaFrozen (s : State) : Bool := s.dbg.frz && flg s 0xE43C 0

/-- Axis 0 time: [63:56] the low 8 bits of the epoch, [55:16] the count in ns, [15:0] the fraction in units of 2^-16 ns (R193). -/
def axisStamp (s : State) : BitVec 64 :=
  let a := s.cad.axes[0]
  (a.epoch.setWidth 8) ++ (a.p.extractLsb' 24 40 ++ a.p.extractLsb' 8 16)

/-- A frame's timestamp with the link's signed correction (R193), 0 while TS_EN is 0: axis 0 time in the bc of its row (log entry 94). -/
def stampOf (s : State) (l : Nat) : BitVec 64 :=
  if flg s 0x4838 8 then axisStamp s + (item s (quadReg l 0x28) (l % 4)).signExtend 64 else 0

/-! ## Rings (R198) -/

/-- The ring of a link and direction behind the windows. -/
def ringIx (l : Nat) (tx : Bool) : Nat := l % 4 + 4 * b2n tx

/-- The number of descriptors of a ring. -/
def ringSize (s : State) (l : Nat) (tx : Bool) : Nat := 2 ^ bits (item s (quadReg l 0x14) (ringIx l tx)) 28 4

/-- The memory word of a descriptor. -/
def descWord (s : State) (l : Nat) (tx : Bool) (i : Nat) : Nat :=
  bits (item s (quadReg l 0x14) (ringIx l tx)) 5 21 + i

/-- 32-bit word i of a memory word. -/
def w32 (d : MemWord) (i : Nat) : Word := d.extractLsb' (32 * i) 32

/-- A write of TAIL of the selected ring: ignored where it would make TAIL equal HEAD (R198). -/
def writeTail (s : State) (q : Fin 16) (v : Word) : State :=
  let sel := reg s (0xE010 + 0x40 * q.val)
  let l := 4 * q.val + bits sel 0 2
  let tx := bit sel 2
  let k := link s l
  let t := BitVec.ofNat 12 (v.toNat % ringSize s l tx)
  if t = (if tx then k.txHead else k.rxHead) then linkStat s l 4
  else setLink s l (if tx then { k with txTail := t } else { k with rxTail := t })

/-- The next index of a ring. -/
def ringNext (s : State) (l : Nat) (tx : Bool) (i : BitVec 12) : BitVec 12 :=
  BitVec.ofNat 12 ((i.toNat + 1) % ringSize s l tx)

/-- A completion word: words 0 to 3 of the descriptor, then word 4, the sequence and the timestamp (R198). -/
def completionWord (d : MemWord) (w4 seq : Nat) (stamp : BitVec 64) : MemWord :=
  BitVec.ofNat 256 (d.toNat % 2 ^ 128 + w4 <<< 128 + seq <<< 160 + stamp.toNat <<< 192)

/-! ## Tokens (R200) -/

/-- The token of a ring for a completion at an index. -/
def strToken (l : Nat) (tx : Bool) (i : Nat) : Word := orAll [(if tx then 2 else 1) <<< 28, l <<< 22, i]

/-- The completion channel of a ring. -/
def strChan (s : State) (l : Nat) (tx : Bool) : Nat := bits (item s (quadReg l 0x20) (ringIx l tx)) 0 14

/-- The token that waits for room. -/
def pendTok (k : Link) (tx : Bool) : Option Word := if tx then k.txTok else k.rxTok
def setPendTok (k : Link) (tx : Bool) (t : Option Word) : Link :=
  if tx then { k with txTok := t } else { k with rxTok := t }

/-- A token is sent, merged into one that waits, or waits itself. -/
def sendToken (s : State) (l : Nat) (tx : Bool) (i : Nat) : State :=
  let w := strToken l tx i
  let ch := strChan s l tx
  if (pendTok (link s l) tx).isSome then linkStat (onLink s l fun k => setPendTok k tx (some w)) l 6
  else if (chan s ch).writer.kind ≠ .dma then s
  else if (token s ch w).2 then (token s ch w).1
  else onLink s l fun k => setPendTok k tx (some w)

/-- After a completion: a token every EVERY completions, or on any status other than OK. -/
def countToken (s : State) (l : Nat) (tx : Bool) (i status : Nat) : State :=
  let n := (if tx then (link s l).txCount else (link s l).rxCount) + 1
  let every := bits (item s (quadReg l 0x20) (ringIx l tx)) 16 4
  let send := status != 0 || (every != 0 && decide (every ≤ n))
  let m := if send then 0 else n
  let s := onLink s l fun k => if tx then { k with txCount := m } else { k with rxCount := m }
  if send then sendToken s l tx i else s

/-- What a status records at the link, in the life ledger and among the faults of R256. -/
def noteStatus (s : State) (l status : Nat) : State :=
  match status with
  | 1 => ldgCorr (linkStat s l 2)
  | 3 | 4 => linkStat s l 5
  | 7 => bump (ldgCorr (linkCnt s l 2)) 0x2154
  | 8 => linkStat s l 7
  | _ => s

/-- A completion of a descriptor is written back as one whole word, and its token follows (R198, R200). -/
def complete (s : State) (l : Nat) (tx : Bool) (i : Nat) (d : MemWord) (status extra seq : Nat) (stamp : BitVec 64) : State :=
  let s := (memStoreWord s reqSTR (descWord s l tx i) (completionWord d (2 ^ 31 + status <<< 27 + extra) seq stamp)).1
  countToken (noteStatus s l status) l tx i status

/-! ## Receiving (R195, R198, R199) -/

/-- A frame that finds no descriptor, or comes under freeze, is dropped and counted. -/
def dropFrame (s : State) (l : Nat) (empty : Bool) : State :=
  let n := reg s 0xE430
  let s := { setReg s 0xE430 (n + 1) with str := { s.str with dropWrap := s.str.dropWrap || n == 0xFFFFFFFF } }
  if empty then linkStat s l 4 else s

/-- Words written into a buffer one after another. -/
def writeWords (s : State) (req : Nat) : Nat → List MemWord → State
  | _, [] => s
  | w, d :: ds => writeWords (memStoreWord s req w d).1 req (w + 1) ds

/-- The memory words of a buffer. -/
def bufWords (w n : Nat) : List Nat := (List.range n).map (w + ·)

/-- A descriptor is read: the state after it with its 32 bytes, or the status of the failure and what stands there (R159, R168, R198). -/
def readDesc (s : State) (dw : Nat) (o : ReadOutcome) : State × (MemWord ⊕ Nat) :=
  if refusing s reqSTR [dw] false ≠ [] then (noteNown s reqSTR (bankOf dw), .inr 3)
  else
    match readWord s reqSTR false dw o with
    | (t, true) => (t, .inl (seenWord s dw o))
    | (t, false) => (t, .inr 4)

/-- HEAD of a ring advances. -/
def advanceHead (s : State) (l : Nat) (tx : Bool) : State :=
  onLink s l fun k => if tx then { k with txHead := ringNext s l true k.txHead } else { k with rxHead := ringNext s l false k.rxHead }

/-- A frame goes into the buffer of the next RX descriptor, with its completion. `status` is what the frame's own checks give. The
order of precedence among several statuses is log entry 23. -/
def deliverFrame (s : State) (l : Nat) (o : ReadOutcome) (words : List MemWord) (bytes stream seq status : Nat) (stamp : BitVec 64) : State :=
  let k := link s l
  if dmaFrozen s then dropFrame s l false
  else if k.rxHead = k.rxTail then dropFrame s l true
  else
    let i := k.rxHead.toNat
    let dw := descWord s l false i
    let extra := stream <<< 16 + bytes % 2 ^ 15
    match readDesc s dw o with
    | (t, .inr st) => complete (advanceHead t l false) l false i (wordAt s dw) st extra seq stamp
    | (t, .inl d) =>
      let w := (w32 d 0).toNat % 2 ^ 26 / 32
      let n := bits (w32 d 1) 0 16
      let put := words.take n
      let no := refusing t reqSTR (bufWords w put.length) true
      let status := if no ≠ [] then 3 else if status = 1 then 1 else if n < words.length then 2 else status
      let t := if no ≠ [] then no.foldl (fun s b => noteNown s reqSTR b) t else writeWords t reqSTR w put
      complete (advanceHead t l false) l false i d status extra seq stamp

/-- Bytes 1 to 3 of ACK and RETRY blocks (R194). -/
def ackBody (stream : BitVec 8) (seq : BitVec 16) : List Byte := stream :: toBytes 2 seq.toNat

/-- The sequence check of a stream, and its new base (R195). -/
def seqGap (k : Link) (stream : BitVec 8) (seq : BitVec 16) : Bool :=
  match k.seqIn.find? fun e => e.1 == stream.toNat with
  | some (_, p) => seq != p + 1
  | none => false

/-- What a received frame gives after its header checks: delivered with a status, or a RETRY is sent (R195). -/
inductive Received where
  | deliver (status : Nat)
  | askRetry
  deriving DecidableEq, Repr

/-- The frame whose resend this is: whether the sequence of the first try had a gap. -/
def resendOf (k : Link) (f : StreamFrame) : Option Bool :=
  (k.retrySent.find? fun e => e.1 == f.stream && e.2.1 == f.seq).map (·.2.2)

/-- A gap before the frame: of a resent frame, before its first try. -/
def gapBefore (k : Link) (f : StreamFrame) : Bool := (resendOf k f).getD (seqGap k f.stream f.seq)

/-- The outcome of CRC, sequence and resend (R195). A resent frame replaces the frame that failed, in whose place its sequence stands. -/
def judgeFrame (s : State) (l : Nat) (f : StreamFrame) : Received :=
  let k := link s l
  let resent := (resendOf k f).isSome
  if f.check = .good then .deliver (if gapBefore k f then 5 else if resent then 7 else 0)
  else if f.ackWanted ∧ rtx s l ∧ ¬ resent then .askRetry
  else .deliver 1

/-- A frame is the latest of its stream, unless it is the resend of an earlier one. -/
def noteSeq (k : Link) (f : StreamFrame) : Link :=
  if (resendOf k f).isSome then { k with retrySent := k.retrySent.filter fun e => !(e.1 == f.stream && e.2.1 == f.seq) }
  else { k with seqIn := tput k.seqIn f.stream.toNat f.seq }

/-- A frame of Duari framing that has passed its header checks, up to its delivery: counters, base, ACK. The delivery itself is
given by the caller (a ring, or the tandem streams). -/
def acceptFrame (s : State) (l : Nat) (f : StreamFrame) (deliver : State → Nat → State) : State :=
  match judgeFrame s l f with
  | .askRetry =>
    let gap := gapBefore (link s l) f
    sendBlock (onLink s l fun k => { noteSeq k f with retrySent := (f.stream, f.seq, gap) :: k.retrySent }) l 0xB4 (ackBody f.stream f.seq)
  | .deliver st =>
    let resent := (resendOf (link s l) f).isSome
    let s := linkCnt s l 0
    let s := if f.check = .good then s else linkCnt s l 1
    let s := if st = 5 then linkCnt s l 3 else s
    let s := if st = 1 ∧ resent then bump s 0x2158 else s
    let s := deliver (onLink s l fun k => noteSeq k f) st
    if f.ackWanted ∧ f.check = .good then sendBlock s l 0xAA (ackBody f.stream f.seq) else s

/-- A frame, once its header checks have passed (R195); a block of an unlisted type is discarded and counted (R194). -/
def checkFrame (s : State) (l : Nat) (f : StreamFrame) (deliver : State → Nat → State) : State :=
  match f.check with
  | .badStart | .unlisted => linkCnt s l 4
  | .badLength => linkCnt s l 1
  | .good | .badCrc => acceptFrame s l f deliver

/-! ## Sending (R196, R199) -/

/-- STR holds the lock at an address for a link no longer: it is released (R199). -/
def releaseStr (s : State) (lock : Option Nat) (l : Nat) : State :=
  match lock with
  | none => s
  | some a =>
    let s := { s with str := { s.str with locks := s.str.locks.filter (· != (a, l)) } }
    if s.str.locks.any (·.1 == a) then s else (lockRelease s lockIdSTR a).1

/-- An open TX descriptor closes with a status; a frame sent under an ABANDONED grant shows that (R196, R199). A resend that succeeded is
counted whatever the completion shows (R256). -/
def closeTx (s : State) (l : Nat) (o : OpenTx) (status : Nat) : State :=
  let s := onLink s l fun k => { k with openTx := k.openTx.filter (· != o) }
  if 0xF0 ≤ o.stream.toNat then
    let s := if status = 7 then noteStatus s l 7 else s
    if status = 0 ∨ status = 7 then { s with str := { s.str with lag := s.str.lag - o.index } }
    else { s with str := { s.str with inSync := false, lag := s.str.lag - o.index } }
  else if o.abandoned ∧ (status = 0 ∨ status = 7) then
    let s := if status = 7 then noteStatus s l 7 else s
    releaseStr (complete s l true o.index o.desc 8 0 o.seq.toNat o.stamp) o.lock l
  else releaseStr (complete s l true o.index o.desc status 0 o.seq.toNat o.stamp) o.lock l

/-- The open descriptor of a stream and sequence. -/
def openOf (s : State) (l : Nat) (stream : BitVec 8) (seq : BitVec 16) : Option OpenTx :=
  (link s l).openTx.find? fun o => o.stream == stream && o.seq == seq

/-- A frame goes out on a Duari link; with RTX its descriptor stays open (R194, R196), and mirrored writes stay unacknowledged (R202). -/
def sendStream (s : State) (l : Nat) (o : OpenTx) : State :=
  let s := linkCnt (sendNext s l o.stream o.ask o.words) l 0
  if rtx s l ∨ 0xF0 ≤ o.stream.toNat then onLink s l fun k => { k with openTx := k.openTx ++ [o] } else closeTx s l o 0

/-- STR holds the lock at an address for a link. -/
def holdStr (s : State) (l a : Nat) : State := { s with str := { s.str with locks := s.str.locks ++ [(a, l)] } }

/-- The lock of a TX descriptor: acquired now with its ABANDONED mark, or none while the ring waits (R199). -/
def txLock (s : State) (l a : Nat) : State × Option Bool :=
  match (link s l).txGrant with
  | some (_, ab) => (holdStr (onLink s l fun k => { k with txGrant := none }) l a, some ab)
  | none =>
    let r := lockAcquire s lockIdSTR a false
    match r.2 with
    | none => (onLink r.1 l fun k => { k with txWait := some a }, none)
    | some w =>
      match w.toNat % 16 with
      | 0 | 5 => (holdStr r.1 l a, some false)
      | 1 => (holdStr r.1 l a, some true)
      | _ => (r.1, none)

/-- The buffer of a TX descriptor is read: its words, or the status of the refusal or failure (R168, R198). -/
def readBuffer (s : State) (w n : Nat) (o : List ReadOutcome) : State × (List MemWord ⊕ Nat) :=
  let ws := bufWords w n
  let no := refusing s reqSTR ws false
  if no ≠ [] then (no.foldl (fun s b => noteNown s reqSTR b) s, .inr 3)
  else
    match readSeq s reqSTR ws o with
    | (t, true) => (t, .inl (seenWords s ws o))
    | (t, false) => (t, .inr 4)

/-- The buffer of a descriptor: its first memory word, its length in bytes and in memory words. -/
def bufAt (d : MemWord) : Nat := (w32 d 0).toNat % 2 ^ 26 / 32
def txBytes (d : MemWord) : Nat := bits (w32 d 1) 0 15
def txWords (d : MemWord) : Nat := (txBytes d + 31) / 32

/-- An IEEE 802.3 frame of n bytes goes out, padded to 64 bytes with its FCS (R192). -/
def sendEth (s : State) (l : Nat) (ws : List MemWord) (n : Nat) : State :=
  let bs := (ws.flatMap fun d => toBytes 32 d.toNat).take n
  let bs := bs ++ List.replicate (60 - bs.length) 0
  putOut s l (.eth (bs ++ toBytes 4 (fcs32 bs).toNat))

/-- A TX descriptor of a link is taken: its frame is sent, or its completion says why not (R194, R199). The status of a length that no START
can carry is not given (log entry 94). -/
def takeTx (s : State) (l : Nat) (d : MemWord) (o : List ReadOutcome) (lock : Option Nat) (ab : Bool) : State :=
  let i := (link s l).txHead.toNat
  let w1 := w32 d 1
  let s := advanceHead s l true
  if isDuari s l ∧ (txWords d = 0 ∨ 512 < txWords d) then
    releaseStr (complete s l true i d (Sys2Proof.Config.txLength (txBytes d)).toNat 0 0 0) lock l
  else
    match readBuffer s (bufAt d) (txWords d) o with
    | (s, .inr st) => releaseStr (complete s l true i d st 0 0 0) lock l
    | (s, .inl ws) =>
      let ts : BitVec 64 := if bit w1 24 then stampOf s l else 0
      let stream : BitVec 8 := if isDuari s l then w1.extractLsb' 16 8 else 0
      let x : OpenTx := {
        index := i, stream := stream, seq := if isDuari s l then nextSeq s l stream else 0, ask := bit w1 26 || linkAsks s l
        retried := false, lock := lock, abandoned := ab, stamp := ts, desc := d, words := ws, since := s.bc }
      if isDuari s l then sendStream s l x else closeTx (linkCnt (sendEth s l ws (txBytes d)) l 0) l x 0

/-! ## Link state (R197, R199) -/

/-- A lock that STR holds for a link is lost (R189, R199). -/
def loseStr (s : State) (l : Nat) (a : Nat) : State :=
  let s := { s with str := { s.str with locks := s.str.locks.filter (· != (a, l)) } }
  if s.str.locks.any (·.1 == a) then s
  else match findLock s a with
    | some i => if (lockEnt s i).holder = lockIdSTR then loseLock s i else s
    | none => s

/-- The wait of a link's TX ring for a lock ends (R199). -/
def leaveTxWait (s : State) (l : Nat) : State :=
  match (link s l).txWait with
  | none => s
  | some a =>
    let s := onLink s l fun k => { k with txWait := none }
    match findLock s a with
    | some i => setLockEnt s i { lockEnt s i with waiters := (lockEnt s i).waiters.erase lockIdSTR }
    | none => s

/-- A link goes down (R199, R271): its open frames complete with LINKDOWN, its locks are lost, its exchange starts over. -/
def linkFalls (s : State) (l : Nat) : State :=
  let s := linkStat s l 1
  let s := (link s l).openTx.foldl (fun s o => closeTx s l { o with lock := none, abandoned := false } 6)
    (onLink s l fun k => { k with openTx := [] } )
  let s := leaveTxWait s l
  let s := match (link s l).txGrant with
    | some (a, _) => { s with str := { s.str with locks := s.str.locks ++ [(a, l)] } }
    | none => s
  let s := (s.str.locks.filter (·.2 == l)).foldl (fun s e => loseStr s l e.1) s
  onLink s l fun k => { k with
    up := false, sync := false, gear := .down, major := 0, minor := 0, caps := 0, gearValid := false
    seqIn := [], retrySent := [], txGrant := none }

/-- This block's highest major of an interface, as pinned (R197, R310). -/
def pinnedHigh (s : State) (iface : Fin 7) : Nat := if s.host.pins[iface] = 0 then 1 else min 1 s.host.pins[iface].toNat

/-- This block's capability bits: RTX, TS (R197). -/
def ownCaps (s : State) : BitVec 8 := BitVec.ofNat 8 (b2n (flg s 0xE408 16) + 2 * b2n (flg s 0x4838 8))

/-- Bytes 1 to 7 of a GEAR block: phase, protocol, lowest major, highest or chosen major, minor 0, capabilities, CRC-8 (R194). -/
def gearBody (s : State) (l phase major : Nat) : List Byte :=
  withCrc8 [BitVec.ofNat 8 phase, if linkMode s l = 7 then 2 else 1, 1, BitVec.ofNat 8 major, 0, ownCaps s]

/-- The exchange announces this block's range (R197). -/
def announce (s : State) (l : Nat) : State :=
  sendBlock (onLink s l fun k => { k with gear := .announcing, up := false }) l 0x4B
    (gearBody s l 0 (pinnedHigh s (if linkMode s l = 7 then 4 else 3)))

/-- A GEAR block that this link's protocol accepts. -/
def gearOk (s : State) (l : Nat) (b : GearBlock) : Bool := b.crcOk && (b.tandem == (linkMode s l == 7))

/-- A failed exchange (R197). -/
def gearFail (s : State) (l : Nat) : State := linkStat (onLink s l fun k => { k with gear := .failed }) l 3

end Sys2Proof.Machine
end

