-- ==== Sys2Proof/Machine/Links.lean ====
section
/-! DEFINITION. Links, stream DMA and the tandem link: the events and commands (R192 to R203, R272). -/
namespace Sys2Proof.Machine

/-- LINK_UP (R192, R197): block lock or sync; the IEEE 802.3 modes are up, the others start the gear exchange. -/
def execLinkUp (l : Fin 64) (s : State) : Out :=
  act (s.pwr.vsdGood && linkOn s l.val && !(link s l.val).sync) s
    (let s := onLink s l.val fun k => { k with sync := true }
     if isDuari s l.val then announce s l.val else onLink s l.val fun k => { k with up := true })

/-- A rail at a voltage in mV against its levels: below 93 % of nominal it warns (R233). -/
def belowRail (nominal mv percent : Nat) : Bool := decide (mv * 100 < nominal * percent)

/-- VSD falls below its reset level: its links drop (R12, R238). -/
def vsdFalls (s : State) : State :=
  ((List.range 64).filter fun l => (link s l).sync || (link s l).up).foldl linkFalls (onPwr s fun p => { p with vsdGood := false })

/-- RAIL_WARN (R12, R233, R234, R238): a rail that has crossed a level stands at a voltage. Below −7 % it warns. VSD below −12 % drops the
links, and stands good again above −11 %. -/
def execRailWarn (vsd : Bool) (mv : BitVec 16) (s : State) : Out :=
  let nominal := if vsd then 900 else 800
  let s := if belowRail nominal mv.toNat 93 then pwrStat s 11 else s
  .next (if ¬ vsd then s
    else if belowRail nominal mv.toNat 88 then (if s.pwr.vsdGood then vsdFalls s else s)
    else if belowRail nominal mv.toNat 89 then s
    else onPwr s fun p => { p with vsdGood := true })

/-- LINK_DOWN (R199). -/
def execLinkDown (l : Fin 64) (s : State) : Out :=
  act ((link s l.val).sync || (link s l.val).up) s (linkFalls s l.val)

/-- GEAR_ANNOUNCE (R197): M is the highest major in both ranges; a confirm of M goes out, or the exchange fails. -/
def execGearAnnounce (l : Fin 64) (b : GearBlock) (s : State) : Out :=
  let l := l.val
  let k := link s l
  let hi := min (pinnedHigh s (if linkMode s l = 7 then 4 else 3)) b.hi.toNat
  act (linkOn s l && k.sync && isDuari s l && decide (k.gear = .announcing ∨ k.gear = .confirming) && gearOk s l b) s
    (if max 1 b.lo.toNat ≤ hi then
      sendBlock (onLink s l fun k => { k with gear := .confirming, major := BitVec.ofNat 8 hi }) l 0x4B (gearBody s l 1 hi)
     else gearFail s l)

/-- GEAR_CONFIRM (R197): the same M brings the link up with the lower minor and the common capabilities. -/
def execGearConfirm (l : Fin 64) (b : GearBlock) (s : State) : Out :=
  let l := l.val
  let k := link s l
  act (linkOn s l && k.sync && decide (k.gear = .confirming) && gearOk s l b) s
    (if b.hi = k.major then
      onLink s l fun k => { k with
        up := true, gear := .done, minor := 0, caps := ownCaps s &&& b.caps, gearValid := true }
     else gearFail s l)

/-- GEAR_RETRY (R197). -/
def execGearRetry (l : Fin 64) (s : State) : Out :=
  act (linkOn s l.val && decide ((link s l.val).gear = .failed)) s (announce s l.val)

/-- ETH_FRAME_RECEIVED (R192, R198): a bad FCS drops the frame. -/
def execEthFrameReceived (l : Fin 64) (f : EthFrame) (s : State) : Out :=
  act (linkUp s l.val && !isDuari s l.val) s
    (if ¬ f.fcsOk then linkCnt s l.val 5
     else if 9216 < f.bytes.toNat then s
     else deliverFrame (linkCnt s l.val 0) l.val f.desc f.words f.bytes.toNat 0 0 0 (stampOf s l.val))

/-- STREAM_FRAME_RECEIVED (R194, R195): a frame of a stream of a ring. MIRROR and CKPT have rows of their own; of the other tandem streams,
among them EPOCH, the manual gives no effect beyond sequence and ACK. -/
def execStreamFrameReceived (l : Fin 64) (f : StreamFrame) (s : State) : Out :=
  act (linkUp s l.val && isDuari s l.val && (decide (f.stream.toNat < 0xF0) || (linkMode s l.val == 7 && decide (0xF2 ≤ f.stream.toNat)))) s
    (checkFrame s l.val f fun s st =>
      if f.stream.toNat < 0xF0 then
        deliverFrame s l.val f.desc f.words (32 * f.words.length) f.stream.toNat f.seq.toNat st (stampOf s l.val)
      else s)

/-- ACK (R196): the open descriptor closes as OK, or RETRIED. -/
def execAck (l : Fin 64) (stream : BitVec 8) (seq : BitVec 16) (s : State) : Out :=
  match openOf s l.val stream seq with
  | some o => act (linkUp s l.val) s (closeTx s l.val o (if o.retried then 7 else 0))
  | none => .next s

/-- The data of a resend: the buffer is read again, as it stands (R196); mirrored words were kept. -/
def resendWords (s : State) (x : OpenTx) (o : List ReadOutcome) : State × (List MemWord ⊕ Nat) :=
  if 0xF0 ≤ x.stream.toNat then (s, .inl x.words) else readBuffer s (bufAt x.desc) (txWords x.desc) o

/-- A resend of an open descriptor; one whose buffer no longer reads completes with that status (R196, R198). -/
def resend (s : State) (l : Nat) (x : OpenTx) (o : List ReadOutcome) : State :=
  match resendWords s x o with
  | (s, .inr st) => closeTx s l x st
  | (s, .inl ws) =>
    sendFrame (onLink s l fun k => { k with
      openTx := k.openTx.map fun p => if p = x then { x with retried := true, since := s.bc } else p }) l x.stream x.seq x.ask ws

/-- RETRY (R196): one resend; a second RETRY closes the descriptor with CRC. -/
def execRetry (l : Fin 64) (stream : BitVec 8) (seq : BitVec 16) (o : List ReadOutcome) (s : State) : Out :=
  match openOf s l.val stream seq with
  | some x =>
    act (linkUp s l.val) s (if x.retried then bump (closeTx s l.val x 1) 0x2158 else resend s l.val x o)
  | none => .next s

/-- ACK_TIMEOUT (R196): no ACK within STR_CTL.ACKTMO of the latest END block. -/
def execAckTimeout (l : Fin 64) (stream : BitVec 8) (seq : BitVec 16) (s : State) : Out :=
  match openOf s l.val stream seq with
  | some o => act (decide (fld s 0xE408 0 12 ≤ s.bc - o.since)) s (closeTx (linkCnt s l.val 6) l.val o 9)
  | none => .next s

/-- RING_TAIL_WRITE. -/
def execRingTailWrite (q : Fin 16) (v : Word) (s : State) : Out := act (live s) s (writeTail s q v)

/-- TX_FRAME_SEND (R199): the descriptor at HEAD, after its lock. One that cannot be read completes with NOWN or UNC. -/
def execTxFrameSend (l : Fin 64) (d : ReadOutcome) (o : List ReadOutcome) (s : State) : Out :=
  let l := l.val
  let k := link s l
  let dw := descWord s l true k.txHead.toNat
  act (linkUp s l && !dmaFrozen s && k.txHead != k.txTail && k.txWait.isNone && linkMode s l != 7) s
    (match readDesc s dw d with
     | (t, .inr st) => complete (advanceHead t l true) l true k.txHead.toNat (wordAt s dw) st 0 0 0
     | (t, .inl w) =>
       if bit (w32 w 1) 25 then
         let a := (w32 w 2).toNat % 2 ^ 26 / 4 * 4
         match txLock t l a with
         | (u, some ab) => takeTx u l w o (some a) ab
         | (u, none) => u
       else takeTx t l w o none false)

/-- STR_TOKEN_DELIVER (R200). -/
def execStrTokenDeliver (l : Fin 64) (tx : Bool) (s : State) : Out :=
  let ch := strChan s l.val tx
  match pendTok (link s l.val) tx with
  | some w => act (entryRoom s ch != 0) s (token (onLink s l.val fun k => setPendTok k tx none) ch w).1
  | none => .next s

/-! ## The tandem link (R201 to R203) -/

/-- A role as a heartbeat announces it: ACTIVE, STANDBY, else NONE (R201). -/
def roleByte (r : BitVec 2) : Nat := if r = 1 then 1 else if r = 2 then 2 else 3

/-- The mirrored write LAG and roles meet: both ACTIVE (R203). -/
def isDual (s : State) : Bool := s.avl.role == 1 && s.str.peerRole == 1

/-- HEARTBEAT (R201, R203, R349): the partner's count and role; both ACTIVE sets DUAL; within the window after a commit a partner's
ACTIVE makes this block STANDBY. -/
def execHeartbeat (l : Fin 64) (b : HeartbeatBlock) (s : State) : Out :=
  act (linkUp s l.val && (tandemLinks s).contains l.val && b.crcOk) s
    (let s := { s with str := { s.str with
        peerCount := b.count, peerRole := b.role.setWidth 2, hbLast := s.bc
        inSync := if s.avl.role = 2 then b.inSync else s.str.inSync } }
     match s.avl.roleWindow with
     | some t =>
       if isDual s ∧ s.bc - t ≤ 1000 * fld s 0xE420 16 16 then
         let s := { orReg s 0xE418 4 with avl := { s.avl with role := 2, roleWindow := none } }
         if s.released then enterStandby s else s
       else if isDual s then orReg s 0xE418 4 else s
     | none => if isDual s then orReg s 0xE418 4 else s)

/-- Bytes 1 to 7 of this block's HEARTBEAT: role, count, flags, CRC-8 (R201). -/
def heartbeatBody (s : State) : List Byte :=
  withCrc8 (BitVec.ofNat 8 (roleByte s.avl.role) :: toBytes 4 s.str.hbCount.toNat
    ++ [BitVec.ofNat 8 (b2n s.str.inSync + 2 * b2n (s.avl.pairs.any (·.2.maint)))])

/-- HEARTBEAT_SEND: on every tandem link that is up, one STR_TND_HB.PERIOD after the last (R201). -/
def execHeartbeatSend (s : State) : Out :=
  act (live s && tandemUp s != [] && decide (fld s 0xE420 0 10 ≤ s.bc - s.str.hbSent)) s
    (let s := { s with str := { s.str with hbCount := s.str.hbCount + 1, hbSent := s.bc } }
     (tandemUp s).foldl (fun s l => sendBlock s l 0xC3 (heartbeatBody s)) s)

/-- PEER_LOST (R203); a takeover that waits for the partner takes the role (R273). -/
def execPeerLost (s : State) : Out :=
  act (live s && tandemLinks s != [] && decide (1000 * fld s 0xE420 16 16 ≤ s.bc - s.str.hbLast)) s
    (let s := orReg s 0xE418 2
     if s.avl.taking ∧ s.avl.role = 2 then becomeActive s else s)

/-- The mirrored words of a frame are written, in order, into banks that STR owns (R201, R202). -/
def applyMirror (s : State) (ws : List MemWord) : State :=
  match ws with
  | [] => s
  | h :: data =>
    let n := (h.toNat >>> 32) % 2 ^ 16
    writeWords s reqSTR ((h.toNat >>> 5) % 2 ^ 21) (data.take n)

/-- MIRROR (R202, R273): the STANDBY block applies it; a block that has taken over no longer does, and a frame whose CRC-32C fails carries
nothing (log entry 94). -/
def execMirror (l : Fin 64) (f : StreamFrame) (s : State) : Out :=
  act (linkUp s l.val && (tandemLinks s).contains l.val) s
    (checkFrame s l.val { f with stream := 0xF0 } fun s st => if s.avl.role = 2 ∧ st ≠ 1 then applyMirror s f.words else s)

/-- The first run of consecutive words in the queue, at most n (R201). -/
def mirrorRun : Nat → List (Nat × MemWord) → List (Nat × MemWord)
  | 0, _ => []
  | _, [] => []
  | n + 1, (w, d) :: t =>
    (w, d) :: (match t with
      | (w', _) :: _ => if w' = w + 1 then mirrorRun n t else []
      | [] => [])

/-- The head word of a MIRROR frame (R201). -/
def mirrorHead (w n : Nat) : MemWord := BitVec.ofNat 256 (w <<< 5 + n <<< 32)

/-- A MIRROR frame goes out on a tandem link; index counts the queued writes that its ACK settles. -/
def sendMirror (s : State) (l : Nat) (run : List (Nat × MemWord)) (settles : Nat) : State :=
  sendStream s l
    { index := settles, stream := 0xF0, seq := nextSeq s l 0xF0, ask := true, retried := false, lock := none
      abandoned := false, stamp := 0, desc := 0, since := s.bc
      words := mirrorHead ((run.headD (0, 0)).1) run.length :: run.map (·.2) }

/-- A resync reads a word of a mirrored bank (R168, R202); what it sends of one that does not read is not given. -/
def resyncRead (s : State) (w : Nat) (o : ReadOutcome) : State × MemWord :=
  match readWord s reqSTR false w o with
  | (t, true) => (t, seenWord s w o)
  | (t, false) => (t, Sys2Proof.Config.resyncLost w)

/-- Words read for a resync, in order. -/
def resyncReads (s : State) : List Nat → List ReadOutcome → State × List (Nat × MemWord)
  | [], _ => (s, [])
  | w :: ws, o =>
    let r := resyncRead s w (o.headD cleanRead)
    let q := resyncReads r.1 ws o.tail
    (q.1, (w, r.2) :: q.2)

/-- The next words of a resync, within one bank; after the last bank mirroring is in sync (R202). -/
def resyncStep (s : State) (l n : Nat) (o : List ReadOutcome) : State :=
  match s.str.resync with
  | [] => s
  | b :: t =>
    let m := min n (65536 - s.str.resyncAt)
    let r := resyncReads s (bufWords (65536 * b + s.str.resyncAt) m) o
    let s := sendMirror r.1 l r.2 0
    if s.str.resyncAt + m < 65536 then { s with str := { s.str with resyncAt := s.str.resyncAt + m } }
    else { s with str := { s.str with resync := t, resyncAt := 0, inSync := s.str.inSync || t == [] } }

/-- MIRROR_SEND (R202, R203): up to n queued writes in acceptance order, else the resync's next words. -/
def execMirrorSend (n : BitVec 9) (o : List ReadOutcome) (s : State) : Out :=
  match tandemUp s with
  | [] => .next s
  | l :: _ =>
    act (s.avl.role == 1 && !flg s 0xE418 2) s
      (let run := mirrorRun n.toNat s.str.mirrorQ
       if run ≠ [] then
         sendMirror { s with str := { s.str with mirrorQ := s.str.mirrorQ.drop run.length } } l run run.length
       else resyncStep s l n.toNat o)

/-- The pair that a checkpoint record names (R272). -/
def recordPair (ws : List MemWord) : Nat := (ws.headD 0).toNat % 2 ^ 10

/-- CKPT_RECORD (R272): the latest record of a mirrored pair is kept. -/
def execCkptRecord (l : Fin 64) (f : StreamFrame) (s : State) : Out :=
  act (linkUp s l.val && (tandemLinks s).contains l.val) s
    (checkFrame s l.val { f with stream := 0xF1 } fun s st =>
      let p := recordPair f.words
      if (pairAt s p).mirror ∧ st ≠ 1 then setPair s p { pairAt s p with record := some f.words } else s)

/-- RESYNC (R202): every mirrored bank is to be copied. -/
def startResync (s : State) : State :=
  { s with str := { s.str with
      resync := (List.range 32).filter fun b => bit (reg s 0xE424) b, resyncAt := 0 } }

/-- TND_RESYNC. -/
def execTndResync (s : State) : Out := act (live s) s (startResync s)

end Sys2Proof.Machine
end

