-- ==== Sys2Proof/Machine/FabricPort.lean ====
section
/-! DEFINITION. The fabric port, the dispatcher and the peloton (R204 to R212, R354). -/
namespace Sys2Proof.Machine

/-- The state with the fabric port's record changed. -/
def onFab (s : State) (f : Fabric → Fabric) : State := { s with fab := f s.fab }

/-- A peloton entry. -/
def pel (s : State) (i : Nat) : Peloton := tget {} s.fab.peloton i

/-- The state with an entry replaced. -/
def setPel (s : State) (i : Nat) (p : Peloton) : State := onFab s fun f => { f with peloton := tput f.peloton i p }

/-- Entries in use. -/
def pelUsed (s : State) : Nat := (s.fab.peloton.filter fun e => e.2.st != .free).length

/-- Dispatch and release stop, credits are withheld (R213). -/
def fabFrozen (s : State) : Bool := s.dbg.frz && flg s 0x12008 9

/-- EXC results held by the bucket (FAB_HELD). -/
def fabHeld (s : State) : Nat := (s.fab.peloton.filter fun e => e.2.st == .held).length

/-- A WORK or EXC credit may be returned: the peloton has an entry for every descriptor that may still come (R205). -/
def creditFree (s : State) : Bool := !fabFrozen s && decide (pelUsed s + s.fab.crdWork + s.fab.crdExc < 4096)

/-- EXC credits stop once the held results fill HOLDMAX (R212). -/
def holdFull (s : State) : Bool := decide (fld s 0x12054 20 11 ≤ fabHeld s) && fabHeld s != 0

/-- Withheld credits are returned as far as they may be (R205, R213). -/
def returnOwed (s : State) : State :=
  let s := if s.fab.oweData ≠ 0 ∧ ¬ fabFrozen s then
      onFab s fun f => { f with crdData := f.crdData + 1, oweData := f.oweData - 1 } else s
  let s := if s.fab.oweWork ≠ 0 ∧ creditFree s then
      onFab s fun f => { f with crdWork := f.crdWork + 1, oweWork := f.oweWork - 1 } else s
  if s.fab.oweExc ≠ 0 ∧ creditFree s ∧ ¬ holdFull s then
    onFab s fun f => { f with crdExc := f.crdExc + 1, oweExc := f.oweExc - 1 } else s

/-- A descriptor leaves the dispatch buffer and its credit is due (R205, R212). -/
def oweCredit (s : State) (exc : Bool) : State :=
  let s := onFab s fun f => if exc then { f with oweExc := f.oweExc + 1 } else { f with oweWork := f.oweWork + 1 }
  returnOwed (if exc ∧ holdFull s then orReg s 0x1200C 0x80 else s)

/-- The port goes down: entries are dropped and FAB locks lost (R211). -/
def fabDown (s : State) : State :=
  let s := orReg (loseHolder s lockIdFAB) 0x1200C 2
  onFab s fun f => { ({} : Fabric) with nextOrder := f.nextOrder, lastTicket := f.lastTicket, lastFlow := f.lastFlow, sent := f.sent }

/-- FAB_PORT_UP (R204, R354). -/
def execFabPortUp (s : State) : Out :=
  act (s.released && flg s 0x12008 0 && !s.fab.up) s
    (onFab s fun f => { f with
      up := true, crdWork := fld s 0x12014 0 11, crdExc := fld s 0x12014 11 10, crdData := fld s 0x12014 21 11 })
/-- FAB_PORT_DOWN. -/
def execFabPortDown (s : State) : Out := act s.fab.up s (fabDown s)
/-- FAB_PORT_RESTART (R215): down now; up again when FAB_PORT_UP's condition has held. -/
def execFabPortRestart (s : State) : Out := act (live s && s.fab.up) s (fabDown s)

/-- A beat that is discarded (R204). -/
def badBeat (s : State) : State := orReg s 0x1200C 4

/-- Fields of a descriptor (R206). -/
def descPrio (d : Vector Word 32) : Nat := bits d[0] 12 4
def descFlow (d : Vector Word 32) : BitVec 20 := d[2].setWidth 20
def descRver (d : Vector Word 32) : BitVec 16 := d[3].extractLsb' 16 16
def descClass (d : Vector Word 32) : Nat := bits d[3] 8 8

/-- The class map of a descriptor (FAB_CLS_DATA). -/
def classMap (s : State) (d : Vector Word 32) : Word := item s 0x1202C (descClass d)

/-- The ticket is outstanding for the same flow (R206); EXC descriptors form their own flows (R212). -/
def ticketOut (s : State) (d : Vector Word 32) (exc : Bool) : Bool :=
  s.fab.peloton.any fun e => e.2.st != .free && e.2.exc == exc && e.2.ticket == d[1] && e.2.flow == descFlow d

/-- A descriptor is refused (R206). -/
def descRefused (s : State) (d : Vector Word 32) (exc : Bool) : Bool :=
  let major := bits d[0] 24 8
  major == 0 || decide (pinnedHigh s 2 < major) || !bit (classMap s d) 15 || ticketOut s d exc

/-- The lowest free entry. -/
def freePel (s : State) : Option Nat := (List.range 4096).find? fun i => (pel s i).st == .free

/-- A WORK or EXC beat (R204 to R206, R210, R212). -/
def acceptDesc (s : State) (d : Vector Word 32) (exc : Bool) : State :=
  match freePel s with
  | none => badBeat s
  | some i =>
    if (if exc then s.fab.crdExc else s.fab.crdWork) = 0 then badBeat s
    else
      let s := onFab s fun f => if exc then { f with crdExc := f.crdExc - 1 } else { f with crdWork := f.crdWork - 1 }
      let p : Peloton := { st := .queued, ticket := d[1], flow := descFlow d, rver := descRver d, order := s.fab.nextOrder
                           exc := exc, desc := d }
      let s := onFab s fun f => { f with nextOrder := f.nextOrder + 1 }
      if descRefused s d exc then
        let s := bump (orReg (setPel s i { p with st := .recorded, status := 7 }) 0x1200C 0x40) 0x12084
        oweCredit (onFab s fun f => { f with lastTicket := d[1], lastFlow := descFlow d }) exc
      else
        let q := bits (classMap s d) 0 8 * 16 + descPrio d
        onFab (bump (setPel s i p) (if exc then 0x1206C else 0x12064)) fun f => { f with queue := f.queue ++ [(q, i)] }

/-- WORK_DESCRIPTOR. A beat while the port is down is ignored (R354). -/
def execWorkDescriptor (d : Vector Word 32) (s : State) : Out := act s.fab.up s (acceptDesc s d false)
/-- EXC_DESCRIPTOR. -/
def execExcDescriptor (d : Vector Word 32) (s : State) : Out := act s.fab.up s (acceptDesc s d true)

/-- A beat goes out (R204). -/
def sendBeat (s : State) (b : OutBeat) : State := onFab s fun f => { f with sent := b :: f.sent }

/-- A DATA credit is due again: its WRITE has been accepted, or its answer has been sent (R205). -/
def oweData (s : State) : State := returnOwed (onFab s fun f => { f with oweData := f.oweData + 1 })

/-- A WERR beat is counted (R215). -/
def countWerr (s : State) (b : OutBeat) : State :=
  match b with
  | .werr _ => bump s 0x12088
  | _ => s

/-- The oldest waiting READRSP or WERR goes out, if an RSP credit is held (R204, R205). -/
def sendRsp (s : State) : State :=
  match s.fab.rspQ with
  | [] => s
  | b :: l =>
    if s.fab.crdRsp = 0 then s
    else oweData (countWerr (sendBeat (onFab s fun f => { f with rspQ := l, crdRsp := f.crdRsp - 1 }) b) b)

/-- A READRSP or WERR is due (R204). -/
def respond (s : State) (b : OutBeat) : State := sendRsp (onFab s fun f => { f with rspQ := f.rspQ ++ [b] })

/-- The first memory word and the count of a WRITE or READ. -/
def beatAddr (head : MemWord) : Nat := (head.toNat >>> 5) % 2 ^ 21
def beatCount (head : MemWord) : Nat := (head.toNat >>> 32) % 2 ^ 8

/-- The count is one the beat admits. -/
def beatOk (head : MemWord) : Bool := decide (1 ≤ beatCount head ∧ beatCount head ≤ 3)

/-- A WRITE or READ beat spends its DATA credit; one sent without a credit, or whose count is none of 1 to 3, is discarded, and no credit
comes back for it (R204). A bank that FAB does not own answers WERR. -/
def dataBeat (s : State) (head : MemWord) (write : Bool) (f : State → State) : State :=
  let no := refusing s reqFAB (bufWords (beatAddr head) (beatCount head)) write
  if s.fab.crdData = 0 then badBeat s
  else
    let s := onFab s fun f => { f with crdData := f.crdData - 1 }
    if ¬ beatOk head then badBeat s
    else if no ≠ [] then respond (no.foldl (fun s b => noteNown s reqFAB b) s) (.werr head)
    else f s

/-- Words enter a bank from the fabric port with their 288 bits unchanged (R166). -/
def writeCodes (s : State) (req : Nat) : Nat → List CodeWord → State
  | _, [] => s
  | w, c :: cs => writeCodes (memStoreCode s req w c).1 req (w + 1) cs

/-- FAB_WRITE (R204): the DATA credit is due as the write is accepted. A beat of an unlisted type is discarded. -/
def execFabWrite (listed : Bool) (head : MemWord) (data : Vector CodeWord 3) (s : State) : Out :=
  act (s.fab.up && memReady s) s
    (if ¬ listed then badBeat s
     else dataBeat s head true fun s => oweData (writeCodes s reqFAB (beatAddr head) (data.toList.take (beatCount head))))

/-- A word leaves through the fabric port (R166, R204): what a read delivers, a poisoned word as it stands, and a word with a lasting DUE
poisoned (log entry 93). -/
def readCode (s : State) (w : Nat) (o : ReadOutcome) : State × CodeWord :=
  match readWord s reqFAB false w o with
  | (t, true) => (t, ⟨seenWord s w o, 0⟩)
  | (t, false) => (t, ⟨wordAt s w, poisonErr⟩)

/-- Words leave in order. -/
def readCodes (s : State) : List Nat → List ReadOutcome → State × List CodeWord
  | [], _ => (s, [])
  | w :: ws, o =>
    let r := readCode s w (o.headD cleanRead)
    let q := readCodes r.1 ws o.tail
    (q.1, r.2 :: q.2)

/-- FAB_READ (R204): the READRSP goes out, or waits for an RSP credit. -/
def execFabRead (head : MemWord) (o : List ReadOutcome) (s : State) : Out :=
  act (s.fab.up && memReady s) s
    (dataBeat s head false fun s =>
      let r := readCodes s (bufWords (beatAddr head) (beatCount head)) o
      respond r.1 (.readRsp head r.2))

/-- CREDIT_RETURN (R204): an RSP credit lets a waiting answer go. -/
def execCreditReturn (rsp : Bool) (s : State) : Out :=
  act s.fab.up s
    (if rsp then sendRsp (onFab s fun f => { f with crdRsp := f.crdRsp + 1, gotRsp := true })
     else onFab s fun f => { f with crdResult := f.crdResult + 1, gotResult := true })

/-! ## Dispatch (R207, R208) -/

/-- The work channel of a spoke. -/
def workChan (s : State) (g : Nat) : Option Nat :=
  (chansWhere s fun c => c.writer.kind == .fabric && c.reader.isSpoke g).head?

/-- The spokes of a group that are wired for work. -/
def groupSpokes (s : State) (cl grp : Nat) : List Nat :=
  ((List.range 128).map (128 * cl + ·)).filter fun g =>
    (spk s g).listed && (spk s g).elastic && (spk s g).egroup.toNat == grp && (workChan s g).isSome

/-- The spoke is ready for dispatch (R207). -/
def readySpoke (s : State) (g : Nat) : Bool :=
  match workChan s g with
  | some ch => (chan s ch).fifo == [] && (tget none s.fab.deliver ch).isNone
  | none => false

/-- The next ready spoke after the last one served (R207). -/
def nextReady (s : State) (cl grp : Nat) : Option Nat :=
  let l := (groupSpokes s cl grp).filter (readySpoke s)
  let last := tget 127 s.fab.lastServed (16 * cl + grp)
  match l.find? fun g => last < g % 128 with
  | some g => some g
  | none => l.head?

/-- The descriptor that a group's dispatch takes: the oldest of the highest priority that waits (R207). -/
def nextDesc (s : State) (key : Nat) : Option Nat :=
  let l := s.fab.queue.filter fun e => e.1 / 16 == key
  let top := l.foldl (fun m e => max m (e.1 % 16)) 0
  (l.find? fun e => e.1 % 16 == top).map (·.2)

/-- The lock of a descriptor before its dispatch: none where it waits, else whether the grant carried ABANDONED (R207). -/
def fabLock (s : State) (i : Nat) : State × Option Bool :=
  match fabLockAddr (pel s i) with
  | none => (s, some false)
  | some a =>
    match s.fab.lockGrant.find? fun e => e.1 == i with
    | some (_, ab) => (onFab s fun f => { f with lockGrant := f.lockGrant.filter fun e => e.1 != i }, some ab)
    | none =>
      if i ∈ s.fab.lockWait then (s, none)
      else
        let r := lockAcquire s lockIdFAB a false
        match r.2 with
        | none => (onFab r.1 fun f => { f with lockWait := f.lockWait ++ [i] }, none)
        | some w =>
          match w.toNat % 16 with
          | 0 | 5 => (r.1, some false)
          | 1 => (r.1, some true)
          | _ => (r.1, none)

/-- A descriptor goes to a spoke (R207, R208). -/
def dispatchTo (s : State) (key i g ch : Nat) (abandoned : Bool) : State :=
  let p := pel s i
  let d := if abandoned then p.desc.set 3 (p.desc[3] ||| 0x80) else p.desc
  let n := 4 * bits (classMap s p.desc) 8 4
  let s := setPel s i { p with st := .dispatched, spoke := some g, since := s.bc, lock := fabLockAddr p }
  let s := onFab s fun f => { f with
    queue := f.queue.filter fun e => e.2 != i
    lastServed := tput f.lastServed key (g % 128)
    deliver := tput f.deliver ch (some ⟨d.toList.take n, decide (fld s 0x12008 4 4 ≤ descPrio p.desc)⟩) }
  oweCredit s p.exc

/-- DISPATCH. -/
def execDispatch (cl : Fin 13) (grp : Fin 16) (s : State) : Out :=
  let key := 16 * cl.val + grp.val
  match nextDesc s key, nextReady s cl.val grp.val with
  | some i, some g =>
    match workChan s g with
    | some ch =>
      let r := fabLock s i
      act (s.fab.up && !fabFrozen s) s
        (match r.2 with
         | some ab => dispatchTo r.1 key i g ch ab
         | none => r.1)
    | none => .next s
  | _, _ => .next s

/-- WORK_MESSAGE_DELIVER (R208): the first message of a delivery carries the urgent tag. -/
def execWorkMessageDeliver (ch : BitVec 14) (s : State) : Out :=
  if 13 ≤ ch.toNat / 1024 then .fault .noChannel
  else
    let ch := ch.toNat
    match tget none s.fab.deliver ch with
    | some d =>
      act (decide (4 ≤ entryRoom s ch)) s
        (let s := pushWords s ch (message (d.words.take 4) false d.urgent)
         let rest := d.words.drop 4
         onFab s fun f => { f with deliver := tput f.deliver ch (if rest = [] then none else some ⟨rest, false⟩) })
    | none => .next s

/-! ## Results (R209 to R212) -/

/-- The words of a channel's oldest message, if it is whole, and the state without it. -/
def popMessage (s : State) (ch : Nat) : Option (List ChanWord × State) :=
  let c := chan s ch
  let m := c.fifo.takeWhile fun w => !w.last
  match c.fifo.drop m.length with
  | w :: t => some (m ++ [w], setChan s ch { c with fifo := t, inMsg := false })
  | [] => none

/-- The entry that a spoke's result names (R210). -/
def resultEntry (s : State) (g : Nat) (w : List Word) : Option Nat :=
  (s.fab.peloton.find? fun e => e.2.st == .dispatched && e.2.spoke == some g
    && e.2.ticket == w.headD 0 && e.2.flow == ((w.getD 1 0).setWidth 20)).map (·.1)

/-- The status of a result as it is recorded (R210; the order among several is log entry 24). -/
def resultStatus (p : Peloton) (w : List Word) : BitVec 4 :=
  let kind := bits (w.getD 1 0) 28 4
  if 4 ≤ bits (w.getD 2 0) 16 3 ∨ (kind ≠ 1 ∧ kind ≠ 2) then 7
  else if kind = 2 then 1
  else if (w.getD 2 0).setWidth 16 ≠ p.rver then 4
  else if p.exc then 6 else 0

/-- What a recorded status leaves in STAT and the counters. -/
def noteResult (s : State) (st : BitVec 4) : State :=
  if st = 4 then bump (orReg s 0x1200C 0x20) 0x1207C
  else if st = 7 then orReg s 0x1200C 0x40
  else s

/-- RESULT_RECORD: a message of a result channel. The first of a result names its entry; N further messages carry its inline
words (R209, R211). -/
def execResultRecord (ch : BitVec 14) (s : State) : Out :=
  if 13 ≤ ch.toNat / 1024 then .fault .noChannel
  else
    let ch := ch.toNat
    let c := chan s ch
    match popMessage s ch with
    | some (m, t) =>
      act (s.fab.up && c.reader.kind == .fabric && c.writer.kind == .spoke) s
        (let w := m.map (·.word)
         match s.fab.gather.find? fun e => e.1 == ch with
         | some (_, i, n) =>
           let t := onFab t fun f => { f with gather := if n ≤ 1 then tdel f.gather ch else tput f.gather ch (i, n - 1) }
           if i < 4096 then
             let p := pel t i
             setPel t i { p with result := p.result ++ (w ++ List.replicate 4 0).take 4, due := p.due - 1 }
           else t
         | none =>
           let n := min 4 (bits (w.getD 2 0) 20 3)
           let e := if w.length = 4 ∧ !(m.any (·.trunc)) then resultEntry s c.writer.id w else none
           let t := if n = 0 ∨ w.length ≠ 4 then t else
             onFab t fun f => { f with gather := tput f.gather ch (e.getD 4096, n) }
           match e with
           | some i =>
             let p := pel t i
             let st := resultStatus p w
             noteResult (setPel t i { p with st := .recorded, status := st, result := w, due := n }) st
           | none => bump t 0x12080)
    | none => .next s

/-- RESULT_TIMEOUT (R210). -/
def execResultTimeout (entry : Fin 4096) (s : State) : Out :=
  let i := entry.val
  let p := pel s i
  let tmo := fld s 0x12050 0 24
  act (s.fab.up && p.st == .dispatched && tmo != 0 && decide (tmo ≤ s.bc - p.since)) s
    (bump (orReg (setPel s i { p with st := .recorded, status := 2, result := [], due := 0 }) 0x1200C 8) 0x12074)

/-- An EXC result may pass the bucket (R212). -/
def bucketOpen (s : State) : Bool := s.fab.tokens != 0 && fld s 0x12054 0 12 != 0

/-- The entry's turn in its flow has come and its result is whole (R210); EXC descriptors form their own flows (R212). -/
def flowTurn (s : State) (e : Nat × Peloton) : Bool :=
  (e.2.st == .recorded || e.2.st == .held) && e.2.due == 0 &&
    s.fab.peloton.all fun h =>
      !(h.2.st != .free && h.2.exc == e.2.exc && h.2.flow == e.2.flow && decide (h.2.order < e.2.order))

/-- The older of two entries. -/
def older (a : Option (Nat × Peloton)) (b : Nat × Peloton) : Option (Nat × Peloton) :=
  match a with
  | some x => if x.2.order < b.2.order then some x else some b
  | none => some b

/-- Header only: no ACT, no inline words (R210). -/
def headerOnly (st : BitVec 4) : Bool := st = 1 ∨ st = 2 ∨ st = 3 ∨ st = 5 ∨ st = 7

/-- The status with which an entry leaves: a REF outside FAB's banks is found at release (R210). -/
def releaseStatus (s : State) (p : Peloton) : BitVec 4 :=
  let a := (p.result.getD 3 0).toNat % 2 ^ 26
  if ¬ headerOnly p.status ∧ bit (p.result.getD 2 0) 23 ∧ ¬ mayAccess s reqFAB (bankOf (a / 32)) false then 5 else p.status

/-- The 32 words of a RESULT beat (R209): TICKET, FLOW, RVER, PLEN, REF and cookie in the header positions of R206, the inline words from
byte 64, zero elsewhere. -/
def resultWords (p : Peloton) (st : BitVec 4) : List Word :=
  [0, p.ticket, p.flow.setWidth 32, p.rver.setWidth 32 <<< 16, p.desc[4] &&& 0xFFFF, p.desc[5] &&& 0x3FFFFFF, 0, 0, 0, 0, 0, 0, 0, 0,
    p.desc[14], p.desc[15]] ++ ((if headerOnly st then [] else p.result.drop 4) ++ List.replicate 16 0).take 16

/-- The RESULT beat of an entry (R209). -/
def resultBeat (p : Peloton) (st : BitVec 4) : OutBeat :=
  .result st (if headerOnly st then 0 else BitVec.ofNat 3 (bits (p.result.getD 2 0) 16 3)) (if headerOnly st then 0 else p.result.getD 3 0)
    (resultWords p st)

/-- A FAB lock taken for an entry is released with its result (R211). -/
def releaseFab (s : State) (lock : Option Nat) : State :=
  match lock with
  | none => s
  | some a =>
    if s.fab.peloton.any fun e => e.2.st != .free && e.2.lock == some a then s else (lockRelease s lockIdFAB a).1

/-- EXC results that find the bucket empty are held (R212). -/
def holdResults (s : State) : State :=
  if bucketOpen s then s
  else onFab s fun f => { f with peloton := f.peloton.map fun e =>
    (e.1, if e.2.st = .recorded ∧ e.2.exc ∧ flowTurn s e then { e.2 with st := .held } else e.2) }

/-- PELOTON_RELEASE (R210, R211): the oldest releasable entry leaves. -/
def execPelotonRelease (s : State) : Out :=
  let s' := holdResults s
  match (s'.fab.peloton.filter fun e => flowTurn s' e && (!e.2.exc || bucketOpen s')).foldl older none with
  | some (i, p) =>
    act (s.fab.up && !fabFrozen s && s.fab.crdResult != 0) s
      (let st := releaseStatus s' p
       let t := sendBeat s' (resultBeat p st)
       let t := onFab t fun f => { f with
         peloton := tdel f.peloton i, crdResult := f.crdResult - 1
         tokens := if p.exc then f.tokens - 1 else f.tokens }
       returnOwed (releaseFab (bump t (if p.exc then 0x12070 else 0x12068)) p.lock))
  | none => act (s.fab.up && !fabFrozen s) s s'

/-- The sc of a bc in which a WORK descriptor waits outside for lack of a credit (R215): free while the surroundings hold none (log entry 4). -/
def waitedSc (s : State) : Nat := if s.fab.up ∧ s.fab.crdWork = 0 then (Sys2Proof.Config.workWaits s.bc).val else 0

/-- One bc of the port: credits that may go are returned, one of each class per sc (R204, R205), and waits are counted (R215). -/
def tickPort (s : State) : State := (List.range (waitedSc s)).foldl (fun s _ => bump s 0x1208C) (returnOwed (returnOwed s))

/-- One bc of the exception bucket (R212): RATE tokens per 1,024 bc, at most BURST. -/
def tickBucket (s : State) : State :=
  if s.fab.up then
    let n := s.fab.tokenAcc + fld s 0x12054 0 12
    onFab s fun f => { f with tokenAcc := n % 1024, tokens := min (fld s 0x12054 12 8) (f.tokens + n / 1024) }
  else s

end Sys2Proof.Machine
end

