-- ==== Sys2Proof/Machine/Views.lean ====
section
/-! DEFINITION. What the registers of the host window show (R6, R305, R311): a field that shows live state is formed here, every
other one is stored. A read's own effect is in Machine/Access.lean. -/
namespace Sys2Proof.Machine

/-- A bitmap of n bits. -/
def bitmap (n : Nat) (p : Nat → Bool) : Word :=
  (List.range n).foldl (fun w i => if p i then w ||| ((1 : Word) <<< i) else w) 0

/-- Some bit of a mask is set in the register. -/
def anyBit (s : State) (off : Nat) (m : Word) : Bool := (reg s off &&& m) != 0

/-- The lock table index of a holder count, for one requester. -/
def locksHeld (s : State) (who : BitVec 16) : Nat :=
  (s.lck.table.filter fun e => e.2.st != .free && e.2.holder == who).length

/-! ## Spokes (R54, R55) -/

/-- The core number that a physical core serves, none once retired (R38, R265). -/
def servedCore (s : State) (c : Nat) : Option Nat :=
  match s.cores.toArray[c]? with
  | some k => if k.role = .retired then none else some k.logical
  | none => none

/-- Spoke i of a physical core. -/
def coreSpoke (s : State) (c i : Nat) : Spoke :=
  match servedCore s c with
  | some l => spk s (32 * l + i)
  | none => {}

/-- A spoke's state code (context item 0x00). -/
def stateCode : SpokeState → Nat
  | .deferred => 0 | .run => 1 | .blocked => 2 | .halted => 3 | .stopped => 4

/-- A stop cause's code. -/
def causeCode : StopCause → Nat
  | .own => 0 | .master => 1 | .fault => 2 | .kill => 3 | .retired => 4

/-- Context item 0x00 (R55). -/
def stateItem (s : State) (g : Nat) : Word :=
  let sp := spk s g
  orAll [stateCode sp.st, causeCode sp.cause <<< 3, b2n sp.elastic <<< 6, b2n sp.deferredDecl <<< 7, sp.egroup.toNat <<< 8,
    ((sp.dlgroup.map (·.val)).getD 0) <<< 12, b2n sp.dlgroup.isSome <<< 17, b2n sp.pair.isSome <<< 18, b2n (groupUrgent s g) <<< 19,
    sp.fcode.toNat <<< 20]

/-- The lock table index at which a spoke is queued; 0x3FFF before the lock unit has decided its request (R55, R188). -/
def queuedAt (s : State) (g a : Nat) : Nat :=
  match findLock s a with
  | some i => if (lockEnt s i).waiters.contains (lockIdSpoke s g) then i else 0x3FFF
  | none => 0x3FFF

/-- Context item 0x03: what a blocked spoke waits for (R55). -/
def waitItem (s : State) (g : Nat) : Word :=
  let sp := spk s g
  match sp.st, sp.wait with
  | .blocked, some (.input ch _) => orAll [ch, 0 <<< 14]
  | .blocked, some (.closing ch _ _) => orAll [ch, 1 <<< 14]
  | .blocked, some (.position ch _) => orAll [ch, 2 <<< 14]
  | .blocked, some (.lock a _) => orAll [queuedAt s g a, 3 <<< 14]
  | _, _ => 0

/-- A context item (R55). -/
def ctxItem (s : State) (g i : Nat) : Word :=
  let sp := spk s g
  match i with
  | 0 => stateItem s g
  | 1 => (sp.failPc.getD sp.pc).setWidth 32
  | 2 => sp.tsw
  | 3 => waitItem s g
  | _ => if 16 ≤ i then (sp.g.toArray[i - 16]?).getD 0 else 0

/-- The members of a deadlock group. -/
def dlMembers (s : State) (cl grp : Nat) : List Nat :=
  (s.spokes.filter fun e => clusterOf e.1 == cl && (e.2.dlgroup.map (·.val)) == some grp).map (·.1)

/-- A descriptor ring is enabled: its link is, in a mode other than off (R192, R198, R214). The manual gives no enable bit of a ring: the
model's choice (log entry 19). -/
def ringOn (s : State) (l : Nat) : Bool := linkOn s l

/-- A channel has an armed external feeder (R54). -/
def chanFed (s : State) (ch : Nat) (c : Chan) : Bool :=
  let fed (e : Endpoint) : Bool := match e.kind with
    | .engine => (ctxAt s (e.id / 64) (e.id % 64)).st != .off && (ctxAt s (e.id / 64) (e.id % 64)).st != .held && !(chry s (groupOfEng (e.id / 64))).active
    | .timer => (timer s (Fin.ofNat 32 e.id)).run
    | .cadence => s.cad.evts.any fun x => bits x.2.cfg 12 3 == 1 && x.2.act.toNat % 2 ^ 14 == ch
        && (x.2.st == .armed || x.2.pend.isSome)
    | .dma => (List.range 64).any fun l => (strChan s l false == ch || strChan s l true == ch) && ringOn s l
    | .fabric => s.fab.up
    | .mailbox => true
    | .terminal => s.pwr.vdbgGood
    | _ => false
  fed c.writer || fed c.reader

/-- An object that a blocked spoke awaits has an armed external feeder (R54). -/
def waitFed (s : State) (members : List Nat) (sp : Spoke) : Bool :=
  match sp.wait with
  | some (.input ch _) | some (.closing ch _ _) | some (.position ch _) => chanFed s ch (chan s ch)
  | some (.lock a _) =>
    match findLock s a with
    | some i => !(members.any fun g => lockIdSpoke s g == (lockEnt s i).holder)
    | none => true
  | none => true

/-- Every member of a declared group is blocked now. -/
def dlAllBlocked (s : State) (cl grp : Nat) : Bool :=
  let m := dlMembers s cl grp
  m != [] && m.all fun g => (spk s g).st == .blocked

/-- Some awaited object of the group is fed now. -/
def dlFed (s : State) (cl grp : Nat) : Bool :=
  let m := dlMembers s cl grp
  m.any fun g => (spk s g).st == .blocked && waitFed s m (spk s g)

/-- The SPK region (R55). -/
def viewSpk (s : State) (off : Nat) : Word :=
  if off < 0x14D00 then
    let c := (off - 0x14000) / 0x40
    let b := 0x14000 + 0x40 * c
    let sel := reg s (b + 0x18)
    let cr := reg s (b + 0x10)
    let map (p : Spoke → Bool) : Word := bitmap 32 fun i => p (coreSpoke s c i)
    match off - b with
    | 0x00 =>
      match s.cores.toArray[c]? with
      | some k => orAll [c, k.logical <<< 8, (k.logical / 4) <<< 16,
          (match k.role with | .service => 0 | .spare => 1 | .lent => 2 | .retired => 3) <<< 20]
      | none => 0
    | 0x0C =>
      let pos (len : Nat) : Nat := (2 * s.bc - ((s.cores.toArray[c]?).map (·.crStart)).getD 0) % max 1 len
      orAll [pos (fld s (b + 8) 0 7), pos (fld s (b + 8) 16 7) <<< 16]
    | 0x14 => item s (b + 0x14) (bits cr 0 6 + 64 * bits cr 8 1)
    | 0x1C => match servedCore s c with
      | some l => ctxItem s (32 * l + bits sel 0 5) (bits sel 8 5)
      | none => 0
    | 0x20 => map fun sp => sp.st == .blocked
    | 0x24 => map fun sp => sp.listed && (sp.st == .deferred || sp.st == .stopped)
    | 0x2C => map fun sp => sp.st == .halted
    | _ => reg s off
  else
    let cl := fld s 0x14D08 0 4
    let grp := fld s 0x14D08 4 5
    let d := tget {} s.dl (32 * cl + grp)
    let ch := fld s 0x14D14 0 14
    let c := chan s ch
    match off with
    | 0x14D00 =>
      (bitmap 13 fun k => (List.range 52).any fun p =>
          ((servedCore s p).getD 64) / 4 == k && flg s (0x14004 + 0x40 * p) 2 && reg s (0x14028 + 0x40 * p) != 0)
        ||| (bitmap 13 fun k => s.dl.any fun e => e.1 / 32 == k && e.2.deadlock) <<< 16
        ||| (if reg s 0x14D10 = 0 then 0 else 0x20000000)
    | 0x14D0C =>
      let m := dlMembers s cl grp
      orAll [b2n (m != []), b2n (dlAllBlocked s cl grp) * 2, b2n (dlFed s cl grp) * 4, b2n d.deadlock * 8,
        m.length <<< 8, d.elapsed <<< 16]
    | 0x14D18 =>
      let blocked (p : Wait → Bool) : Bool := s.spokes.any fun e => e.2.st == .blocked && (e.2.wait.any p)
      let kindCode (k : EndKind) : Nat := match k with
        | .none => 0 | .spoke => 1 | .engine => 2 | .cadence => 3 | .timer => 4 | .dma => 5 | .fabric => 6
        | .lock => 7 | .mailbox => 8 | .terminal => 9 | .system => 0xA
      let far (e : Endpoint) : Bool := e.kind == .spoke && clusterOf e.id != ch / 1024
      orAll [c.fifo.length, c.staged.length <<< 4,
        b2n (blocked fun w => match w with | .closing k _ _ => k == ch | _ => false) <<< 7,
        b2n (blocked fun w => match w with | .input k _ | .position k _ => k == ch | _ => false) <<< 8,
        b2n (c.waiting != []) <<< 9, b2n (far c.writer || far c.reader) <<< 10, b2n c.rdisc <<< 11,
        kindCode c.writer.kind <<< 12, kindCode c.reader.kind <<< 16,
        (bitmap 8 fun i => (c.fifo[i]?.map (·.last)).getD false).toNat <<< 20]
    | 0x14D1C =>
      let i := fld s 0x14D14 16 4
      if i < 8 then (c.fifo[i]?.map (·.word)).getD 0 else (c.staged[i - 8]?).getD 0
    | _ => reg s off

/-! ## Cadence (R36) -/

/-- The STAT bits of an axis that its CTL passes to CAD_CAUSE. -/
def axEnabled (s : State) (n : Nat) : Word :=
  let e (i : Nat) (m : Word) : Word := if flg s (axReg n 0) i then m else 0
  e 16 0x300 ||| e 17 0x31C00 ||| e 18 0x2000 ||| e 19 0xC000

/-- The CAD region. -/
def viewCad (s : State) (off : Nat) : Word :=
  if off < 0x4440 then
    let n := (off - 0x4000) / 0x40
    if h : n < 17 then
      let a := axis s ⟨n, h⟩
      match (off - 0x4000) % 0x40 with
      | 0x04 => if n = 0 then putBits (reg s off) 0 3 5 else reg s off
      | 0x1C => reg s off ||| orAll [axState a, b2n a.disAct * 4, b2n a.onSec * 8, b2n a.uncertain * 16]
      | _ => reg s off
    else 0
  else
    let x := evt s (evtSel s)
    match off with
    | 0x4804 =>
      (bitmap 17 fun n => (reg s (axReg n 0x1C) &&& axEnabled s n) != 0)
        ||| orAll [
          b2n (s.cad.evts.any fun e => bit e.2.cfg 11 && flg s (0x4880 + 4 * (e.1 / 32)) (e.1 % 32)) <<< 17,
          b2n (s.cad.evts.any (·.2.lost)) <<< 18, b2n (s.cad.evts.any fun e => e.2.st == .aborted) <<< 19,
          b2n (flg s 0x4824 31) <<< 20, b2n s.cad.ownerRef <<< 21]
    | 0x4814 => putBit x.cfg 6 (x.st == .armed)
    | 0x4818 => orAll [x.act.toNat,
        (match x.st with | .disarmed => 0 | .armed => 1 | .fired => 2 | .aborted => 3) <<< 28, b2n x.lost <<< 30,
        b2n x.pend.isSome <<< 31]
    | 0x481C => BitVec.ofNat 32 (evtTarget s x)
    | 0x4820 => BitVec.ofNat 32 (evtTarget s x / 2 ^ 32)
    | _ => reg s off

/-! ## Lock unit and performance counters -/

/-- The LCK region (R191). -/
def viewLck (s : State) (off : Nat) : Word :=
  let e := lockEnt s (fld s 0x6014 0 12)
  match off with
  | 0x6000 => orAll [b2n (flg s 0x600C 0 && flg s 0x6008 0), b2n (anyBit s 0x600C 6 && flg s 0x6008 1) * 2,
      b2n (anyBit s 0x600C 0x18 && flg s 0x6008 2) * 4, b2n (flg s 0x600C 6 && flg s 0x6008 3) * 8, b2n (flg s 0x600C 5) * 16,
      b2n ([0x603C, 0x6040, 0x6044, 0x6048].any fun o => flg s o 31) * 32]
  | 0x6010 => orAll [lockUsed s, s.lck.peak <<< 16]
  | 0x6018 => BitVec.ofNat 32 (if e.st = .free then 0 else e.addr)
  | 0x601C => orAll [(match e.st with | .free => 0 | .held => 1 | .halted => 2 | .abandoned => 3),
      e.waiters.length <<< 2, e.holder.toNat <<< 16]
  | 0x6024 => ((e.waiters[fld s 0x6020 0 6]?).getD 0).setWidth 32
  | 0x602C => match findLock s (fld s 0x6028 2 24 * 4) with
    | some i => orAll [i, 2 ^ 31]
    | none => 0
  | _ => reg s off

/-- The hold of a reader for the counters' high words (R229). -/
def pmcHeld (s : State) : Source → BitVec 16
  | .host => s.pmc.holdHost
  | .debug => s.pmc.holdDbg
  | .spoke g => (spk s g).pmcHold

/-- The PMC region (R232). -/
def viewPmc (s : State) (src : Source) (off : Nat) : Word :=
  let c := fld s 0x6814 0 6
  match off with
  | 0x6800 => if flg s 0x6808 2 then bitmap 13 fun k => (List.range 52).any fun p =>
      ((servedCore s p).getD 64) / 4 == k && (pmcCore s p).wrap != 0 else 0
  | 0x6810 => orAll [b2n s.pmc.frozen, b2n s.pmc.snapValid * 2, b2n (s.dbg.frz && flg s 0x6808 1) * 4]
  | 0x6818 => ((pmcCore s c).evt.toArray[fld s 0x6814 8 5]?).getD 0
  | 0x681C => (pmcSel s).setWidth 32
  | 0x6820 => pmcHigh s (pmcHeld s src) (pmcSel s)
  | 0x6824 => (pmcCore s c).wrap.setWidth 32
  | 0x6828 => (pmcCore s c).user
  | _ => reg s off

/-! ## Memory (R180) -/

/-- The physical arrays that serve no logical bank, ascending. -/
def idleArrays (s : State) : List Nat := (List.range 34).filter fun p => (servedBy s p).isNone

/-- The physical array of an instance. -/
def instArray (s : State) (n : Nat) : Nat := if n < 32 then physOf s n else (idleArrays s).getD (n - 32) 0

/-- The MAP register of an instance. -/
def mapWord (s : State) (n : Nat) : Word :=
  let p := instArray s n
  let rows := (List.range 8).foldl (fun m j => max m (rowsUsed s.mem p j)) 0
  orAll [p, rows <<< 8,
    (match (s.mem.roles.toArray[p]?).getD .spare with | .service => 0 | .spare => 1 | .retired => 2 | .target => 3) <<< 16]

/-- The leaf bits of a bank that its CTL passes. -/
def bankEnabled (s : State) (n : Nat) : Word :=
  let e (i : Nat) (m : Word) : Word := if flg s (bankReg n 4) i then m else 0
  e 8 0xF ||| e 9 0x70 ||| e 10 0x780

/-- The MEM region. -/
def viewMem (s : State) (off : Nat) : Word :=
  if off < 0x7440 then
    let n := (off - 0x7000) / 0x20
    match (off - 0x7000) % 0x20 with
    | 0x00 =>
      match s.mem.banks.toArray[n]? with
      | some k => reg s off ||| orAll [k.owner.toNat, b2n k.pending.isSome <<< 28]
      | none => 0
    | 0x04 => if n < 32 then reg s off else 0
    | 0x10 => nownView s n
    | 0x14 => mapWord s n
    | _ => reg s off
  else
    let r := remapAt s.mem (fld s 0x782C 0 11)
    let full := decide (remapMax ≤ remapLen s.mem)
    match off with
    | 0x7800 => (bitmap 17 fun i => [2 * i, 2 * i + 1].any fun n => (reg s (bankReg n 8) &&& bankEnabled s n) != 0)
        ||| orAll [b2n (s.mem.rowDue != []) <<< 24, b2n (s.mem.spNeed != []) <<< 25, b2n s.mem.spDone <<< 26,
          b2n (!s.mem.roles.toArray.contains ArrayRole.spare) <<< 27, b2n full <<< 28, b2n (flg s 0x7844 29) <<< 29,
          b2n ((List.range 22).any fun i => bit (item s 0x7828 i) 31) <<< 30]
    | 0x7818 => orAll [s.mem.region, 0,
        b2n s.mem.copying.isSome <<< 18, s.mem.passes.toNat <<< 24]
    | 0x7828 =>
      let i := fld s 0x7824 0 5
      putBits (item s 0x7828 i) 0 31 (((s.mem.conf.toArray[i]?).getD 0).toNat >>> 17)
    | 0x7830 => r.setWidth 32
    | 0x7834 => r.extractLsb' 32 32
    | 0x7838 => orAll [remapLen s.mem, s.mem.unmir <<< 16, b2n full <<< 31]
    | 0x7840 => 0
    | _ => reg s off

/-! ## Timers (R231) -/

/-- The STAT bits of a timer that its CTL passes. -/
def tmrEnabled (s : State) (n : Fin 32) : Word :=
  let e (i : Nat) (m : Word) : Word := if flg s (tmrReg n 0) i then m else 0
  e 27 0x100 ||| e 28 0x200 ||| e 29 0x3C00

/-- The TMR region. -/
def viewTmr (s : State) (off : Nat) : Word :=
  if off < 0x8800 then
    let n : Fin 32 := Fin.ofNat 32 ((off - 0x8000) / 0x40)
    let t := timer s n
    match (off - 0x8000) % 0x40 with
    | 0x08 => t.reload.setWidth 32
    | 0x0C => t.reload.extractLsb' 32 32
    | 0x10 => t.match_.setWidth 32
    | 0x14 => t.match_.extractLsb' 32 32
    | 0x18 => t.latch.setWidth 32
    | 0x1C => t.latch.extractLsb' 32 32
    | 0x20 => capqView t
    | 0x24 => reg s off ||| orAll [b2n t.run, t.capq.length * 2, b2n t.tok.isSome * 16, b2n s.dbg.frz * 32]
    | _ => reg s off
  else
    match off with
    | 0x8800 => bitmap 32 fun n => (reg s (tmrReg n 0x24) &&& tmrEnabled s (Fin.ofNat 32 n)) != 0
    | 0x8814 => item s 0x8814 (4 * fld s 0x8810 0 5 + fld s 0x8810 8 2)
    | 0x8818 => bitmap 32 fun n => (timer s (Fin.ofNat 32 n)).run
    | _ => reg s off

/-! ## Pin engines (R142, R143) -/

/-- Engine e has an enabled STAT bit. -/
def engSum (s : State) (e : Nat) : Bool := flg s (engReg e 0) 16 && reg s (engReg e 0x1C) != 0

/-- Engine e has a context in HELD. -/
def engHeld (s : State) (e : Nat) : Bool := (eng s e).ctxs.any fun c => c.2.st == .held

/-- The PEN region. -/
def viewPen (s : State) (off : Nat) : Word :=
  if off < 0xA800 then
    let e := (off - 0xA000) / 0x20
    let x := eng s e
    match (off - 0xA000) % 0x20 with
    | 0x08 => reg s off ||| orAll [b2n x.active, b2n x.pending * 8, (leftCtxs x).length <<< 4]
    | 0x10 =>
      let a := reg s (engReg e 0xC)
      let k := b2n (!x.active) * 256 + bits a 0 8
      if bit a 8 then
        let r := tget (0, false) x.reloc k
        orAll [r.1.toNat, b2n r.2 <<< 8]
      else
        let w := tget {} x.store k
        orAll [w.insn.toNat, b2n w.seam <<< 12, b2n w.loop <<< 13]
    | 0x18 =>
      let sel := reg s (engReg e 0x14)
      readCtxItem (ctxAt s e (bits sel 0 6)) (bits sel 8 4)
    | _ => reg s off
  else
    match off with
    | 0xA800 => bitmap 8 fun g => (List.range 8).any fun i => engSum s (8 * g + i)
    | 0xA808 => bitmap 32 (engSum s)
    | 0xA80C => bitmap 32 fun i => engSum s (32 + i)
    | 0xA820 => bitmap 8 fun g => (chry s (Fin.ofNat 8 g)).active
    | 0xA828 => bitmap 32 (engHeld s)
    | 0xA82C => bitmap 32 fun i => engHeld s (32 + i)
    | _ => reg s off

/-! ## Links and fabric port (R214, R215) -/

/-- Link l has an enabled STAT bit; UP is no record and passes nothing (DEDUCED, log entry 30). -/
def linkSum (s : State) (l : Nat) : Bool :=
  flg s (quadReg l 0) 8 && (fld s (quadReg l 8) (8 * (l % 4) + 1) 7 != 0)

/-- The STR region. -/
def viewStr (s : State) (off : Nat) : Word :=
  if off < 0xE400 then
    let q := (off - 0xE000) / 0x40
    let b := 0xE000 + 0x40 * q
    let sel := reg s (b + 0x10)
    let l := 4 * q + bits sel 0 2
    let tx := bit sel 2
    let k := link s l
    let ls := List.range 4
    match off - b with
    | 0x08 => ls.foldl (fun w i => putBit w (8 * i) (linkUp s (4 * q + i))) (reg s off)
    | 0x0C => orAll ([b2n (s.released && flg s b 0 && s.pwr.vsdGood)]
        ++ ls.map (fun i => b2n (link s (4 * q + i)).sync <<< (4 + i))
        ++ ls.map fun i => b2n ((link s (4 * q + i)).sync && fecOn s (4 * q + i)) <<< (8 + i))
    | 0x14 => item s (b + 0x14) (ringIx l tx)
    | 0x18 => (if tx then k.txHead else k.rxHead).setWidth 32
    | 0x1C => (if tx then k.txTail else k.rxTail).setWidth 32
    | 0x20 => item s (b + 0x20) (ringIx l tx)
    | 0x24 => orAll [k.major.toNat, k.minor.toNat <<< 8, k.caps.toNat <<< 16, b2n k.gearValid <<< 24]
    | 0x28 => item s (b + 0x28) (bits sel 0 2)
    | 0x2C => (k.cnt.toArray[bits sel 8 3]?).getD 0
    | _ => reg s off
  else
    match off with
    | 0xE400 => (bitmap 16 fun q => (List.range 4).any fun i => linkSum s (4 * q + i))
        ||| orAll [b2n (flg s 0xE414 8 && anyBit s 0xE418 0xE) <<< 16, b2n s.str.dropWrap <<< 17]
    | 0xE40C => bitmap 32 (linkSum s)
    | 0xE410 => bitmap 32 fun i => linkSum s (32 + i)
    | 0xE418 => reg s off ||| orAll [b2n s.str.inSync, s.str.peerRole.toNat <<< 4]
    | 0xE428 => BitVec.ofNat 32 (min 0xFFFF s.str.lag)
    | 0xE42C => s.str.peerCount
    | 0xE434 => BitVec.ofNat 32 (locksHeld s lockIdSTR)
    | _ => reg s off

/-- The counters of the fabric port. -/
def fabCounters : List Nat := (List.range 11).map fun i => 0x12064 + 4 * i

/-- The code of a peloton state. -/
def pelCode : PelState → Nat
  | .free => 0 | .queued => 1 | .dispatched => 2 | .recorded => 3 | .held => 4

/-- The FAB region. -/
def viewFab (s : State) (off : Nat) : Word :=
  let grp := fld s 0x12030 0 8
  let p := pel s (fld s 0x12044 0 12)
  match off with
  | 0x12000 => orAll [b2n (anyBit s 0x1200C 6), b2n (anyBit s 0x1200C 0x38 && flg s 0x12008 8) * 2,
      b2n (flg s 0x1200C 6 && flg s 0x12008 8) * 4, b2n (flg s 0x1200C 7) * 8, b2n (fabCounters.any fun o => flg s o 31) * 16]
  | 0x1200C => reg s off ||| BitVec.ofNat 32 (b2n s.fab.up)
  | 0x12018 => BitVec.ofNat 32 s.fab.crdWork
  | 0x1201C => BitVec.ofNat 32 s.fab.crdExc
  | 0x12020 => BitVec.ofNat 32 s.fab.crdData
  | 0x12024 => orAll [s.fab.crdResult % 2 ^ 16, (s.fab.crdRsp % 2 ^ 16) <<< 16]
  | 0x1202C => item s 0x1202C (fld s 0x12028 0 8)
  | 0x12034 =>
    let l := groupSpokes s (grp / 16) (grp % 16)
    orAll [l.length % 64, ((l.filter (readySpoke s)).length % 64) <<< 8,
      ((s.fab.queue.filter fun e => e.1 / 16 == grp).length % 2048) <<< 16]
  | 0x1203C => BitVec.ofNat 32 ((s.fab.queue.filter fun e => e.1 == fld s 0x12038 0 12).length)
  | 0x12040 => BitVec.ofNat 32 (pelUsed s)
  | 0x12048 => p.ticket
  | 0x1204C => orAll [p.flow.toNat, pelCode p.st <<< 20, p.status.toNat <<< 23]
  | 0x12058 => BitVec.ofNat 32 s.fab.tokens
  | 0x1205C => s.fab.lastTicket
  | 0x12060 => s.fab.lastFlow.setWidth 32
  | 0x12090 => BitVec.ofNat 32 (locksHeld s lockIdFAB)
  | 0x12094 => BitVec.ofNat 32 (fabHeld s)
  | 0x1209C => BitVec.ofNat 32 (b2n (s.fab.up && s.fab.gotResult && s.fab.gotRsp))
  | _ => reg s off

/-! ## Power and field energy (R252, R253, R153) -/

/-- The power register region. -/
def viewPwr (s : State) (off : Nat) : Word :=
  let p := s.pwr
  match off with
  | 0x800 => orAll [b2n (anyBit s 0x80C 0xF00), b2n (anyBit s 0x80C 0x3000) * 2, b2n (anyBit s 0x80C 0x1C000) * 4,
      b2n (anyBit s 0x80C 0x60000 || p.fresh) * 8]
  | 0x80C => (reg s off &&& 0x7FF00) ||| orAll [b2n (downshift s), b2n p.dsSag * 2, b2n p.dsTherm * 4, b2n p.dsForced * 8, b2n p.fresh <<< 19]
  | 0x814 => p.vset.setWidth 32
  | 0x818 => p.vmeas.setWidth 32
  | 0x81C => p.railGood.setWidth 32
  | 0x838 => ((p.temps.toArray[fld s 0x834 0 3]?).getD 0).setWidth 32
  | 0x83C => tempMaxWord s
  | 0x844 => ((p.margins.toArray[fld s 0x840 0 4]?).getD 0).setWidth 32
  | 0x848 => (p.ageRef.toArray[fld s 0x840 0 4]?).getD 0
  | 0x850 => orAll [(match p.seqRun with | some (true, _) => 1 | some (false, _) => 2 | none => 0), b2n p.seqRef * 4]
  | 0x858 => (p.seqTab.toArray[fld s 0x854 0 5]?).getD 0
  | 0x85C => (((tget (Vector.replicate 4 0) p.tel (fld s 0x854 0 5)).toArray[fld s 0x854 8 2]?).getD 0).setWidth 32
  | 0x890 => ((p.rails.toArray[fld s 0x88C 0 4]?).getD 0).setWidth 32
  | _ => reg s off

/-- The active cause of a group with the highest number (R145). -/
def topCause (c : Chrysalis) : Nat := (List.range 8).foldl (fun m i => if c.causes.getLsbD i then i else m) 0

/-- CHRY_STAT of a group. -/
def chryStatView (s : State) (g : Fin 8) : Word :=
  let c := chry s g
  (reg s (chryStatReg g.val) &&& 0x7000) ||| orAll [b2n c.active, topCause c <<< 1, c.pc.toNat <<< 4, b2n c.f <<< 10, b2n c.halted <<< 11,
    b2n (g == 0 && c.bootDone) <<< 15, c.result.toNat <<< 16]

/-- The NRG region. -/
def viewNrg (s : State) (off : Nat) : Word :=
  if off < 0xE00 then
    let g : Fin 8 := Fin.ofNat 8 ((off - 0xC00) / 0x40)
    let n := s.nrg[g]
    let i := fld s (nrgReg g.val 0x18) 0 6
    match (off - 0xC00) % 0x40 with
    | 0x00 => orAll [n.straps.uo.toNat, n.straps.io.toNat <<< 16]
    | 0x04 => orAll [n.straps.po.toNat, n.straps.co.toNat <<< 16]
    | 0x08 => n.limI.setWidth 32
    | 0x0C => n.limE.setWidth 32
    | 0x1C =>
      orAll [((n.pinLim.toArray[i]?).getD 0).toNat, b2n (pinAt s (64 * g.val + i)).out <<< 4, ((n.cur.toArray[i]?).getD 0).toNat <<< 8]
    | 0x20 => measWord n false
    | 0x24 => measWord n true
    | 0x2C => chryStatView s g
    | _ => reg s off
  else
    let all (p : Fin 8 → Bool) : Word := bitmap 8 fun g => p (Fin.ofNat 8 g)
    match off with
    | 0xE00 => all fun g => flg s (nrgReg g.val 0x10) 8 && reg s (nrgReg g.val 0x14) != 0
    | 0xE10 => all fun g => s.nrg[g].vioGood
    | 0xE14 => all fun g => s.nrg[g].fold
    | 0xE18 => all fun g => (chry s g).causes.getLsbD 3
    | _ => reg s off

/-! ## Configuration (R298) -/

/-- The code of a copy state. -/
def copyCode : CopyState → Nat
  | .valid => 0 | .staged => 1 | .writing => 2 | .empty => 3

/-- The code of the loader's state. -/
def cfgCode : CfgState → Nat
  | .empty => 0 | .loading => 1 | .checking => 2 | .applying => 3 | .applied => 4 | .committed => 5

/-- The code of the molt's state. -/
def moltCode : MoltState → Nat
  | .idle => 0 | .staging => 1 | .staged => 2 | .armed => 3 | .applying => 4 | .copying => 5

/-- The CFG region. -/
def viewCfg (s : State) (off : Nat) : Word :=
  let l := s.cfg
  let c (i : Fin 3) : Copy := l.copies[i]
  match off with
  | 0x1000 => orAll [b2n (flg s 0x100C 16), b2n (flg s 0x100C 17) * 2, b2n (flg s 0x100C 18) * 4,
      b2n (anyBit s 0x100C 0x180000) * 8, b2n l.moltDone * 16, b2n (l.st == .applied) * 32]
  | 0x100C => (reg s off &&& 0x3F0000) ||| orAll [cfgCode l.st, copyCode (c 0).st <<< 4, copyCode (c 1).st <<< 6, copyCode (c 2).st <<< 8,
      l.active <<< 10]
  | 0x1024 => l.gen
  | 0x1028 => if l.molt = .staged ∨ l.molt = .armed then l.stagedGen else 0
  | 0x102C => orAll [l.gear.toNat, 0x0101 <<< 16]
  | 0x1038 => (c 0).gen
  | 0x103C => (c 1).gen
  | 0x1040 => (c 2).gen
  | 0x1044 => orAll [l.line, b2n l.force <<< 8, l.regions.length <<< 16]
  | 0x1048 => orAll [moltCode l.molt, l.left.length <<< 8, b2n l.moltDone <<< 16]
  | 0x1050 => (l.regions[fld s 0x104C 0 8]?).getD 0
  | 0x1064 => orAll [l.scanCopy, b2n l.scanBusy * 4, l.scanPasses.toNat <<< 8]
  | 0x106C => l.divWord.setWidth 32
  | 0x1074 => item s 0x1074 (fld s 0x1070 0 4)
  | 0x1078 => (bitmap 4 fun i => (Sys2Proof.Config.otpKeyHash (Fin.ofNat 4 i)).isSome)
      ||| (bitmap 4 fun i => Sys2Proof.Config.otpRevoked (Fin.ofNat 4 i)) <<< 4 ||| (l.usedSlot.setWidth 32) <<< 8
  | 0x107C => Sys2Proof.Config.otpMinGen
  | 0x108C => 0
  | 0x1094 => item s 0x1094 (fld s 0x1090 0 10)
  | 0x1098 => item s 0x1098 (fld s 0x1090 0 10)
  | 0x109C => item s 0x109C (fld s 0x1090 0 10)
  | 0x10A0 => BitVec.ofNat 32 l.lockN
  | 0x10A4 => l.lockCrc
  | _ => reg s off

/-! ## Availability (R275) -/

/-- The code of a pair state. -/
def pairCode : PairState → Nat
  | .unused => 0 | .running => 1 | .replay => 2 | .vote => 3 | .repairing => 4 | .safe => 5

/-- Idle spare cores: of role spare and in no vote. -/
def idleSpares (s : State) : List Nat :=
  (List.range 52).filter fun p => match s.cores.toArray[p]? with
    | some k => k.role == .spare && !k.voting
    | none => false

/-- The AVL region. -/
def viewAvl (s : State) (off : Nat) : Word :=
  let x := pairAt s (fld s 0x2110 0 10)
  let e := (s.avl.log[fld s 0x2148 0 6]?).getD ⟨0, 0, 0, 0⟩
  let retired (p : Nat) : Bool := match s.cores.toArray[p]? with
    | some k => k.role == .retired
    | none => false
  match off with
  | 0x2100 => (bitmap 13 fun k => reg s (0x2008 + 0x10 * k) != 0)
      ||| orAll [b2n (anyBit s 0x210C 3) <<< 16, b2n (reg s 0x2160 != 0) <<< 17, b2n (idleSpares s == []) <<< 18,
        b2n (anyBit s 0x215C 0x300) <<< 19, b2n (flg s 0x2154 31 || flg s 0x2158 31) <<< 20]
  | 0x210C => putBit (reg s off) 2 (idleSpares s == [])
  | 0x2114 => orAll [x.leader.toNat, x.follower.toNat <<< 11, x.react.toNat <<< 22, b2n x.mirror <<< 24]
  | 0x2118 => orAll [pairCode x.st, (x.gate.filter (!·.isFault)).length <<< 8, (logBytes x % 2 ^ 13) <<< 16, b2n x.pend.isSome <<< 29]
  | 0x211C => orAll [x.cntTrans.toNat, x.cntLast.toNat <<< 16, x.cntForced.toNat <<< 24]
  | 0x2120 =>
    let role (i : Nat) : Nat := match s.cores.toArray[48 + i]? with
      | some k => if k.voting then 1 else match k.role with | .lent => 2 | .retired => 3 | _ => 0
      | none => 0
    orAll [role 0, role 1 <<< 2, role 2 <<< 4, role 3 <<< 6, (idleSpares s).length <<< 8]
  | 0x2124 => bitmap 32 retired
  | 0x2128 => bitmap 20 fun i => retired (32 + i)
  | 0x2134 => BitVec.ofNat 32 s.avl.bwdgLeft
  | 0x213C =>
    let g := fld s 0x2138 0 11
    orAll [bits (item s 0x213C g) 0 16, min 0xFFFF (spk s g).wdgLeft <<< 16]
  | 0x214C => orAll [e.kind.toNat, e.code.toNat <<< 8, e.who.toNat <<< 16]
  | 0x2150 => e.time
  | 0x215C => reg s off ||| (s.avl.role.setWidth 32) <<< 4
  | _ => reg s off

/-! ## Debug (R339) -/

/-- The key of the comparator that DBG_CMP_SEL names. -/
def cmpKey (s : State) : Nat := fld s 0x302C 8 6 * 8 + fld s 0x302C 0 3

/-- The DBG region; it reads zero while VDBG is off (R311). -/
def viewDbg (s : State) (off : Nat) : Word :=
  if ¬ s.pwr.vdbgGood then 0
  else
    let c := tget {} s.dbg.cmps (cmpKey s)
    let halted (l : Nat) : Bool := (List.range 32).any fun i => (spk s (32 * l + i)).st == .halted
    match off with
    | 0x3000 => BitVec.ofNat 32 (fld s 0x3008 8 6)
    | 0x3008 => reg s off ||| orAll [s.dbg.level.toNat, b2n s.dbg.session * 4]
    | 0x3018 => BitVec.ofNat 32 (b2n s.dbg.frz)
    | 0x301C => bitmap 32 halted
    | 0x3020 => bitmap 16 fun i => halted (32 + i)
    | 0x3028 => BitVec.ofNat 32 (b2n (pairAt s (fld s 0x3024 0 10)).maint)
    | 0x3030 => c.cfg.setWidth 32
    | 0x3034 => c.qual
    | 0x3038 => c.lo
    | 0x303C => c.hi
    | 0x3040 => c.val
    | 0x3044 => c.mask
    | _ => reg s off

/-! ## Mailbox, IRQ and BLK (R305 to R315) -/

/-- The channel of TX slot n, or of RX slot n: the n-th in ascending identifier whose writer, or reader, is the mailbox (R307). -/
def txChan (s : State) (n : Nat) : Option Nat := (chansWhere s fun c => c.writer.kind == .mailbox)[n]?
def rxChan (s : State) (n : Nat) : Option Nat := (chansWhere s fun c => c.reader.kind == .mailbox)[n]?

/-- MBX_CAUSE. -/
def mbxCause (s : State) : Word :=
  (bitmap 8 fun n => match rxChan s n with
    | some ch => (chan s ch).fifo != []
    | none => false)
  ||| (bitmap 8 fun n => match txChan s n with
    | some ch => !((s.host.tx.toArray[n]?.map (·.pend)).getD false) && decide (4 ≤ room s ch)
    | none => false) <<< 8
  ||| (if flg s 0x41C 0 && reg s 0x418 != 0 then 0x10000 else 0)

/-- BLK_CAUSE. -/
def blkCause (s : State) : Word :=
  orAll [b2n (flg s 0x18 0), b2n (flg s 0x18 1) * 2, b2n (flg s 0x18 2) * 4, b2n (flg s 0x28 31) * 8, b2n (flg s 0x18 3) * 16]

/-- IRQ_SUM: each subsystem with an enabled cause (R305). -/
def irqSum (s : State) : Word :=
  let l : List (Word × Nat) := [(viewCfg s 0x1000, 0x1004), (viewCad s 0x4804, 0x4808), (viewSpk s 0x14D00, 0x14D04),
    (viewPen s 0xA800, 0xA804), (viewMem s 0x7800, 0x7804), (viewLck s 0x6000, 0x6004), (viewTmr s 0x8800, 0x8804),
    (viewPmc s .host 0x6800, 0x6804), (viewStr s 0xE400, 0xE404), (viewFab s 0x12000, 0x12004), (viewPwr s 0x800, 0x804),
    (viewNrg s 0xE00, 0xE04), (viewAvl s 0x2100, 0x2104), (viewDbg s 0x3000, 0x3004), (mbxCause s, 0x414), (blkCause s, 0x14)]
  bitmap 16 fun i => match l[i]? with
    | some e => (e.1 &&& reg s e.2) != 0
    | none => false

/-- The irq line (R305, R306): low while the core domains are in reset. -/
def irqLine (s : State) : Bool :=
  live s && flg s 0x40C 0 && ((irqSum s &&& reg s 0x404) != 0 || flg s 0x40C 1)

/-- The hold of a reader for BLK_BC_HI. -/
def bcHeld (s : State) : Source → Word
  | .host => s.host.bcHold
  | .debug => s.dbg.bcHold
  | .spoke g => (spk s g).bcHold

/-- The IRQ region. -/
def viewIrq (s : State) (off : Nat) : Word :=
  if 0x440 ≤ off then
    let n := (off - 0x440) / 0x20
    let t := (s.host.tx.toArray[n]?).getD {}
    match (off - 0x440) % 0x20 with
    | 0x08 =>
      let rest := match txChan s n with
        | some ch => [room s ch <<< 4, 1 <<< 8, ch <<< 16]
        | none => []
      orAll ([t.staged.length, b2n t.pend * 8] ++ rest)
    | 0x0C => match rxChan s n with
      | some ch => ((chan s ch).fifo.head?.map (·.word)).getD 0
      | none => 0
    | 0x10 =>
      let rest := match rxChan s n with
        | some ch => [(chan s ch).fifo.length, 1 <<< 8, ch <<< 16]
        | none => []
      orAll ([b2n (s.host.rxEom.getLsbD n) * 16, b2n (s.host.rxChe.getLsbD n) * 32] ++ rest)
    | _ => 0
  else
    match off with
    | 0x400 => irqSum s
    | 0x408 => irqSum s &&& reg s 0x404
    | 0x40C => putBit (reg s off) 2 (irqLine s)
    | 0x410 => mbxCause s
    | _ => reg s off

/-- The BLK region. -/
def viewBlk (s : State) (src : Source) (off : Nat) : Word :=
  match off with
  | 0x10 => blkCause s
  | 0x20 =>
    let i := fld s 0x1C 0 4
    match s.host.pins.toArray[i]? with
    | some p => orAll [0x0101, p.toNat <<< 24]
    | none => 0
  | 0x2C => BitVec.ofNat 32 s.bc
  | 0x30 => bcHeld s src
  | 0x38 => 0
  | 0x3C => orAll [s.host.rstCause.toNat, s.host.rstCount.toNat <<< 16]
  | _ => reg s off

/-- What the register at an offset returns to a reader, before any effect of the read (R6, R7, R302: an offset of a region that
holds no register reads zero). -/
def viewReg (s : State) (src : Source) (off : Nat) : Word :=
  match findReg off with
  | none => 0
  | some _ =>
    if off < 0x400 then viewBlk s src off
    else if off < 0x800 then viewIrq s off
    else if off < 0xC00 then viewPwr s off
    else if off < 0x1000 then viewNrg s off
    else if off < 0x2000 then viewCfg s off
    else if off < 0x3000 then viewAvl s off
    else if off < 0x4000 then viewDbg s off
    else if off < 0x6000 then viewCad s off
    else if off < 0x6800 then viewLck s off
    else if off < 0x7000 then viewPmc s src off
    else if off < 0x8000 then viewMem s off
    else if off < 0xA000 then viewTmr s off
    else if off < 0xE000 then viewPen s off
    else if off < 0x12000 then viewStr s off
    else if off < 0x14000 then viewFab s off
    else viewSpk s off

end Sys2Proof.Machine
end

