-- ==== Sys2Proof/Machine/Access.lean ====
section
/-! DEFINITION. Writes of registers that are no command of their own: the fields a write sets, by access type, with the values a
write ignores (R6 and the chapters' register tables). Commands are dispatched in Machine/HostPort.lean. -/
namespace Sys2Proof.Machine

/-- RWL fields of a register or window item (by its key) no longer take a write: after commit, or once the apply has set them (R6,
R289). -/
def sealed (s : State) (key : Nat) : Bool := s.cfg.committed || s.cfg.locked.contains key

/-- The bits of a register, or of an item behind it, that a write sets. -/
def writable (s : State) (off key : Nat) : Nat :=
  match findReg off with
  | some r => if sealed s key then r.rw else r.rw + r.rwl
  | none => 0

/-- The bits of a register that a written 1 clears. -/
def clearable (off : Nat) : Nat :=
  match findReg off with
  | some r => r.w1c
  | none => 0

/-- A stored word with the writable bits m taken from v and the bits of c that v has set cleared. -/
def mix (old v : Word) (m c : Nat) : Word :=
  ((old &&& ~~~(BitVec.ofNat 32 m)) ||| (v &&& BitVec.ofNat 32 m)) &&& ~~~(v &&& BitVec.ofNat 32 c)

/-- A plain write (R6). -/
def plainWrite (s : State) (off : Nat) (v : Word) : State := setReg s off (mix (reg s off) v (writable s off off) (clearable off))

/-- A plain write of item i behind a window. -/
def plainItem (s : State) (off i : Nat) (v : Word) : State := setItem s off i (mix (item s off i) v (writable s off (off * 65536 + i)) (clearable off))

/-- A plain write that ignores a field whose value is bad. -/
def keepField (old v : Word) (lo n : Nat) (bad : Bool) : Word := if bad then putBits v lo n (bits old lo n) else v

/-- A cluster has a core in maintenance (R269). -/
def inMaint (s : State) (cl : Nat) : Bool :=
  (List.range 52).any fun p => ((servedCore s p).getD 64) / 4 == cl && flg s (0x14004 + 0x40 * p) 0

/-- The cluster watchdog takes its full period (R269). -/
def reloadCluster (s : State) (cl : Nat) : State :=
  { s with avl := { s.avl with clLeft := s.avl.clLeft.setIfInBounds cl (fld s (0x2000 + 0x10 * cl) 0 16) } }

/-- The CAD region. -/
def writeCad (s : State) (off : Nat) (v : Word) : State :=
  if off < 0x4440 then
    let n : Fin 17 := Fin.ofNat 17 ((off - 0x4000) / 0x40)
    match (off - 0x4000) % 0x40 with
    | 0x00 => writeAxisCtl s n v
    | 0x04 => if n = 0 then plainWrite s off (putBits v 0 3 5) else plainWrite s off v
    | 0x08 => if n = 0 then s else plainWrite s off v
    | _ => plainWrite s off v
  else
    let x := evt s (evtSel s)
    match off with
    | 0x4814 => writeEvtCfg s v
    | 0x4818 => setEvt s (evtSel s) { x with act := v.setWidth 20, lost := x.lost && !bit v 30 }
    | 0x481C => { s with cad := { s.cad with stageLo := v } }
    | 0x4820 => writeTargetHi s v
    | 0x483C => writePtpRate s v
    | _ => plainWrite s off v

/-- The TMR region. -/
def writeTmr (s : State) (off : Nat) (v : Word) : State :=
  if off < 0x8800 then
    let n : Fin 32 := Fin.ofNat 32 ((off - 0x8000) / 0x40)
    match (off - 0x8000) % 0x40 with
    | 0x00 => writeTimerCtl s n v
    | 0x08 => onTimer s n fun t => { t with reloadLo := v }
    | 0x0C => writeReloadHi s n v
    | 0x10 => onTimer s n fun t => { t with matchLo := v }
    | 0x14 => writeMatchHi s n v
    | _ => plainWrite s off v
  else if off = 0x8814 then
    let i := fld s 0x8810 8 2
    let n := fld s 0x8810 0 5
    if i = 3 ∨ (i = 0 ∧ fld s (tmrReg n 0) 24 3 = 4 ∧ 16 < bits v 0 5) then s
    else setItem s 0x8814 (4 * n + i) (v &&& (if i = 0 then 0xFFFF else 0x1FFF))
  else plainWrite s off v

/-- The PMC region. -/
def writePmc (s : State) (off : Nat) (v : Word) : State :=
  let c := fld s 0x6814 0 6
  let x := pmcCore s c
  if 52 ≤ c ∧ (off = 0x6818 ∨ off = 0x6824 ∨ off = 0x6828) then s
  else
    match off with
    | 0x6818 =>
      if 0x16 ≤ bits v 0 6 ∨ bits v 8 2 = 3 then s
      else setPmc s c { x with evt := x.evt.setIfInBounds (fld s 0x6814 8 5) (v &&& 0x1F133F) }
    | 0x6824 => setPmc s c { x with wrap := x.wrap &&& ~~~(v.setWidth 18) }
    | 0x6828 => setPmc s c { x with user := v }
    | _ => plainWrite s off v

/-- The MEM region. -/
def writeMem (s : State) (off : Nat) (v : Word) : State :=
  if off < 0x7440 then
    let n := (off - 0x7000) / 0x20
    match (off - 0x7000) % 0x20 with
    | 0x00 => if n < 32 then plainWrite s off v else s
    | 0x04 => if n < 32 then plainWrite s off (keepField (reg s off) v 0 2 (decide (2 ≤ bits v 0 2))) else s
    | 0x08 => plainWrite s off v
    | _ => s
  else
    match off with
    | 0x7810 => if 1 ≤ bits v 0 4 ∧ bits v 0 4 ≤ 8 then plainWrite s off v else s
    | 0x7814 => if 3 ≤ bits v 0 17 ∧ bits v 0 17 ≤ 86400 then plainWrite s off v else s
    | 0x7828 => plainItem s 0x7828 (fld s 0x7824 0 5) v
    | 0x7844 => writePenld s v
    | _ => plainWrite s off v

/-- The PEN region. -/
def writePen (s : State) (off : Nat) (v : Word) : State :=
  if off < 0xA800 then
    let e := (off - 0xA000) / 0x20
    match (off - 0xA000) % 0x20 with
    | 0x10 => writePwData s e v
    | 0x18 => writeCtx s e v
    | _ => plainWrite s off v
  else if off = 0xA810 then plainWrite s off (keepField (reg s off) v 12 2 (bits v 12 2 == 3))
  else plainWrite s off v

/-- A link that is no longer enabled goes down (R192, R197). -/
def dropOff (s : State) (q : Nat) : State :=
  (List.range 4).foldl (fun s i =>
    let l := 4 * q + i
    if ¬ linkOn s l ∧ ((link s l).sync ∨ (link s l).up) then linkFalls s l else s) s

/-- The STR region. FEC 0b11 is rejected; that a value outside a field's range leaves the field as it is is the model's choice (log entry
94). -/
def writeStr (s : State) (off : Nat) (v : Word) : State :=
  if off < 0xE400 then
    let q := (off - 0xE000) / 0x40
    let b := 0xE000 + 0x40 * q
    let sel := reg s (b + 0x10)
    let i := ringIx (4 * q + bits sel 0 2) (bit sel 2)
    match off - b with
    | 0x00 => dropOff (plainWrite s off v) q
    | 0x04 => dropOff (plainWrite s off ((List.range 4).foldl (fun v k => keepField (reg s off) v (8 * k + 3) 2 (bits v (8 * k + 3) 2 == 3)) v)) q
    | 0x14 => plainItem s off i (keepField (item s off i) v 28 4 (decide (bits v 28 4 < 3 ∨ 12 < bits v 28 4)))
    | 0x1C => writeTail s (Fin.ofNat 16 q) v
    | 0x20 => plainItem s off i v
    | 0x28 => plainItem s off (bits sel 0 2) v
    | _ => plainWrite s off v
  else if off = 0xE408 then plainWrite s off (keepField (reg s off) v 0 12 (decide (bits v 0 12 < 64)))
  else if off = 0xE420 then plainWrite s off (keepField (reg s off) v 0 10 (decide (bits v 0 10 < 100)))
  else plainWrite s off v

/-- The FAB region. -/
def writeFab (s : State) (off : Nat) (v : Word) : State :=
  if off = 0x1202C then
    let i := fld s 0x12028 0 8
    plainItem s off i (keepField (item s off i) v 8 4 (decide (bits v 8 4 < 1 ∨ 8 < bits v 8 4)))
  else if off = 0x12014 then
    let r := reg s off
    let v := keepField r v 0 11 (decide (bits v 0 11 < 1 ∨ 1024 < bits v 0 11))
    let v := keepField r v 11 10 (decide (bits v 11 10 < 1 ∨ 512 < bits v 11 10))
    plainWrite s off (keepField r v 21 11 (decide (bits v 21 11 < 1 ∨ 64 < bits v 21 11)))
  else returnOwed (plainWrite s off v)

/-- The SPK region. While a core halt holds, MAINT stays 1 (R328). -/
def writeSpk (s : State) (off : Nat) (v : Word) : State :=
  if off < 0x14D00 then
    let c := (off - 0x14000) / 0x40
    match (off - 0x14000) % 0x40 with
    | 0x04 =>
      let cl := ((servedCore s c).getD 64) / 4
      let held := s.dbg.coreHalts.contains ((servedCore s c).getD 64)
      let t := plainWrite s off (if held then putBit v 0 true else v)
      if inMaint s cl ∧ ¬ inMaint t cl then reloadCluster t cl else t
    | 0x14 =>
      let r := reg s (off - 4)
      plainItem s off (bits r 0 6 + 64 * bits r 8 1) v
    | _ => plainWrite s off v
  else if off = 0x14D0C then
    let k := 32 * fld s 0x14D08 0 4 + fld s 0x14D08 4 5
    let d := tget {} s.dl k
    if bit v 3 ∧ d.deadlock then { s with dl := tput s.dl k { d with deadlock := false } } else s
  else plainWrite s off v

/-- A ledger register written: FRESH clears (R242). -/
def writeLedger (s : State) (off : Nat) (v : Word) : State :=
  if sealed s off then s else onPwr (plainWrite s off v) fun p => { p with fresh := false, marginSet := p.marginSet || off == 0x880 }

/-- The set point stays within a range (R235). -/
def milliOk (n : Nat) : Bool := decide (650 ≤ n ∧ n ≤ 850)

/-- The power register region. -/
def writePwr (s : State) (off : Nat) (v : Word) : State :=
  let sel := fld s 0x840 0 4
  if 0x870 ≤ off ∧ off ≤ 0x888 then writeLedger s off v
  else
    match off with
    | 0x808 => writeForceDs s (bit v 0)
    | 0x810 =>
      let old := reg s off
      let v := keepField old v 12 10 (!milliOk (bits v 12 10))
      plainWrite s off (keepField old v 22 10 (!milliOk (bits v 22 10)))
    | 0x814 =>
      if fld s 0x810 12 10 ≤ bits v 0 10 ∧ bits v 0 10 ≤ fld s 0x810 22 10 then plainWrite s off v else s
    | 0x830 =>
      let old := reg s off
      let v := keepField old v 0 12 (!decide (340 ≤ bits v 0 12 ∧ bits v 0 12 ≤ 420))
      plainWrite s off (keepField old v 16 12 (!decide (420 ≤ bits v 16 12 ∧ bits v 16 12 ≤ 500)))
    | 0x848 => if sealed s (off * 65536 + sel) then s else onPwr s fun p => { p with ageRef := p.ageRef.setIfInBounds sel v }
    | 0x858 => onPwr s fun p => { p with seqTab := p.seqTab.setIfInBounds (fld s 0x854 0 5) v }
    | _ => plainWrite s off v

/-- CHRY_CTL but RELEASE: LOOPBK, FAST, then HOLD with ENTRY (R145, R148, R150). -/
def writeChryCtl (s : State) (g : Fin 8) (v : Word) : State :=
  let s := setReg s (chryCtl g.val) (putBit (reg s (chryCtl g.val)) 3 (bit v 3))
  writeHold (writeFast s g (bit v 2)) g (bit v 0) (bit v 1)

/-- The NRG region but RELEASE of CHRY_CTL. -/
def writeNrg (s : State) (off : Nat) (v : Word) : State :=
  if off < 0xE00 then
    let g : Fin 8 := Fin.ofNat 8 ((off - 0xC00) / 0x40)
    match (off - 0xC00) % 0x40 with
    | 0x08 => writeLimit s g .current v
    | 0x0C => writeLimit s g .energy v
    | 0x10 =>
      let old := reg s off
      let v := keepField old v 1 5 (bits v 1 5 < 4)
      plainWrite s off (keepField old v 6 2 (bits v 6 2 == 3))
    | 0x1C => writeLimit s g .pin v
    | 0x28 => writeChryCtl s g v
    | _ => plainWrite s off v
  else plainWrite s off v

/-- The AVL region. -/
def writeAvl (s : State) (off : Nat) (v : Word) : State :=
  if off < 0x2100 then
    let cl := (off - 0x2000) / 0x10
    if (off - 0x2000) % 0x10 = 0 then
      reloadCluster (plainWrite s off (keepField (reg s off) v 16 2 (bits v 16 2 == 3))) cl
    else plainWrite s off v
  else
    match off with
    | 0x2114 =>
      let p := fld s 0x2110 0 10
      let x := pairAt s p
      let x := if sealed s (off * 65536 + p) then x else { x with leader := v.setWidth 11, follower := v.extractLsb' 11 11 }
      if p < 768 then setPair s p { x with react := if bits v 22 2 = 3 then x.react else v.extractLsb' 22 2, mirror := bit v 24 } else s
    | 0x213C =>
      let g := fld s 0x2138 0 11
      if g < 1664 then
        let s := setItem s off g (BitVec.ofNat 32 (bits v 0 16))
        setSpk s g { spk s g with wdgLeft := bits v 0 16 }
      else s
    | 0x2144 => if 3 ≤ bits v 0 4 ∧ bits v 0 4 ≤ 10 then plainWrite s off v else s
    | _ => plainWrite s off v

/-- The fields of a comparator as a write of one of its registers leaves them (R339). -/
def cmpWrite (c : DbgCmp) (off : Nat) (v : Word) : DbgCmp :=
  match off with
  | 0x3030 => { c with cfg := v.setWidth 8 }
  | 0x3034 => { c with qual := v }
  | 0x3038 => { c with lo := v }
  | 0x303C => { c with hi := v }
  | 0x3040 => { c with val := v }
  | _ => { c with mask := v }

/-- The DBG region; while VDBG is off a write is ignored (R311). MAINT = 0 of a halted pair waits for its release (R329). -/
def writeDbg (s : State) (off : Nat) (v : Word) : State :=
  if ¬ s.pwr.vdbgGood then s
  else if 0x3030 ≤ off ∧ off ≤ 0x3044 then
    let keys := if flg s 0x302C 16 then (List.range 52).map fun c => 8 * c + fld s 0x302C 0 3 else [cmpKey s]
    { s with dbg := { s.dbg with
        cmps := (keys.filter (· < 416)).foldl (fun t k => tput t k (cmpWrite (tget {} t k) off v)) s.dbg.cmps } }
  else
    match off with
    | 0x3018 => setFreeze s (bit v 0)
    | 0x3028 =>
      let p := fld s 0x3024 0 10
      let x := pairAt s p
      let halted := (spk s x.leader.toNat).st == .halted || (spk s x.follower.toNat).st == .halted
      if 768 ≤ p then s
      else if ¬ bit v 0 ∧ x.maint ∧ halted then setPair s p { x with maintDrop := true }
      else setPair s p { x with maint := bit v 0, maintDrop := false }
    | _ => plainWrite s off v

/-- The CFG region but its commands. -/
def writeCfg (s : State) (off : Nat) (v : Word) : State :=
  match off with
  | 0x1048 => { s with cfg := { s.cfg with moltDone := s.cfg.moltDone && !bit v 16 } }
  | _ => plainWrite s off v

/-- A write of a register that is no command (R6); an offset that holds no register ignores it (R302). -/
def writeData (s : State) (off : Nat) (v : Word) : State :=
  match findReg off with
  | none => s
  | some _ =>
    if off < 0x800 then plainWrite s off v
    else if off < 0xC00 then writePwr s off v
    else if off < 0x1000 then writeNrg s off v
    else if off < 0x2000 then writeCfg s off v
    else if off < 0x3000 then writeAvl s off v
    else if off < 0x4000 then writeDbg s off v
    else if off < 0x6000 then writeCad s off v
    else if off < 0x6800 then plainWrite s off v
    else if off < 0x7000 then writePmc s off v
    else if off < 0x8000 then writeMem s off v
    else if off < 0xA000 then writeTmr s off v
    else if off < 0xE000 then writePen s off v
    else if off < 0x12000 then writeStr s off v
    else if off < 0x14000 then writeFab s off v
    else writeSpk s off v

end Sys2Proof.Machine
end

