-- ==== Sys2Proof/Machine/Image.lean ====
section
/-! DEFINITION. The Rhasen image: bytes of a copy, CRC-32C, sections, register runs, records, and the checks of R282 on one file
(R276 to R283, R291). -/
namespace Sys2Proof.Machine

/-! ## Bytes of a copy (R284) -/

/-- The 32-bit little-endian word at a byte offset that is a multiple of 4. -/
def cw (c : Copy) (o : Nat) : Nat := (tget 0 c.words (o / 32)).toNat >>> (8 * (o % 32)) % 2 ^ 32

/-- The byte at an offset. -/
def cbyte (c : Copy) (o : Nat) : Byte := BitVec.ofNat 8 ((tget 0 c.words (o / 32)).toNat >>> (8 * (o % 32)))

/-- n bytes from an offset. -/
def cbytes (c : Copy) (o n : Nat) : List Byte := (List.range n).map fun i => cbyte c (o + i)

/-- n 32-bit words from an offset. -/
def cwords (c : Copy) (o n : Nat) : List Nat := (List.range n).map fun i => cw c (o + 4 * i)

/-- A copy of 32-bit words from offset 0. -/
def copyOf (ws : List Nat) : Copy := (ws.zipIdx.foldl (fun c e => cocoonPut c (4 * e.2) (BitVec.ofNat 32 e.1)) {})

/-! ## Header and sections (R276, R277) -/

/-- Header fields. -/
def imgKind (c : Copy) : Nat := cw c 4 / 65536 % 256
def imgMajor (c : Copy) : Nat := cw c 4 % 256
def imgMinor (c : Copy) : Nat := cw c 4 / 256 % 256
def imgGen (c : Copy) : Nat := cw c 0x10
def imgBase (c : Copy) : Nat := cw c 0x14
def imgLen (c : Copy) : Nat := cw c 0x18
def imgNsect (c : Copy) : Nat := cw c 0x1C

/-- One section: index, frame offset, TYPE, INST, PLEN. -/
structure Sect where
  idx : Nat
  ofs : Nat
  ty : Nat
  inst : Nat
  plen : Nat
  deriving DecidableEq, Repr

/-- Where the section after this one starts. -/
def Sect.next (t : Sect) : Nat := (t.ofs + 16 + t.plen + 31) / 32 * 32

/-- The frame at an offset. -/
def frameAt (c : Copy) (idx o : Nat) : Sect := ⟨idx, o, cw c o % 65536, cw c o / 65536, cw c (o + 4)⟩

/-- Up to n sections from an offset within len bytes. -/
def sectsFrom (c : Copy) (len : Nat) : Nat → Nat → Nat → List Sect
  | 0, _, _ => []
  | n + 1, idx, o =>
    if len < o + 16 then []
    else
      let t := frameAt c idx o
      t :: sectsFrom c len n (idx + 1) t.next

/-- The sections of an image. -/
def sects (c : Copy) : List Sect := sectsFrom c (imgLen c) (imgNsect c) 0 0x40

/-- The section of a TYPE and INST. -/
def sectOf (c : Copy) (ty inst : Nat) : Option Sect := (sects c).find? fun t => t.ty == ty && t.inst == inst

/-- The payload words of a section. -/
def payload (c : Copy) (t : Sect) : List Nat := cwords c (t.ofs + 16) (t.plen / 4)

/-- A rejection: code, section index (0xFFFF the header), byte offset (R282). -/
structure CfgErr where
  code : Nat
  sect : Nat
  ofs : Nat
  deriving DecidableEq, Repr

/-- The first rejection of a list of checks, in order. -/
def firstErr (l : List (Option CfgErr)) : Option CfgErr := (l.filterMap id).head?

/-- A rejection where the condition fails. -/
def need (ok : Bool) (e : CfgErr) : Option CfgErr := if ok then none else some e

/-- Types of a full image and of a delta (R276); a type with OPT = 1 that the block does not know is skipped. -/
def fullType (ty : Nat) : Bool := (1 ≤ ty && ty ≤ 7) || ty == 0x7FFF
def deltaType (ty : Nat) : Bool := fullType ty || ty == 0x10 || ty == 0x11 || ty == 0x7FFE

/-- The order of sections, OPT left out (DEDUCED, log entry 31). -/
def sectKey (t : Sect) : Nat := t.ty % 0x8000 * 65536 + t.inst

/-- FRAME checks of one section, with the one before it (R277, R282). -/
def frameErr (c : Copy) (prev : Option Sect) (t : Sect) : Option CfgErr :=
  need (t.next ≤ imgLen c && t.plen % 4 == 0
    && (match prev with | some p => decide (sectKey p < sectKey t) | none => true)
    && (t.ty ≥ 0x8000 || (if imgKind c = 2 then deltaType t.ty else fullType t.ty))
    && cw c (t.ofs + 12) == 0 && (t.ty < 0x7FFE || t.ty ≥ 0x8000 || (cbytes c (t.ofs + 16 + 97) 3).all (· == 0))
    && (cbytes c (t.ofs + 16 + t.plen) (t.next - (t.ofs + 16 + t.plen))).all (· == 0)) ⟨0x06, t.idx, t.ofs⟩

/-- FRAME checks of all sections. -/
def frameErrs (c : Copy) : Option Sect → List Sect → Option CfgErr
  | _, [] => none
  | p, t :: ts => (frameErr c p t).or (frameErrs c (some t) ts)

/-- FRAME checks of the header. -/
def headFrameErr (c : Copy) (srcLen : Nat) : Option CfgErr :=
  let l := imgLen c
  firstErr [
    need ((imgKind c == 1 || imgKind c == 2) && cw c 4 / 2 ^ 24 == 0) ⟨0x06, 0xFFFF, 6⟩,
    need (imgKind c != 1 || imgBase c == 0) ⟨0x06, 0xFFFF, 0x14⟩,
    need (l % 32 == 0 && 128 ≤ l && l ≤ 1048576 && l ≤ srcLen) ⟨0x06, 0xFFFF, 0x18⟩,
    need ((cwords c 0x24 6).all (· == 0)) ⟨0x06, 0xFFFF, 0x24⟩,
    need ((sects c).length == imgNsect c && (match (sects c).getLast? with
      | some t => t.ty == 0x7FFF && t.next == l
      | none => false)) ⟨0x06, 0xFFFF, 0x1C⟩]

/-- Key slots (R281). -/
def keySlot (key : List Byte) : Option (Fin 4) :=
  (List.finRange 4).find? fun i =>
    Sys2Proof.Config.otpKeyHash i == some (Sys2Proof.Config.sha384 key) && !Sys2Proof.Config.otpRevoked i

/-- The signature of a payload at offset o over the bytes of an image before offset n (R281). -/
def signedBy (sig : Copy) (o : Nat) (c : Copy) (n : Nat) : Bool :=
  Sys2Proof.Config.p384Verify (cbytes sig o 97) (Sys2Proof.Config.sha384 (cbytes c 0 n)) (cbytes sig (o + 100) 48)
    (cbytes sig (o + 148) 48)

/-- The SIGNATURE section. -/
def sigSect (c : Copy) : Sect := ((sects c).getLast?).getD ⟨0, 0, 0, 0, 0⟩

/-- The checks of R282 from MAGIC to GEN, in the order of the table, on one file of srcLen bytes. -/
def fileErr (s : State) (c : Copy) (srcLen : Nat) : Option CfgErr :=
  let sig := sigSect c
  let inFile := (sects c).filter fun t => t.next ≤ imgLen c
  firstErr [
    need (cw c 0 == 0x4E534852) ⟨0x01, 0xFFFF, 0⟩,
    need (1 ≤ imgMajor c && imgMajor c ≤ pinnedHigh s 1 && (imgKind c != 2 || imgMajor c == s.cfg.gear.toNat % 256))
      ⟨0x02, 0xFFFF, 4⟩,
    need (cw c 8 / 16 == 0 && cw c 12 == 0) ⟨0x03, 0xFFFF, 8⟩,
    need ((crc32c (cbytes c 0 0x3C)).toNat == cw c 0x3C) ⟨0x04, 0xFFFF, 0x3C⟩,
    (inFile.find? fun t => (crc32c (cbytes c (t.ofs + 16) t.plen)).toNat != cw c (t.ofs + 8)).map fun t => ⟨0x05, t.idx, t.ofs⟩,
    (headFrameErr c srcLen).or (frameErrs c none (sects c)),
    need (cw c 0x20 == 0x1536) ⟨0x07, 0xFFFF, 0x20⟩,
    need (sig.plen == 196 && (keySlot (cbytes c (sig.ofs + 16) 97)).isSome) ⟨0x08, sig.idx, sig.ofs⟩,
    need (signedBy c (sig.ofs + 16) c sig.ofs) ⟨0x09, sig.idx, sig.ofs⟩,
    need (imgGen c != 0 && Sys2Proof.Config.otpMinGen.toNat ≤ imgGen c && (imgKind c != 2 || s.cfg.gen.toNat < imgGen c))
      ⟨0x0A, 0xFFFF, 0x10⟩]

/-! ## Register runs (R278) -/

/-- One value of a run: the select register and its value, the register, the value, and the offset of the run. -/
structure RegWrite where
  sel : Option (Nat × Nat)
  off : Nat
  val : Word
  at_ : Nat
  deriving DecidableEq, Repr

/-- The register that a write names, with its select value: what two writes must share to be the same setting. -/
def RegWrite.key (w : RegWrite) : Nat × Option (Nat × Nat) := (w.off, w.sel)

/-- The values of the runs in payload words, from a byte offset; none where a run is malformed, with its offset. -/
def runsFrom : Nat → Nat → List Nat → List RegWrite ⊕ Nat
  | 0, _, _ => .inl []
  | _, _, [] => .inl []
  | f + 1, o, w0 :: w1 :: base :: ws =>
    let n := w0 / 2 ^ 18
    let data := w0 % 2 ^ 18
    if n = 0 ∨ ws.length < n then .inr o
    else
      let one (i v : Nat) : RegWrite :=
        if w1 / 2 ^ 31 = 1 then ⟨some (w1 % 2 ^ 18, (base + i * (w1 / 2 ^ 18 % 8192)) % 2 ^ 32), data, BitVec.ofNat 32 v, o⟩
        else ⟨none, (data + 4 * i) % 2 ^ 18, BitVec.ofNat 32 v, o⟩
      match runsFrom f (o + 12 + 4 * n) (ws.drop n) with
      | .inl r => .inl (((ws.take n).zipIdx.map fun e => one e.2 e.1) ++ r)
      | .inr e => .inr e
  | _ + 1, o, _ => .inr o

/-- The runs of an image. -/
def runsOf (c : Copy) : List RegWrite ⊕ Nat :=
  match sectOf c 1 0 with
  | some t => runsFrom (t.plen / 4) (t.ofs + 16) (payload c t)
  | none => .inl []

/-- The values of the runs of an accepted image. -/
def regWrites (c : Copy) : List RegWrite :=
  match runsOf c with
  | .inl l => l
  | .inr _ => []

/-! ## Records (R279, R280) -/

/-- One spoke record: the global number and the 20 words. -/
structure SpokeRec where
  g : Nat
  w : Vector Nat 20
  at_ : Nat
  deriving DecidableEq, Repr

/-- The records of a logical core. -/
def spokeRecs (c : Copy) (core : Nat) : List SpokeRec :=
  match sectOf c 2 core with
  | none => []
  | some t => (List.range (t.plen / 80)).map fun i =>
      let o := t.ofs + 16 + 80 * i
      ⟨32 * core + cw c o % 32, Vector.ofFn fun j => cw c (o + 4 * j.val), o⟩

/-- One channel record: the identifier and the two endpoint words. -/
structure ChanRec where
  ch : Nat
  raw : Nat
  w : Nat
  r : Nat
  at_ : Nat
  deriving DecidableEq, Repr

/-- The records of a cluster. -/
def chanRecs (c : Copy) (cl : Nat) : List ChanRec :=
  match sectOf c 3 cl with
  | none => []
  | some t => (List.range (t.plen / 12)).map fun i =>
      let o := t.ofs + 16 + 12 * i
      ⟨1024 * cl + cw c o % 1024, cw c o, cw c (o + 4), cw c (o + 8), o⟩

/-- The kind of an endpoint code. -/
def endKindOf : Nat → EndKind
  | 1 => .spoke | 2 => .engine | 3 => .cadence | 4 => .timer | 5 => .dma | 6 => .fabric | 7 => .lock | 8 => .mailbox
  | 9 => .terminal | 0xA => .system | _ => .none

/-- An endpoint of a record (R279). -/
def endOf (w : Nat) : Endpoint :=
  match endKindOf (w / 2 ^ 28) with
  | .spoke => ⟨.spoke, w % 2 ^ 11⟩
  | .engine => ⟨.engine, w % 2 ^ 12⟩
  | .timer => ⟨.timer, w % 32⟩
  | k => ⟨k, 0⟩

/-- The endpoint word has no stray bit. -/
def endOk (w : Nat) : Bool :=
  let i := w % 2 ^ 28
  match w / 2 ^ 28 with
  | 1 => i < 1664
  | 2 => i < 2 ^ 12
  | 4 => i < 32
  | k => k ≤ 0xA && i == 0

/-- The image of a logical core, none where COREMAP leaves it without spokes (R280). -/
def coreImage (c : Copy) (core : Nat) : Option Sect :=
  match sectOf c 5 0 with
  | none => none
  | some t => sectOf c 4 (cbyte c (t.ofs + 16 + core)).toNat

/-- The program words of an image that are not zero. -/
def progWords (c : Copy) (t : Sect) : List (Nat × BitVec 56) :=
  (List.range (t.plen / 8)).filterMap fun i =>
    let o := t.ofs + 16 + 8 * i
    let w := (cw c o + cw c (o + 4) * 2 ^ 32) % 2 ^ 56
    if w = 0 then none else some (i, BitVec.ofNat 56 w)

/-- The byte offset of program word w of an image, where the image lists it. -/
def progOfs (t : Sect) (w : Nat) : Option Nat := if w < t.plen / 8 then some (t.ofs + 16 + 8 * w) else none

/-- Halfword i of an ENGINE payload. -/
def engHalf (c : Copy) (t : Sect) (i : Nat) : Nat := cw c (t.ofs + 16 + i / 2 * 4) >>> (16 * (i % 2)) % 65536

/-! ## The merged image (R291) -/

/-- A section as its type, instance and payload words. -/
structure RawSect where
  ty : Nat
  inst : Nat
  words : List Nat
  deriving DecidableEq, Repr

/-- The sections of an image with their payloads. -/
def rawSects (c : Copy) : List RawSect := (sects c).map fun t => ⟨t.ty, t.inst, payload c t⟩

/-- A section in an image: frame, payload, padding. -/
def sectWords (t : RawSect) : List Nat :=
  let bs := t.words.flatMap fun w => toBytes 4 w
  let n := (4 + t.words.length + 7) / 8 * 8
  let ws := [t.ty + t.inst * 65536, 4 * t.words.length, (crc32c bs).toNat, 0] ++ t.words
  ws ++ List.replicate (n - ws.length) 0

/-- Sections in ascending order, a section put in its place. -/
def insertSect (t : RawSect) : List RawSect → List RawSect
  | [] => [t]
  | u :: us =>
    if (t.ty, t.inst) = (u.ty, u.inst) then t :: us
    else if t.ty * 65536 + t.inst < u.ty * 65536 + u.inst then t :: u :: us
    else u :: insertSect t us

/-- The items of a REMOVE section. -/
def removed (c : Copy) : List (Nat × Nat) :=
  match sectOf c 0x11 0 with
  | some t => (payload c t).map fun w => (w % 2 ^ 15, w / 65536)
  | none => []

/-- The merged image of a committed image and a delta, as a full image (R291). -/
def mergeImage (old delta : Copy) : Copy :=
  let gone := removed delta
  let keep := (rawSects old).filter fun t => !gone.contains (t.ty, t.inst) && t.ty != 0x7FFF
  let put := (rawSects delta).filter fun t => t.ty != 0x10 && t.ty != 0x11 && t.ty != 0x7FFE && t.ty != 0x7FFF
  let sig := ((rawSects delta).filter fun t => t.ty == 0x7FFE).map fun t => { t with ty := 0x7FFF }
  let all := sig.foldl (fun l t => insertSect t l) (put.foldl (fun l t => insertSect t l) keep)
  let body := all.flatMap sectWords
  let head := [cw delta 0, cw delta 4 % 65536 + 65536, cw delta 8, cw delta 12, cw delta 0x10, 0, 64 + 4 * body.length,
    all.length, cw delta 0x20] ++ List.replicate 6 0
  copyOf (head ++ [(crc32c (head.flatMap fun w => toBytes 4 w)).toNat] ++ body)

/-- The MOLT record of a delta: its word 0 and region records. -/
def moltWords (c : Copy) : List Nat :=
  match sectOf c 0x10 0 with
  | some t => payload c t
  | none => []

/-- The region of a record (R292); none outside the table. -/
def regionOf (w : Nat) : Option Region :=
  let i := w % 65536
  let hold := decide (w / 65536 % 2 = 1)
  match w / 2 ^ 28 with
  | 1 => if i < 48 then some (.core (Fin.ofNat 48 i)) else none
  | 2 => if i < 64 then some (.engine (Fin.ofNat 64 i)) else none
  | 3 => if i < 8 then some (.group (Fin.ofNat 8 i) hold) else none
  | 4 => if i < 17 then some (.axis (Fin.ofNat 17 i)) else none
  | 5 => if i < 32 then some (.bank (Fin.ofNat 32 i)) else none
  | 6 => if i = 0 then some .system else none
  | _ => none

/-! ## Cocoon reads (R285, R287) -/

/-- The copies that count for a read. -/
def eligible (s : State) : List (Fin 3) := (List.finRange 3).filter fun i => s.cfg.copies[i].st == .valid

/-- The data of a word in a copy. -/
def copyWord (s : State) (i : Fin 3) (w : Nat) : MemWord := tget 0 s.cfg.copies[i].words w

/-- The highest generation among copies. -/
def topGen (s : State) (l : List (Fin 3)) : Nat := l.foldl (fun m i => max m s.cfg.copies[i].gen.toNat) 0

/-- A word of a copy decodes. -/
def decodes (s : State) (i : Fin 3) (w : Nat) : Bool := s.cfg.copies[i].bad.all fun e => e.1 != w

/-- A word of a copy rewritten, which mends an upset that is not lasting (R285, R286). -/
def fixWord (s : State) (i : Fin 3) (w : Nat) (d : MemWord) : State :=
  let c := s.cfg.copies[i]
  setCopy (satReg s 0x1068 0 32) i { c with words := tput c.words w d, bad := c.bad.filter fun e => e.1 != w || e.2 }

/-- An upset comes over a word of a cocoon copy. A transient one is gone at the second read, which is counted (R256, R285). -/
def upset (s : State) (u : Sys2Proof.CocoonUpset) : State :=
  let c := s.cfg.copies[u.copy]
  match u.kind with
  | .transient => if c.st = .valid then bump s 0x2154 else s
  | .soft => setCopy s u.copy { c with bad := tput c.bad u.word.toNat (tget false c.bad u.word.toNat) }
  | .lasting => setCopy s u.copy { c with bad := tput c.bad u.word.toNat true }

/-- The ACTIVE copy where it is in a list, else the first of the list. -/
def activeOf (s : State) (i : Fin 3) (l : List (Fin 3)) : Fin 3 := (l.find? fun j => j.val == s.cfg.active).getD i

/-- Decoding copies that do not agree: the word of the highest generation among the eligible copies; at equal generations the word of
the ACTIVE copy, and a divergence (R285). Where a third copy does not decode the two that do are taken so too (DEDUCED, log entry 95). -/
def disagree (s : State) (w g : Nat) (ok : List (Fin 3)) : State × Option MemWord :=
  match ok.filter fun j => s.cfg.copies[j].gen.toNat == g with
  | [] => (s, none)
  | i :: r =>
    let d := copyWord s (activeOf s i (i :: r)) w
    if (i :: r).length < ok.length then (s, some d)
    else ({ satReg (orReg s 0x100C 0x20000) 0x10BC 0 32 with cfg := { s.cfg with divWord := BitVec.ofNat 15 w } }, some d)

/-- A cocoon read of a word: the state after it and the data, none where it fails (R285). -/
def cocoonRead (s : State) (w : Nat) : State × Option MemWord :=
  let l := eligible s
  let g := topGen s l
  let ok := l.filter fun i => decodes s i w
  let s := (l.filter fun i => !decodes s i w).foldl (fun s _ => bump s 0x2158) s
  match ok.find? fun i => 2 ≤ (ok.filter fun j => copyWord s j w == copyWord s i w).length with
  | some k =>
    let d := copyWord s k w
    ((l.filter fun j => !decodes s j w || copyWord s j w != d).foldl (fun s j => fixWord s j w d) s, some d)
  | none =>
    match ok with
    | [] => (s, none)
    | [i] =>
      if s.cfg.copies[i].gen.toNat = g then (satReg (orReg s 0x100C 0x80000) 0x10B8 0 32, some (copyWord s i w)) else (s, none)
    | _ => disagree s w g ok

/-- A copy passes its commit-record check (R284, R287). -/
def copyOk (s : State) (i : Fin 3) : Bool :=
  let c := s.cfg.copies[i]
  c.st == .valid && (c.bad.all fun e => c.len ≤ 32 * e.1) && crc32c (cbytes c 0 c.len) == c.crc

/-- A copy that holds an image, with its commit record. -/
def sealCopy (c : Copy) (st : CopyState) : Copy :=
  { c with st := st, gen := BitVec.ofNat 32 (imgGen c), len := imgLen c, crc := crc32c (cbytes c 0 (imgLen c)) }

/-- The ACTIVE copy. -/
def activeImage (s : State) : Copy := (s.cfg.copies.toArray[s.cfg.active]?).getD {}

/-- The words that some copy lists, or that do not decode. -/
def cocoonKeys (s : State) : List Nat :=
  ((List.finRange 3).flatMap fun i => s.cfg.copies[i].words.map (·.1) ++ s.cfg.copies[i].bad.map (·.1)).eraseDups

/-- The image that the cocoon holds, each word read under R285: none where a read fails. -/
def readImage (s : State) : State × Option Copy :=
  (cocoonKeys s).foldl (fun r w =>
    match r with
    | (s, none) => (s, none)
    | (s, some c) =>
      match cocoonRead s w with
      | (s, some d) => (s, some { c with words := if d = 0 then c.words else tput c.words w d })
      | (s, none) => (s, none)) (s, some { activeImage s with words := [], bad := [] })

/-- What the cocoon holds, for a reader whose reads are counted elsewhere; the ACTIVE copy where a read fails. -/
def imageNow (s : State) : Copy := ((readImage s).2).getD (activeImage s)

/-- A copy written whole from another: a cell that no rewrite mends stays, and a word that does not decode is not mended by its copy
(log entry 95). -/
def overCopy (old new : Copy) : Copy :=
  { new with bad := (old.bad.filter (·.2)).foldl (fun t e => tput t e.1 true) (new.bad.map fun e => (e.1, false)) }

/-- The copies other than copy i are written from copy i (R287, R294). -/
def spreadCopy (s : State) (i : Fin 3) : State :=
  let c := s.cfg.copies[i]
  { s with cfg := { s.cfg with copies := Vector.ofFn fun j => if j = i then c else overCopy s.cfg.copies[j] c } }

end Sys2Proof.Machine
end

