-- ==== Sys2Proof/Machine/Apply.lean ====
section
/-! DEFINITION. What an accepted image sets: registers, spokes, channels, programs, engines, chrysalis words, pairs (R276 to R280,
R289), the locked set (R290) and the regions of a molt (R291 to R293). -/
namespace Sys2Proof.Machine

/-! ## Registers (R278) -/

/-- The host offset that a run's offset names: the block of logical core c is that of the physical core that serves it (R265,
DEDUCED, log entry 32). -/
def placeOff (s : State) (off : Nat) : Nat :=
  if 0x14000 ≤ off ∧ off < 0x14C00 then 0x14000 + 0x40 * physCore s ((off - 0x14000) / 0x40) + (off - 0x14000) % 0x40 else off

/-- The item index of a context item: ctx * 16 + item. -/
def ctxItemIx (s : State) (off : Nat) : Nat :=
  let sel := reg s (off - 4)
  bits sel 0 6 * 16 + bits sel 8 4

/-- The key under which a register, or the item behind a window at its present selection, is locked. -/
def lockKey (s : State) (off : Nat) : Nat :=
  if 0x14000 ≤ off ∧ off < 0x14D00 ∧ off % 0x40 = 0x14 then
    let r := reg s (off - 4)
    off * 65536 + (bits r 0 6 + 64 * bits r 8 1)
  else if 0xE000 ≤ off ∧ off < 0xE400 ∧ (off % 0x40 = 0x14 ∨ off % 0x40 = 0x20) then
    let sel := reg s (off / 0x40 * 0x40 + 0x10)
    off * 65536 + ringIx (bits sel 0 2) (bit sel 2)
  else if 0xA000 ≤ off ∧ off < 0xA800 ∧ off % 0x20 = 0x18 then off * 65536 + ctxItemIx s off
  else
    match off with
    | 0x1202C => off * 65536 + fld s 0x12028 0 8
    | 0x2114 => off * 65536 + fld s 0x2110 0 10
    | 0x848 => off * 65536 + fld s 0x840 0 4
    | _ => off

/-- The register has RWL fields, and no item of a window stands in the way. -/
def hasRwl (off : Nat) : Bool :=
  match findReg off with
  | some r => r.rwl != 0 || (0xA000 ≤ off && off < 0xA800 && off % 0x20 == 0x18)
  | none => false

/-- A context item of the image: items 0x0 to 0x6 are its start state, the others its fixed fields (R122). -/
def applyCtx (s : State) (e : Nat) (v : Word) : State :=
  let sel := reg s (engReg e 0x14)
  let c := bits sel 0 6
  let i := bits sel 8 4
  let x := ctxAt s e c
  let start := if x.start = [] then List.replicate 7 0 else x.start
  setCtx s e c (if i < 7 then { x with start := start.set i v } else writeCtxItem { x with start := start } i v)

/-- One value of a run (R278, R289). -/
def applyWrite (s : State) (w : RegWrite) : State :=
  let s := match w.sel with
    | some (r, v) => writeData s (placeOff s r) (BitVec.ofNat 32 v)
    | none => s
  let off := placeOff s w.off
  if 0x7000 ≤ off ∧ off < 0x7400 ∧ off % 0x20 = 0 then
    onBank s (Fin.ofNat 32 ((off - 0x7000) / 0x20)) fun k => { k with bsOwner := w.val.setWidth 5 }
  else if 0xA000 ≤ off ∧ off < 0xA800 ∧ off % 0x20 = 0x18 then applyCtx s ((off - 0xA000) / 0x20) w.val
  else if 0x4000 ≤ off ∧ off < 0x4440 ∧ off % 0x40 = 0 then setAxisCtl s (Fin.ofNat 17 ((off - 0x4000) / 0x40)) w.val
  else writeData s off w.val

/-- The values of the runs, and the keys of the RWL settings they make. -/
def applyWrites (s : State) (l : List RegWrite) : State × List Nat :=
  l.foldl (fun r w =>
    let s := applyWrite r.1 w
    let off := placeOff s w.off
    (s, if hasRwl off then lockKey s off :: r.2 else r.2)) (s, [])

/-! ## Spokes, channels, programs (R279, R280) -/

/-- Two words as a segment descriptor. -/
def seg64 (lo hi : Nat) : BitVec 64 := BitVec.ofNat 64 (lo + hi * 2 ^ 32)

/-- A spoke at its bitstream start context. -/
def startContext (sp : Spoke) : Spoke :=
  { sp with
    pc := sp.entry, tsw := sp.tsw0, s := sp.s0, g := Vector.replicate 16 0, a := Vector.replicate 4 0, v := Vector.replicate 8 0
    wait := none, resv := none, flight := [], stuck := [], failPc := none, slot := none, req := none, stale := false
    urgent := false, urgeDue := false, badRegs := [], badCheck := false }

/-- The spoke of a record (R279). -/
def spokeOf (r : SpokeRec) : Spoke :=
  let a := BitVec.ofNat 32 r.w[0]
  startContext {
    listed := true, elastic := bit a 8, deferredDecl := bit a 9, poolB := bit a 24, egroup := BitVec.ofNat 4 (bits a 12 4)
    dlgroup := if bit a 10 then some (Fin.ofNat 32 (bits a 16 5)) else none
    entry := BitVec.ofNat 18 r.w[1], tsw0 := BitVec.ofNat 32 r.w[2]
    s0 := Vector.ofFn fun i : Fin 8 => seg64 (r.w.toArray[4 + 2 * i.val]?.getD 0) (r.w.toArray[5 + 2 * i.val]?.getD 0) }

/-- The image byte of a core in COREMAP. -/
def coreByte (c : Copy) (core : Nat) : Option Byte := (sectOf c 5 0).map fun t => cbyte c (t.ofs + 16 + core)

/-- The records of a logical core; spokes it does not list do not exist, and COREMAP 0xFF leaves it without spokes (R279, R280). -/
def applyCore (s : State) (c : Copy) (core : Nat) : State :=
  let s := { s with spokes := s.spokes.filter fun e => coreOf e.1 != core }
  (if coreByte c core = some 0xFF then [] else spokeRecs c core).foldl (fun s r => setSpk s r.g (spokeOf r)) s

/-- The program memory of the physical core that serves a logical core (R280). -/
def loadProgram (s : State) (c : Copy) (core phys : Nat) : State :=
  let rest := s.progs.filter fun e => e.1 / 49152 != phys
  let ws := match coreImage c core with
    | some t => progWords c t
    | none => []
  { s with progs := ws.foldl (fun t w => tput t (49152 * phys + w.1) w.2) rest }

/-- A channel record. -/
def applyChan (s : State) (r : ChanRec) : State := setChan s r.ch { writer := endOf r.w, reader := endOf r.r }

/-- The system channel of a cluster (R49). -/
def sysRecord (s : State) (cl : Nat) : State :=
  setChan s (sysChan cl) { writer := ⟨.system, 0⟩, reader := ⟨.spoke, masterOf cl⟩ }

/-- An ENGINE section goes to bank 0, which becomes active; bank 1 is zero (R280). -/
def applyEngine (s : State) (c : Copy) (e : Nat) : State :=
  match sectOf c 6 e with
  | none => s
  | some t =>
    let store := (List.range 256).filterMap fun i =>
      let h := BitVec.ofNat 16 (engHalf c t i)
      if h = 0 then none else some (i, (⟨h.setWidth 12, h.getLsbD 12, h.getLsbD 13, false⟩ : PenWord))
    let reloc := (List.range 256).filterMap fun i =>
      let h := BitVec.ofNat 16 (engHalf c t (256 + i))
      if h = 0 then none else some (i, (h.setWidth 8, h.getLsbD 8))
    setEng s e { eng s e with active := false, pending := false, forcing := false, store := store, reloc := reloc }

/-- A CHRYSALIS section (R280). -/
def applyChry (s : State) (c : Copy) (g : Fin 8) : State :=
  match sectOf c 7 g.val with
  | none => s
  | some t => setChry s g { chry s g with store := Vector.ofFn fun i : Fin 16 => BitVec.ofNat 24 (cw c (t.ofs + 16 + 4 * i.val)) }

/-- The members of the declared pairs learn their pair (R259). -/
def bindPairs (s : State) : State :=
  s.avl.pairs.foldl (fun s e =>
    let l := e.2.leader.toNat
    let f := e.2.follower.toNat
    if l < 1664 ∧ f < 1664 then
      let s := setSpk s l { spk s l with pair := some (e.1, true) }
      setSpk s f { spk s f with pair := some (e.1, false) }
    else s) s

/-- The host offset that a lock key stands for. -/
def keyOff (k : Nat) : Nat := if k < 0x40000 then k else k / 65536

/-- Fields that the bitstream sets take 0 where no section sets them (R276). -/
def clearBs (s : State) : State :=
  { s with
    regs := s.regs.map fun e => (e.1, e.2 &&& ~~~(BitVec.ofNat 32 (bsMask (keyOff e.1))))
    cad := { s.cad with evts := [], axes := Vector.replicate 17 {} }
    timers := Vector.replicate 32 {}
    pmc := { s.pmc with cores := s.pmc.cores.map fun e => (e.1, { e.2 with evt := Vector.replicate 8 0, user := 0 }) }
    pwr := { s.pwr with ageRef := Vector.replicate 16 0, seqTab := Vector.replicate 32 0 }
    nrg := s.nrg.map fun n => { n with limI := 0, limE := 0, pinLim := Vector.replicate 64 0 } }

/-- What an earlier image set is gone. -/
def unconfigure (s : State) : State :=
  { clearBs s with
    spokes := [], chans := [], dl := [], progs := []
    pen := { s.pen with engines := [] }
    avl := { s.avl with pairs := [] }
    mem := { s.mem with banks := s.mem.banks.map fun k => { k with bsOwner := 0x1F } }
    cfg := { s.cfg with locked := [] } }

/-- Every section of an image is written into the block's state (R289). -/
def applyImage (s : State) (c : Copy) : State :=
  let r := applyWrites (unconfigure s) (regWrites c)
  let s := { r.1 with cfg := { r.1.cfg with locked := r.2 } }
  let s := (List.range 48).foldl (fun s k => loadProgram (applyCore s c k) c k (physCore s k)) s
  let s := (List.range 13).foldl (fun s k => (chanRecs c k).foldl applyChan (sysRecord s k)) s
  let s := (List.range 64).foldl (fun s e => applyEngine s c e) s
  let s := (List.finRange 8).foldl (fun s g => holdWritten (applyChry s c g) g) s
  bindPairs s

/-! ## The locked set (R290) -/

/-- Keys of the RWL registers and window items, in ascending order of host offset; the life ledger is left out. -/
def lockKeys : List Nat :=
  (regTable.filter fun r => r.rwl != 0 && !(0x870 ≤ r.base && r.base ≤ 0x888)).flatMap (fun r =>
    (List.range r.count).flatMap fun i =>
      let off := r.base + r.stride * i
      let n := if 0x14000 ≤ off ∧ off % 0x40 = 0x14 then 128
        else if 0xE000 ≤ off ∧ off < 0xE400 ∧ (off % 0x40 = 0x14 ∨ off % 0x40 = 0x20) then 8
        else match off with | 0x1202C => 256 | 0x2114 => 768 | 0x848 => 16 | _ => 0
      if n = 0 then [off] else (List.range n).map fun j => off * 65536 + j)
  ++ (List.range 64).flatMap (fun e => (List.range 64).flatMap fun c => [7, 8, 9, 10, 11].map fun i =>
      (0xA018 + 0x20 * e) * 65536 + c * 16 + i)
  ++ (List.range 128).map (2 ^ 40 + ·)

/-- The RWL bits of a register. -/
def rwlMask (off : Nat) : Word :=
  match findReg off with
  | some r => BitVec.ofNat 32 r.rwl
  | none => 0

/-- The value of a member of the locked set. -/
def lockedVal (s : State) (k : Nat) : Word :=
  if 2 ^ 40 ≤ k then
    (((s.chry.toArray[(k - 2 ^ 40) / 16]?).map fun (c : Chrysalis) => (c.store.toArray[k % 16]?).getD 0).getD 0).setWidth 32
  else if k < 0x40000 then reg s k &&& rwlMask k
  else
    let off := k / 65536
    let i := k % 65536
    if off = 0x2114 then orAll [(pairAt s i).leader.toNat, (pairAt s i).follower.toNat <<< 11]
    else if off = 0x848 then (s.pwr.ageRef.toArray[i]?).getD 0
    else if off < 0xA800 ∧ 0xA000 ≤ off then readCtxItem (ctxAt s ((off - 0xA000) / 0x20) (i / 16)) (i % 16)
    else item s off i &&& rwlMask off

/-- A member of the locked set is written back. -/
def setLocked (s : State) (k : Nat) (v : Word) : State :=
  if 2 ^ 40 ≤ k then
    let g : Fin 8 := Fin.ofNat 8 ((k - 2 ^ 40) / 16)
    setChry s g { chry s g with store := (chry s g).store.setIfInBounds (k % 16) (v.setWidth 24) }
  else if k < 0x40000 then setReg s k ((reg s k &&& ~~~rwlMask k) ||| v)
  else
    let off := k / 65536
    let i := k % 65536
    if off = 0x2114 then setPair s i { pairAt s i with leader := v.setWidth 11, follower := v.extractLsb' 11 11 }
    else if off = 0x848 then onPwr s fun p => { p with ageRef := p.ageRef.setIfInBounds i v }
    else if off < 0xA800 ∧ 0xA000 ≤ off then
      let e := (off - 0xA000) / 0x20
      setCtx s e (i / 16) (writeCtxItem (ctxAt s e (i / 16)) (i % 16) v)
    else setItem s off i ((item s off i &&& ~~~rwlMask off) ||| v)

/-- The reference of the re-check is formed (R289, R290). -/
def formReference (s : State) : State :=
  let l := lockKeys.map fun k => (k, lockedVal s k)
  { s with cfg := { s.cfg with lockRef := l, lockN := l.length, lockCrc := Sys2Proof.Config.lockCrc l } }

/-! ## Regions of a molt (R292, R293) -/

/-- The cores of the members of a pair, as the block holds it and as an image sets it. -/
def pairCores (s : State) (new : Copy) (p : Nat) : List Nat :=
  let of (l f : Nat) : List Nat := ([l, f].filter (· < 1664)).map coreOf
  of (pairAt s p).leader.toNat (pairAt s p).follower.toNat ++
    (regWrites new).flatMap fun w => if w.off = 0x2114 ∧ w.sel.map (·.2 % 1024) = some p then of (bits w.val 0 11) (bits w.val 11 11) else []

/-- A register, with its select value, is part of a region; cores gives those of a pair's members. -/
def inRegion (cores : Nat → List Nat) (off : Nat) (sel : Option (Nat × Nat)) : Region → Bool
  | .core c => (0x14000 + 0x40 * c.val ≤ off && off < 0x14040 + 0x40 * c.val) ||
      (off == 0x2114 && (match sel with | some (_, p) => (cores (p % 1024)).contains c.val | none => false))
  | .engine _ => false
  | .group g hold => (0xC00 + 0x40 * g.val ≤ off && off < 0xC40 + 0x40 * g.val) ||
      (hold && 0xA000 + 0x100 * g.val ≤ off && off < 0xA100 + 0x100 * g.val)
  | .axis n => 0x4000 + 0x40 * n.val ≤ off && off < 0x4040 + 0x40 * n.val
  | .bank b => off == 0x7004 + 0x20 * b.val
  | .system =>
      !((0x14000 ≤ off && off < 0x14D00) || off == 0x2114 || (0xC00 ≤ off && off < 0xE00) || (0xA000 ≤ off && off < 0xA800)
        || (0x4000 ≤ off && off < 0x4440) || (0x7000 ≤ off && off < 0x7440))

/-- The last value that a list of settings gives a key. -/
def lastVal (l : List RegWrite) (k : Nat × Option (Nat × Nat)) : Option Word := (l.reverse.find? fun w => w.key == k).map (·.val)

/-- The settings that differ between two images; one that the new image leaves out takes 0 (R276). -/
def changedRegs (old new : Copy) : List RegWrite :=
  let a := regWrites old
  let b := regWrites new
  (b.filter fun w => lastVal a w.key != some w.val)
    ++ (a.filter fun w => (lastVal b w.key).isNone).map fun w => { w with val := 0 }

/-- The payload of a section. -/
def payOf (c : Copy) (ty inst : Nat) : Option (List Nat) := (sectOf c ty inst).map (payload c)

/-- The channels whose wiring differs between two images, with their old and new endpoints (R293). -/
def rewired (old new : Copy) : List (Nat × List Endpoint) :=
  (List.range 13).flatMap fun cl =>
    let a := (chanRecs old cl).map fun r => (r.ch, r.w, r.r)
    let b := (chanRecs new cl).map fun r => (r.ch, r.w, r.r)
    ((a.filter fun e => !b.contains e) ++ (b.filter fun e => !a.contains e)).map fun e => (e.1, [endOf e.2.1, endOf e.2.2])

/-- An endpoint may be rewired under the listed regions (R293). -/
def endListed (l : List Region) (e : Endpoint) : Bool :=
  match e.kind with
  | .spoke => e.id < 1536 && l.contains (.core (Fin.ofNat 48 (coreOf e.id)))
  | .engine => l.contains (.group (groupOfEng (e.id / 64)) true)
  | _ => true

/-- Every change lies in a listed region (R293). -/
def changesListed (s : State) (l : List Region) (old new : Copy) : Bool :=
  let core (k : Nat) : Bool := l.contains (.core (Fin.ofNat 48 k))
  ((changedRegs old new).all fun w => l.any (inRegion (pairCores s new) w.off w.sel))
  && ((List.range 48).all fun k => payOf old 2 k == payOf new 2 k || core k)
  && ((rewired old new).all fun e => e.2.all (endListed l))
  && ((List.range 64).all fun m => payOf old 4 m == payOf new 4 m ||
      (List.range 48).all fun k => (coreByte old k != some (BitVec.ofNat 8 m) && coreByte new k != some (BitVec.ofNat 8 m)) || core k)
  && ((List.range 48).all fun k => coreByte old k == coreByte new k || core k)
  && ((List.range 64).all fun e => payOf old 6 e == payOf new 6 e ||
      l.contains (.engine (Fin.ofNat 64 e)) || l.contains (.group (groupOfEng e) true))
  && ((List.range 8).all fun g => payOf old 7 g == payOf new 7 g ||
      l.contains (.group (Fin.ofNat 8 g) true) || l.contains (.group (Fin.ofNat 8 g) false))

/-- The pairs that the block holds or an image names. -/
def pairIds (s : State) (new : Copy) : List Nat :=
  s.avl.pairs.map (·.1) ++ (regWrites new).filterMap fun w => if w.off = 0x2114 then w.sel.map (·.2 % 1024) else none

/-- VIO, or a context item from 0x7 to 0xB, is set by the run (R293). -/
def holdOnly (old new : Copy) (w : RegWrite) (g : Fin 8) : Bool :=
  w.off == 0xC10 + 0x40 * g.val && (((lastVal (regWrites old) w.key).getD 0) ^^^ ((lastVal (regWrites new) w.key).getD 0)).getLsbD 0

/-- The molt rules of R293 hold. -/
def moltOk (s : State) (l : List Region) (old new : Copy) : Bool :=
  changesListed s l old new
  && ((pairIds s new).all fun p =>
    let cs := pairCores s new p
    let listed (c : Nat) : Bool := decide (c < 48) && l.contains (.core (Fin.ofNat 48 c))
    cs.all listed || !cs.any listed)
  && (l.all fun r => match r with
    | .engine e => !l.contains (.group (groupOfEng e.val) true)
    | .group g false => (changedRegs old new).all fun w => !holdOnly old new w g
    | _ => true)

end Sys2Proof.Machine
end

