-- ==== Sys2Proof/Machine/Rules.lean ====
section
/-! DEFINITION. The rejection rules of the chapters that the loader applies to an image as it will stand: codes RULE and STRAPS
(R282). A rule about one record reports that record; a rule that joins several records reports a free one. -/
namespace Sys2Proof.Machine

/-! ## Register runs (R278) -/

/-- An offset that a run may not name. -/
def runForbidden (off : Nat) : Bool :=
  (findReg off).isNone || (0x1000 ≤ off && off < 0x2000) || off == 0x7840 || (0xA000 ≤ off && off < 0xA800 && off % 0x20 == 0x10)
    || 0x30000 ≤ off

/-- The offset of MEM_BANKn_OWNER, of an instance from 0 to 33. -/
def isOwner (off : Nat) : Bool := decide (0x7000 ≤ off ∧ off < 0x7440 ∧ off % 0x20 = 0)

/-- Bits that a run may set. On axis 0 KIND is RO and SRC2 is RES0 (R36). -/
def runMask (off : Nat) : Nat :=
  if off = 0x8814 then 0xFFFF
  else if off = 0x4004 then 0xFFFF1FF0
  else if off = 0x4008 then 0
  else match findReg off with
    | some r => r.rw + r.rwl
    | none => 0

/-- A value that the register's own rule rejects. KIND 0b101 on an axis from 1 to 16 is no reserved value: it is accepted, and the axis
never counts (DEDUCED, log entry 48). -/
def valueBad (off : Nat) (v : Word) : Bool :=
  let f (lo n : Nat) : Nat := bits v lo n
  if 0x4000 ≤ off ∧ off < 0x4440 then
    match off % 0x40 with
    | 0x00 => decide (4 < f 8 3)
    | 0x04 => decide (5 < f 0 3) || ((f 0 3 == 3 || f 0 3 == 4) && f 16 16 == 0)
    | _ => false
  else if off = 0x4814 then decide (16 < f 0 5) || f 8 2 == 3 || decide (5 < f 12 3)
  else if 0x8000 ≤ off ∧ off < 0x8800 ∧ off % 0x40 = 0 then decide (4 < f 24 3) || f 19 3 == 1
  else if 0x7000 ≤ off ∧ off < 0x7440 ∧ off % 0x20 = 4 then decide (1 < f 0 2)
  else if off = 0xA810 then f 12 2 == 3
  else if 0x14000 ≤ off ∧ off < 0x14D00 then (off % 0x40 == 0x14 && f 5 2 == 3) || (off % 0x40 == 8 && decide (64 < f 0 7 ∨ 64 < f 16 7))
  else if 0x2000 ≤ off ∧ off < 0x20D0 ∧ off % 0x10 = 0 then f 16 2 == 3
  else if off = 0x2114 then f 22 2 == 3
  else if off = 0x3010 then f 0 2 == 3 || f 2 2 == 3 || decide (f 2 2 < f 0 2)
  else if 0xE000 ≤ off ∧ off < 0xE400 ∧ off % 0x40 = 4 then (List.range 4).any fun k => f (8 * k + 3) 2 == 3
  else if 0xE000 ≤ off ∧ off < 0xE400 ∧ off % 0x40 = 0x14 then decide (f 28 4 < 3 ∨ 12 < f 28 4)
  else if off = 0xE408 then decide (f 0 12 < 64)
  else if off = 0xE420 then decide (f 0 10 < 100)
  else if off = 0x12014 then decide (f 0 11 < 1 ∨ 1024 < f 0 11 ∨ f 11 10 < 1 ∨ 512 < f 11 10 ∨ f 21 11 < 1 ∨ 64 < f 21 11)
  else if off = 0x1202C then decide (f 8 4 < 1 ∨ 8 < f 8 4)
  else if 0xA000 ≤ off ∧ off < 0xA800 ∧ off % 0x20 = 4 then decide (f 0 32 < 0x10000)
  else false

/-- A value of a run that the loader rejects. -/
def runBad (w : RegWrite) : Bool :=
  runForbidden w.off || (match w.sel with | some (r, _) => runForbidden r | none => false)
    || (if isOwner w.off then decide (0x7400 ≤ w.off) || decide (32 ≤ w.val.toNat) || !ownerCode (bits w.val 0 5)
        else (w.val &&& ~~~(BitVec.ofNat 32 (runMask w.off))) != 0 || valueBad w.off w.val)

/-- The REGS section. -/
def regsErr (c : Copy) (t : Sect) : Option CfgErr :=
  match runsOf c with
  | .inr o => some ⟨0x0B, t.idx, o⟩
  | .inl l => (l.find? runBad).map fun w => ⟨0x0B, t.idx, w.at_⟩

/-! ## Records (R79, R279, R280) -/

/-- A segment descriptor in one of the three forms of R79, valid or not. -/
def segOk (lo hi : Nat) : Bool :=
  let lim := hi % 2 ^ 26
  let r := hi / 2 ^ 26 % 2
  let w := hi / 2 ^ 27 % 2
  let l := hi / 2 ^ 28 % 2
  let p := hi / 2 ^ 29 % 2
  let d := hi / 2 ^ 30 % 2
  match p, d with
  | 0, 0 => decide (lo + lim ≤ 0x03FFFFFF)
  | 0, 1 => decide (0x10000000 ≤ lo ∧ lo + lim ≤ 0x1004FFFF) && l == 0
  | 1, 0 => decide (lo + lim ≤ 0x5FFFF) && r + w + l == 0
  | _, _ => false

/-- A spoke record holds only what R279 gives it. -/
def spokeRecBad (r : SpokeRec) : Bool :=
  let a := r.w[0]
  a &&& (0xFFFFFFFF - 0x011FF71F) != 0 || 2 ^ 18 ≤ r.w[1] || r.w[2] / 2 ^ 16 % 128 != 0 || r.w[3] != 0
    || !((List.range 8).all fun i => segOk (r.w.toArray[4 + 2 * i]?.getD 0) (r.w.toArray[5 + 2 * i]?.getD 0))

/-- An element of a list agrees with an earlier one under a function: the first such. -/
def firstDup {α : Type} (f : α → Nat) : List Nat → List α → Option α
  | _, [] => none
  | seen, x :: xs => if seen.contains (f x) then some x else firstDup f (f x :: seen) xs

/-- A SPOKES section. -/
def spokesErr (c : Copy) (t : Sect) : Option CfgErr :=
  let l := spokeRecs c t.inst
  let bad (r : SpokeRec) : CfgErr := ⟨0x0B, t.idx, r.at_⟩
  firstErr [
    need (t.inst < 48 && t.plen % 80 == 0) ⟨0x0B, t.idx, t.ofs⟩,
    (l.find? spokeRecBad).map bad,
    (firstDup (·.g) [] l).map bad]

/-- A channel record holds only what R279 gives it. -/
def chanRecBad (r : ChanRec) : Bool :=
  1024 ≤ r.raw || !endOk r.w || !endOk r.r
    || (r.raw == 1023 && !(r.w == 0xA * 2 ^ 28 && r.r == 2 ^ 28 + masterOf (r.ch / 1024)))
    || (r.w / 2 ^ 28 == 8 && r.r / 2 ^ 28 == 8)

/-- A CHANNELS section. -/
def chansErr (c : Copy) (t : Sect) : Option CfgErr :=
  let l := chanRecs c t.inst
  let bad (r : ChanRec) : CfgErr := ⟨0x0B, t.idx, r.at_⟩
  firstErr [
    need (t.inst < 13 && t.plen % 12 == 0) ⟨0x0B, t.idx, t.ofs⟩,
    (l.find? chanRecBad).map bad,
    (firstDup (·.raw) [] l).map bad]

/-- A PROGRAM section. -/
def programErr (c : Copy) (t : Sect) : Option CfgErr :=
  firstErr [
    need (t.inst < 64 && t.plen % 8 == 0 && 8 ≤ t.plen && t.plen ≤ 393216) ⟨0x0B, t.idx, t.ofs⟩,
    ((List.range (t.plen / 8)).find? fun i => cw c (t.ofs + 20 + 8 * i) / 2 ^ 24 != 0).map fun i => ⟨0x0B, t.idx, t.ofs + 16 + 8 * i⟩]

/-- A pin engine word that R134 lists as illegal. -/
def penIllegal (i : Nat) : Bool :=
  let a := i % 32
  match i / 256 % 16 with
  | 1 => !([0, 1, 2, 3, 8, 9, 0xA, 0xB, 0x10, 0x11, 0x12].contains a)
  | 4 => decide (5 < a % 8)
  | 5 => decide (3 < a % 8) || (decide (16 ≤ a) && a % 8 != 0)
  | 6 => decide (0xB < a)
  | _ => false

/-- An ENGINE section. -/
def engineErr (c : Copy) (t : Sect) : Option CfgErr :=
  firstErr [
    need (t.inst < 64 && t.plen == 1024) ⟨0x0B, t.idx, t.ofs⟩,
    ((List.range 512).find? fun i =>
      let h := engHalf c t i
      if i < 256 then 0x4000 ≤ h || penIllegal (h % 4096) else 0x200 ≤ h).map fun i => ⟨0x0B, t.idx, t.ofs + 16 + 2 * i⟩]

/-- A CHRYSALIS section (R149). -/
def chryErr (c : Copy) (t : Sect) : Option CfgErr :=
  firstErr [
    need (t.inst < 8 && t.plen == 64) ⟨0x0B, t.idx, t.ofs⟩,
    ((List.range 16).find? fun i =>
      let w := cw c (t.ofs + 16 + 4 * i)
      2 ^ 24 ≤ w || (i < 8 && (List.range 8).any fun k => 4 < w >>> (3 * k) % 8)).map fun i => ⟨0x0B, t.idx, t.ofs + 16 + 4 * i⟩]

/-- The rules on the records of one section. -/
def sectErr (c : Copy) (t : Sect) : Option CfgErr :=
  match t.ty with
  | 1 => (need (t.inst == 0) ⟨0x0B, t.idx, t.ofs⟩).or (regsErr c t)
  | 2 => spokesErr c t
  | 3 => chansErr c t
  | 4 => programErr c t
  | 5 => need (t.inst == 0 && t.plen == 48) ⟨0x0B, t.idx, t.ofs⟩
  | 6 => engineErr c t
  | 7 => chryErr c t
  | _ => none

/-! ## Rules on the image as it will stand -/

/-- The block as the image alone would set it. -/
def asApplied (s : State) (c : Copy) : State := applyImage { State.reset with cores := s.cores, host := s.host } c

/-- Cadence rules (R18, R20, R28, R31). -/
def cadenceOk (t : State) : Bool :=
  ((List.finRange 17).all fun n =>
    let m := (reg t (axReg n 0xC)).toNat
    let hi := fld t (axReg n 0x10) 0 8
    (n == 0 || !(flg t (axReg n 0) 0 && axKind t n == 0)) && !(hi == 0 && m == 1) && (n != 0 || (hi == 0 && m == 0)))
  && (t.cad.evts.all fun e =>
    let n := evtAxis e.2
    let rotary := decide ((reg t (axReg n 0xC)).toNat + fld t (axReg n 0x10) 0 8 ≠ 0)
    !(rotary && decide (wrapOf t n ≤ 2 * bits e.2.cfg 16 16))
      && (bits e.2.cfg 12 3 != 1 || (chan t (e.2.act.toNat % 2 ^ 14)).writer.kind == .cadence))

/-- An entry of a chainring of physical core p: the spoke index it names. -/
def ringSpoke (t : State) (p : Nat) (wayB : Bool) (i : Nat) : Option Nat :=
  let e := item t (0x14014 + 0x40 * p) (i + 64 * b2n wayB)
  if bits e 5 2 = 0 then some (bits e 0 5) else none

/-- The entries of a way that name a spoke index. -/
def ringAt (t : State) (p : Nat) (wayB : Bool) (x : Nat) : List Nat :=
  (List.range (fld t (0x14008 + 0x40 * p) (if wayB then 16 else 0) 7)).filter fun i => ringSpoke t p wayB i == some x

/-- Chainring rules of one listed spoke (R41). -/
def ringOk (t : State) (g : Nat) (sp : Spoke) : Bool :=
  let p := physCore t (coreOf g)
  let a := ringAt t p false (g % 32)
  let b := ringAt t p true (g % 32)
  let sameLen := fld t (0x14008 + 0x40 * p) 0 7 == fld t (0x14008 + 0x40 * p) 16 7
  if sp.elastic then a == [] && b == [] && g != masterOf (clusterOf g)
  else
    (a != [] || b != []) && !(g == masterOf (clusterOf g) && sp.deferredDecl)
      && ((a.filter fun i => !b.contains i) == [] || (b.filter fun i => !a.contains i) == [])
      && ((a.filter b.contains) == [] || sameLen)

/-- A declared deadlock group has no channel to a spoke outside it (R54). -/
def groupsOk (t : State) : Bool :=
  t.chans.all fun e =>
    let w := e.2.writer
    let r := e.2.reader
    w.kind != .spoke || r.kind != .spoke ||
      (let dw := (spk t w.id).dlgroup.map fun d => 32 * clusterOf w.id + d.val
       let dr := (spk t r.id).dlgroup.map fun d => 32 * clusterOf r.id + d.val
       (dw.isNone && dr.isNone) || dw == dr)

/-- The contexts that the image configures, with their engines. -/
def ctxList (t : State) : List (Nat × Nat × Ctx) := t.pen.engines.flatMap fun e => e.2.ctxs.map fun c => (e.1, c.1, c.2)

/-- Pins that the axes use as inputs (R18). -/
def axisPins (t : State) : List Nat :=
  (List.finRange 17).flatMap fun n =>
    if n = 0 then []
    else pinsOf (axKind t n) (fld t (axReg n 4) 4 9) ++ (if hasSec t n then pinsOf (axKind t n) (fld t (axReg n 8) 1 9) else [])

/-- Pin engine rules (R120, R122, R123, R185). -/
def enginesOk (t : State) : Bool :=
  let l := ctxList t
  let owned := l.flatMap fun x => ownedPins x.1 x.2.2
  (l.all fun x =>
    decide (x.2.1 < fld t (engReg x.1 0) 8 7) && decide (x.2.2.base + x.2.2.count ≤ 64)
      && (match x.2.2.outCh with
          | some ch => (chan t ch).reader.kind != .lock ||
              (match x.2.2.inCh with | some i => (chan t i).writer.kind == .lock | none => false)
          | none => true))
  && decide (owned.eraseDups.length = owned.length) && (axisPins t).all fun p => !owned.contains p

/-- Mailbox and terminal bindings (R307, R336). -/
def bindingsOk (t : State) : Bool :=
  let n (p : Chan → Bool) : Nat := (chansWhere t p).length
  decide (n (·.writer.kind == .mailbox) ≤ 8) && decide (n (·.reader.kind == .mailbox) ≤ 8)
    && decide (n (·.writer.kind == .terminal) ≤ 256) && decide (n (·.reader.kind == .terminal) ≤ 256)

/-- The length of a way's chainring, and its entry i (R39, R55). -/
def ringLen (s : State) (p : Nat) (wayB : Bool) : Nat := fld s (0x14008 + 0x40 * p) (if wayB then 16 else 0) 7
def ringEntry (s : State) (p : Nat) (wayB : Bool) (i : Nat) : Word := item s (0x14014 + 0x40 * p) (i + if wayB then 64 else 0)

/-- The entry names the spoke index. -/
def entryNames (e : Word) (k : Nat) : Bool := bits e 5 2 == 0 && bits e 0 5 == k

/-- The home way of a spoke is way B: an elastic spoke's pool, or for a fixed one the way whose entry names it where the same entry of way A
does not, a tandem entry (R41, R44). -/
def homeWayB (s : State) (g : Nat) : Bool :=
  let sp := spk s g
  if sp.elastic then sp.poolB
  else
    let p := physCore s (coreOf g)
    (List.range (ringLen s p true)).any fun i =>
      entryNames (ringEntry s p true i) (g % 32) && !(decide (i < ringLen s p false) && entryNames (ringEntry s p false i) (g % 32))

/-- The home entries of a fixed spoke: the length of its home way, and its positions there (R259). -/
def homeOf (t : State) (g : Nat) : Nat × List Nat :=
  let p := physCore t (coreOf g)
  (ringLen t p (homeWayB t g), ringAt t p (homeWayB t g) (g % 32))

/-- The rules of R259 on one pair. -/
def pairOk (t : State) (c : Copy) (x : Pair) : Bool :=
  let l := x.leader.toNat
  let f := x.follower.toNat
  (x.leader == 0x7FF && x.follower == 0x7FF) ||
    (decide (l < 1664 ∧ f < 1664) && (spk t l).listed && (spk t f).listed && !(spk t l).elastic && !(spk t f).elastic
      && clusterOf l == clusterOf f && coreOf l != coreOf f && coreByte c (coreOf l) == coreByte c (coreOf f)
      && (spk t l).entry == (spk t f).entry && (spk t l).s0 == (spk t f).s0 && homeOf t l == homeOf t f
      && t.chans.all fun e => !e.2.writer.isSpoke f && !e.2.reader.isSpoke f)

/-- An axis capture names an axis from 0 to 16 (R220). -/
def capturesOk (t : State) : Bool :=
  (List.finRange 32).all fun n => fld t (tmrReg n 0) 24 3 != 4 || bits (item t 0x8814 (4 * n.val)) 0 5 ≤ 16

/-- Every rule that joins records holds. -/
def stateOk (t : State) (c : Copy) : Bool :=
  cadenceOk t && (t.spokes.all fun e => ringOk t e.1 e.2) && groupsOk t && enginesOk t && bindingsOk t
    && (t.avl.pairs.all fun e => pairOk t c e.2) && capturesOk t

/-- The rejection of a rule that joins records. -/
def joinErr (code : Nat) (c : Copy) : CfgErr :=
  let r := Sys2Proof.Config.ruleRecord c.words
  ⟨code, r.1.toNat, r.2.toNat⟩

/-- The first RULE rejection of an image: by record in file order, then a rule that joins records. -/
def ruleErr (s : State) (c : Copy) : Option CfgErr :=
  (firstErr ((sects c).map (sectErr c))).or (need (stateOk (asApplied s c) c) (joinErr 0x0B c))

/-! ## STRAPS (R251) -/

/-- The pin limits that the runs give a group: local pin and value. -/
def pinLimits (ws : List RegWrite) (g : Nat) : List (Nat × Nat) :=
  let selOff := 0xC18 + 0x40 * g
  (ws.foldl (fun (r : Nat × List (Nat × Nat)) w =>
    let cur := match w.sel with
      | some (o, v) => if o = selOff then v % 64 else r.1
      | none => r.1
    if w.off = selOff then (bits w.val 0 6, r.2)
    else if w.off = selOff + 4 then (cur, (cur, bits w.val 0 4) :: r.2)
    else (cur, r.2)) (0, [])).2

/-- The limit of a pin in mA: value n gives n + 1 (R247). -/
def pinLimitOf (l : List (Nat × Nat)) (p : Nat) : Nat := ((l.find? fun e => e.1 == p).map (·.2)).getD 0 + 1

/-- The safe-state code of a local pin in the image. -/
def imageCode (c : Copy) (g i : Nat) : Nat :=
  match sectOf c 7 g with
  | some t => cw c (t.ofs + 16 + 4 * (i / 8)) >>> (3 * (i % 8)) % 8
  | none => 0

/-- R251 holds for a group. An image configures a group where a run names a register of its NRG block or its pattern has a drive code
(DEDUCED, log entry 91). -/
def strapsOk (s : State) (c : Copy) (ws : List RegWrite) (g : Fin 8) : Bool :=
  let b := 0xC00 + 0x40 * g.val
  let st := s.nrg[g].straps
  let val (r : Nat) : Nat := ((lastVal ws (b + r, none)).map (·.toNat)).getD 0
  let lim := pinLimits ws g.val
  let drive := (List.range 64).filter fun i => imageCode c g.val i == 1 || imageCode c g.val i == 2
  let ctl := val 0x10
  ((ws.all fun w => !(b ≤ w.off && w.off < b + 0x40)) && drive.isEmpty) ||
    (((List.range 64).all fun i => decide (pinLimitOf lim i ≤ min 16 st.io.toNat))
      && decide (val 8 ≤ st.io.toNat) && decide (val 0xC ≤ st.po.toNat)
      && decide ((drive.map (pinLimitOf lim)).sum ≤ val 8)
      && decide ((if ctl % 2 = 1 then 33 else 18) ≤ st.uo.toNat)
      && decide (st.co.toNat * st.uo.toNat ^ 2 ≤ val 0xC * 20000)
      && decide (4 ≤ ctl / 2 % 32 ∧ ctl / 64 % 4 ≠ 3))

/-- The STRAPS rejection. -/
def strapsErr (s : State) (c : Copy) : Option CfgErr :=
  need ((List.finRange 8).all (strapsOk s c (regWrites c))) (joinErr 0x0C c)

end Sys2Proof.Machine
end

