-- ==== Sys2Proof/Machine/Loader.lean ====
section
/-! DEFINITION. Loading, commit, release, molt, the cocoon scan and the re-check (R284 to R297, R344 to R346). -/
namespace Sys2Proof.Machine

/-- The loader replaced. -/
def onCfg (s : State) (f : Loader → Loader) : State := { s with cfg := f s.cfg }

/-! ## Errors (R282, R298) -/

/-- A command is refused. -/
def cfgRefuse (s : State) : State := orReg s 0x100C 0x200000

/-- CFG_ERR and CFG_ERR_OFS take a rejection. -/
def recordErrAt (s : State) (e : CfgErr) : State :=
  setReg (setReg s 0x1014 (orAll [e.code % 256, e.sect % 65536 * 256])) 0x1018 (BitVec.ofNat 32 (e.ofs % 2 ^ 20))

/-- A rejection is recorded (STAT.ERR). -/
def reject (s : State) (e : CfgErr) : State := orReg (recordErrAt s e) 0x100C 0x10000

/-- A rejection with no item of an image to name: section and offset are open. -/
def openErr (code : Nat) : CfgErr := joinErr code {}

/-! ## The source in main memory (R288) -/

/-- The words of the source image. -/
def srcWords (s : State) : List Nat :=
  let n := min 1048576 (fld s 0x1020 0 21)
  (List.range ((n + 31) / 32)).map fun i => fld s 0x101C 5 21 + i

/-- The source is read in the name of HOST: its words, none on an error response, which is counted and recorded (R159, R168). -/
def readSource (s : State) (o : List ReadOutcome) : State × Option (List MemWord) :=
  let ws := srcWords s
  let no := refusing s reqHOST ws false
  if no ≠ [] then (no.foldl (fun s b => noteNown s reqHOST b) s, none)
  else match readSeq s reqHOST ws o with
    | (t, true) => (t, some (seenWords s ws o))
    | (t, false) => (t, none)

/-- Words as a copy. -/
def asCopy (l : List MemWord) : Copy :=
  { ({} : Copy) with words := l.zipIdx.filterMap fun e => if e.1 = 0 then none else some (e.2, e.1) }

/-! ## Loading (R288) -/

/-- The µs of the last check of an image of n bytes: a free value of at most 2,000 + 0.7 per KiB (R282, R298). -/
def stampLoad (s : State) (n : Nat) : State :=
  { setReg s 0x1080 (BitVec.ofNat 32 (min (Sys2Proof.Config.loadTime s.free).toNat (2000 + 7 * n / 10240))) with free := s.free + 1 }

/-- The three copies hold one image, VALID (R288). -/
def allCopies (s : State) (c : Copy) : State :=
  onCfg s fun l => { l with copies := Vector.ofFn fun j => overCopy l.copies[j] (sealCopy c .valid) }

/-- The rejection of a full image, if any (R282). -/
def fullErr (s : State) (c : Copy) (srcLen : Nat) : Option CfgErr :=
  firstErr [fileErr s c srcLen,
    if imgKind c = 2 then none else ruleErr s c,
    if imgKind c = 2 then none else strapsErr s c,
    need (imgKind c == 1) ⟨0x14, 0xFFFF, 6⟩]

/-- The slot whose key signed an image. -/
def slotOf (c : Copy) : BitVec 2 := ((keySlot (cbytes c ((sigSect c).ofs + 16) 97)).map fun i => BitVec.ofNat 2 i.val).getD 0

/-- The image in copy 0 is checked; it fills the cocoon and the apply begins, or copy 0 is emptied (R288). -/
def checkCopy0 (s : State) (srcLen : Nat) : State :=
  let c := s.cfg.copies[(0 : Fin 3)]
  let s := stampLoad s srcLen
  match fullErr s c srcLen with
  | none => onCfg (allCopies s c) fun l => { l with active := 0, st := .applying, usedSlot := slotOf c }
  | some e => onCfg (setCopy (reject s e) 0 {}) fun l => { l with st := .empty }

/-- A load or a molt is in progress (R295). -/
def cfgBusy (s : State) : Bool := s.cfg.molt != .idle || s.cfg.st == .loading || s.cfg.st == .checking || s.cfg.st == .applying

/-- CMD.LOAD (R288). -/
def loadImage (s : State) (o : List ReadOutcome) : State :=
  if s.cfg.committed then cfgRefuse s
  else if cfgBusy s then reject s (openErr 0x10)
  else match readSource s o with
    | (t, none) => onCfg (reject t (openErr 0x11)) fun l => { l with st := .empty }
    | (t, some l) => checkCopy0 (setCopy t 0 { asCopy l with st := .writing }) (fld s 0x1020 0 21)

/-- CFG_LOAD. -/
def execCfgLoad (o : List ReadOutcome) (s : State) : Out := act (live s) s (loadImage s o)

/-- BOOT_IMAGE_CHECK: at BOOTDONE (R288). -/
def execBootImageCheck (s : State) : Out :=
  act (live s && s.coldStart && (chry s 0).bootDone && s.cfg.copies[(0 : Fin 3)].st == .writing && s.cfg.st == .empty) s
    (checkCopy0 s 1048576)

/-- The apply, each word read under R285. Where a read fails nothing is loaded (DESIGN CHOICE, log entry 95). -/
def applyRead (s : State) : State :=
  match readImage s with
  | (s, some c) => onCfg (applyImage s c) fun l => { l with st := .applied }
  | (s, none) => onCfg (reject s (openErr 0x12)) fun l => { l with st := .empty }

/-- IMAGE_APPLIED (R289). -/
def execImageApplied (u : List CocoonUpset) (s : State) : Out :=
  act (live s && s.cfg.st == .applying) s (applyRead (u.foldl upset s))

/-! ## Commit (R289, R345) -/

/-- The digest and the section table of the committed image (R297, R298). -/
def indexImage (s : State) (c : Copy) : State :=
  let h := Sys2Proof.Config.sha384 (cbytes c 0 (imgLen c))
  let s := (List.range 12).foldl (fun s i => setItem s 0x1074 i (h.extractLsb' (352 - 32 * i) 32)) s
  let put (s : State) (i : Nat) (a b d : Nat) : State :=
    setItem (setItem (setItem s 0x1094 i (BitVec.ofNat 32 a)) 0x1098 i (BitVec.ofNat 32 b)) 0x109C i (BitVec.ofNat 32 d)
  let t := sects c
  (List.range 1024).foldl (fun s i => match t[i]? with
    | some x => put s i (x.ty + x.inst * 65536) x.ofs x.plen
    | none => put s i 0 0 0) s

/-- The commit is recorded: generation, gear, bc count, reference, digest (R289, R294). -/
def recordCommit (s : State) (c : Copy) : State :=
  let s := onCfg s fun l => { l with gen := BitVec.ofNat 32 (imgGen c), gear := BitVec.ofNat 16 (imgMajor c + imgMinor c * 256) }
  formReference (indexImage (stampBc s 0x10B0 0x10B4) c)

/-- Entry i of the remap log's area: its 64 bits. -/
def areaEntry (l : List MemWord) (i : Nat) : BitVec 64 := (l.getD (i / 4) 0).extractLsb' (64 * (i % 4)) 64

/-- The entry's gear and kind are supported (R345). -/
def entryOk (e : BitVec 64) : Bool := e.toNat / 2 ^ 60 == 1 && decide (1 ≤ e.toNat / 2 ^ 48 % 256 ∧ e.toNat / 2 ^ 48 % 256 ≤ 3)

/-- An entry takes effect again (R345). -/
def restoreEntry (s : State) (e : BitVec 64) : State :=
  let n := e.toNat
  let phys := n / 2 ^ 42 % 64
  let x := n / 2 ^ 24 % 64
  let s := onMem s fun m => pushRemap m e
  match n / 2 ^ 48 % 256 with
  | 1 => onMem s fun m => { m with rows := m.rows ++ [(⟨phys, n / 2 ^ 39 % 8, n / 2 ^ 30 % 512⟩, x)] }
  | 2 => match servedBy s phys with
    | some b => swapMap s b (Fin.ofNat 34 x)
    | none => s
  | _ => onMem s fun m => { m with roles := m.roles.setIfInBounds phys .retired }

/-- The steps of a commit in one bc, then the remap restore (R289, R345, R349). -/
def commitNow (s : State) (es : List (BitVec 64)) : State :=
  let s := recordCommit (onCfg s fun l => { l with st := .committed, committed := true, locked := [] }) (imageNow s)
  let s := es.foldl restoreEntry s
  { s with
    mem := { s.mem with banks := s.mem.banks.map fun k => { k with owner := k.bsOwner, pending := none } }
    avl := { s.avl with role := BitVec.ofNat 2 (fld s 0xE414 0 2), roleWindow := some s.bc } }

/-- CMD.COMMIT (R289, R345). -/
def commit (s : State) (o : List ReadOutcome) : State :=
  let n := fld s 0x1020 0 21
  if s.cfg.st ≠ .applied then cfgRefuse s
  else if ¬ s.coldStart then commitNow s []
  else if n % 8 ≠ 0 ∨ 16384 < n then cfgRefuse s
  else match readSource s o with
    | (t, none) => cfgRefuse (recordErrAt t (openErr 0x11))
    | (t, some l) =>
      let es := (List.range (n / 8)).map (areaEntry l)
      match es.zipIdx.find? fun e => !entryOk e.1 with
      | some (_, i) => cfgRefuse (recordErrAt t ⟨0x0B, (openErr 0x0B).sect, 8 * i⟩)
      | none => commitNow t es

/-- CFG_COMMIT. -/
def execCfgCommit (o : List ReadOutcome) (s : State) : Out := act (live s) s (commit s o)

/-- AUTO_COMMIT: after a start that is not cold (R345). -/
def execAutoCommit (s : State) : Out := act (live s && !s.coldStart && s.cfg.st == .applied) s (commitNow s [])

/-! ## Release (R46, R346) -/

/-- A listed spoke starts: DEFERRED where so declared, else RUN at its entry point (R46), with its watchdog loaded (R268). -/
def startSpoke (s : State) (g : Nat) : State :=
  let sp := spk s g
  feedSpoke (setSpk s g { sp with st := if sp.deferredDecl then .deferred else .run }) g

/-- Spokes that the configuration lists, of the cores that a predicate selects. -/
def listedSpokes (s : State) (p : Nat → Bool) : List Nat := (s.spokes.filter fun e => e.2.listed && p (coreOf e.1)).map (·.1)

/-- The pairs with a member on a core that a predicate selects. -/
def pairsOn (s : State) (p : Nat → Bool) : List Nat :=
  (s.avl.pairs.filter fun e => p (coreOf e.2.leader.toNat) || p (coreOf e.2.follower.toNat)).map (·.1)

/-- The spokes and pairs of those cores start. -/
def startCores (s : State) (p : Nat → Bool) : State :=
  (pairsOn s p).foldl startPair ((listedSpokes s p).foldl startSpoke s)

/-- The axes whose committed EN is 1 start in TRACKING with p = 0 (R346). -/
def startAxes (s : State) : State :=
  (List.finRange 17).foldl (fun (s : State) (n : Fin 17) => if flg s (axReg n 0) 0 then enableAxis (setAxis s n {}) n else s) s

/-- Block release (R346). -/
def release (s : State) : State :=
  let s := { s with bc := 0, released := true, cores := s.cores.map fun k => { k with crStart := 0, lastA := 31, lastB := 31, used := [] } }
  let s := startAxes (startCores s fun _ => true)
  let s := releaseCauses ((s.pen.engines.map (·.1)).foldl (fun s e => if (chry s (groupOfEng e)).active then s else restartEngine s e) s)
  let s := (List.range 13).foldl reloadCluster s
  let s := if s.avl.role = 2 then enterStandby s else s
  orReg { s with avl := { s.avl with bwdgLeft := fld s 0x212C 0 16, bwdgKey := false }, str := { s.str with hbLast := 0 } } 0x18 4

/-- BLOCK_RELEASE. -/
def execBlockRelease (s : State) : Out := act (live s && s.cfg.committed && !s.released) s (release s)

/-! ## The molt (R291 to R295) -/

/-- The region records of a merged delta. -/
def regionRecs (d : Copy) : List Nat := (moltWords d).drop 1

/-- The regions of the staged delta. -/
def stagedRegions (s : State) : List Region := s.cfg.regions.filterMap fun w => regionOf w.toNat

/-- The rejection of a delta's regions (R293). -/
def regionErr (s : State) (old d merged : Copy) : Option CfgErr :=
  let t := (sectOf d 0x10 0).getD ⟨0, 0, 0, 0, 0⟩
  let rs := regionRecs d
  ((rs.zipIdx.find? fun e => (regionOf e.1).isNone).map fun e => ⟨0x0E, t.idx, t.ofs + 20 + 4 * e.2⟩).or
    (need ((sectOf d 0x10 0).isSome && moltOk s (rs.filterMap regionOf) old merged) (joinErr 0x0E d))

/-- Copy 2 is set back from copy 0 and the molt is idle (R294, R295). -/
def dropMolt (s : State) : State :=
  onCfg s fun l => { l with copies := l.copies.set 2 (overCopy l.copies[2] l.copies[0]), molt := .idle, regions := [], left := [] }

/-- CMD.STAGE: the delta is checked and the merged image written into copy 2 (R294). -/
def stage (s : State) (o : List ReadOutcome) : State :=
  if cfgBusy s then reject s (openErr 0x10)
  else match readSource s o with
  | (t, none) => reject t (openErr 0x11)
  | (s, some l) =>
    let d := asCopy l
    let old := imageNow s
    let m := mergeImage old d
    let s := stampLoad s (imgLen d)
    let delta := imgKind d == 2
    match firstErr [
        fileErr s d (fld s 0x1020 0 21),
        if delta then ruleErr s m else none,
        if delta then strapsErr s m else none,
        need (!delta || imgBase d == s.cfg.gen.toNat) ⟨0x0D, 0xFFFF, 0x14⟩,
        if delta then regionErr s old d m else none,
        need delta ⟨0x14, 0xFFFF, 6⟩] with
    | some e => dropMolt (reject s e)
    | none =>
      let w0 := (moltWords d).headD 0
      onCfg (setCopy s 2 (overCopy s.cfg.copies[(2 : Fin 3)] { m with st := .writing })) fun l => { l with
        molt := .staging, line := w0 % 32, force := decide (w0 / 256 % 2 = 1)
        regions := (regionRecs d).map (BitVec.ofNat 32), stagedGen := BitVec.ofNat 32 (imgGen m), usedSlot := slotOf d }

/-- CFG_STAGE. -/
def execCfgStage (o : List ReadOutcome) (s : State) : Out := act (live s) s (stage s o)

/-- The shadow bank and relocation table of an engine take the image's (R292). -/
def loadShadow (s : State) (c : Copy) (e : Nat) : State :=
  match sectOf c 6 e with
  | none => s
  | some t =>
    let x := eng s e
    let b := b2n (!x.active) * 256
    let keep := x.store.filter fun w => w.1 / 256 != b2n (!x.active)
    let keepReloc := x.reloc.filter fun w => w.1 / 256 != b2n (!x.active)
    let words := (List.range 256).filterMap fun i =>
      let h := BitVec.ofNat 16 (engHalf c t i)
      if h = 0 then none else some (b + i, (⟨h.setWidth 12, h.getLsbD 12, h.getLsbD 13, false⟩ : PenWord))
    let reloc := (List.range 256).filterMap fun i =>
      let h := BitVec.ofNat 16 (engHalf c t (256 + i))
      if h = 0 then none else some (b + i, (h.setWidth 8, h.getLsbD 8))
    setEng s e { x with
      store := words.foldl (fun u w => tput u w.1 w.2) keep, reloc := reloc.foldl (fun u w => tput u w.1 w.2) keepReloc }

/-- The merged image carries a signature that verifies (R281, FULLSIG). -/
def fullSigned (c : Copy) : Bool :=
  let t := sigSect c
  t.ty == 0x7FFF && t.plen == 196 && (keySlot (cbytes c (t.ofs + 16) 97)).isSome && signedBy c (t.ofs + 16) c t.ofs

/-- The engines of the staged ENGINE regions. -/
def stagedEngines (s : State) : List Nat := (stagedRegions s).filterMap fun r => match r with | .engine e => some e.val | _ => none

/-- MOLT_STAGED: the merged image is verified and copy 2 becomes STAGED (R294). -/
def execMoltStaged (s : State) : Out :=
  act (live s && s.cfg.molt == .staging) s
    (let c := s.cfg.copies[(2 : Fin 3)]
     let s := stampLoad s (imgLen c)
     match firstErr [need (fullSigned c) (joinErr 0x0F c),
         need ((stagedEngines s).all fun e => !(eng s e).pending) (joinErr 0x13 c)] with
     | some e => dropMolt (reject s e)
     | none =>
       let s := (stagedEngines s).foldl (fun s e => loadShadow s c e) s
       onCfg (setCopy s 2 (sealCopy c .staged)) fun l => { l with molt := .staged })

/-- CFG_ARM (R294). -/
def execCfgArm (s : State) : Out :=
  act (live s) s (if s.cfg.molt = .staged then onCfg s fun l => { l with molt := .armed } else cfgRefuse s)

/-- CMD.ABORT (R295). -/
def abortMolt (s : State) : State :=
  if s.cfg.molt = .staging ∨ s.cfg.molt = .staged ∨ s.cfg.molt = .armed then dropMolt s else cfgRefuse s

/-- CFG_ABORT. -/
def execCfgAbort (s : State) : Out := act (live s) s (abortMolt s)

/-! ## The apply of a molt (R292, R294) -/

/-- A write of the loader, which RWL does not bind. -/
def loaderWrites (s : State) (l : List RegWrite) : State :=
  let t := (applyWrites (onCfg s fun c => { c with committed := false, locked := [] }) l).1
  onCfg t fun c => { c with committed := s.cfg.committed, locked := s.cfg.locked }

/-- The settings of a region: those of the new image, and 0 for those it leaves out. -/
def regionWrites (s : State) (old new : Copy) (r : Region) : List RegWrite :=
  let mine (w : RegWrite) : Bool := inRegion (pairCores s new) w.off w.sel r
  ((changedRegs old new).filter fun w => mine w && (lastVal (regWrites new) w.key).isNone) ++ (regWrites new).filter mine

/-- A channel takes the new image's endpoints, or none, and is emptied (R293). -/
def rewire (new : Copy) (s : State) (ch : Nat) : State :=
  match (chanRecs new (ch / 1024)).find? fun r => r.ch == ch with
  | some r => applyChan s r
  | none => setChan s ch {}

/-- What TX slots bound to rewired channels have staged or pending is lost (R308). -/
def loseTx (s : State) (chans : List Nat) : State :=
  let lost (n : Fin 8) : Bool := match txChan s n.val with | some c => chans.contains c | none => false
  { s with host := { s.host with tx := Vector.ofFn fun n => if lost n then {} else s.host.tx[n] } }

/-- A group's chrysalis words (R292). -/
def chryWords (s : State) (new : Copy) (g : Fin 8) : State := applyChry s new g

/-- A region begins at the epoch (R292). -/
def beginRegion (old new : Copy) (s : State) (r : Region) : State :=
  match r with
  | .core c =>
    let s := ((listedSpokes s (· == c.val)).filter fun g => (spk s g).st != .stopped).foldl (fun s g => stopOne s g .master) s
    let p := physCore s c.val
    onCore s p fun k => { k with crStart := 2 * s.bc, lastA := 31, lastB := 31, used := [] }
  | .engine e => requestSwitch s e.val s.cfg.force
  | .group g true => enterChry s g 6 true
  | .group g false => chryWords (loaderWrites s (regionWrites s old new r)) new g
  | .axis n =>
    let s := loaderWrites s (regionWrites s old new r)
    setAxis s n { axis s n with uncertain := true }
  | .bank _ => loaderWrites s (regionWrites s old new r)
  | .system =>
    let s := loaderWrites s (regionWrites s old new r)
    if s.fab.up ∧ ¬ flg s 0x12008 0 then fabDown s else s

/-- A region whose end is a later bc. -/
def slowRegion : Region → Bool
  | .core _ => true
  | .engine _ => true
  | .group _ hold => hold
  | _ => false

/-- The last region has ended: the copies follow (R294). -/
def endApply (s : State) : State :=
  if s.cfg.left = [] then
    let t := (s.bc - ((reg s 0x10A8).toNat + (reg s 0x10AC).toNat * 2 ^ 32)) / 1000
    onCfg (setReg s 0x1084 (BitVec.ofNat 32 (min t 65535))) fun l => { l with molt := .copying }
  else s

/-- The apply at the epoch (R294). -/
def moltApply (s : State) : State :=
  let old := imageNow s
  let rs := stagedRegions s
  let new := { s.cfg.copies[(2 : Fin 3)] with st := .valid }
  let s := stampBc s 0x10A8 0x10AC
  let s := onCfg s fun l => { l with
    copies := (l.copies.set 2 new).set 1 { l.copies[1] with st := .writing }
    active := 2, molt := .applying, left := rs.filter slowRegion }
  let chans := ((rewired old new).map (·.1)).eraseDups
  let s := chans.foldl (rewire new) (loseTx s chans)
  endApply (rs.foldl (beginRegion old new) s)

/-- Engine switches armed on a line (R138, R295). -/
def epenSwitches (s : State) (l : Nat) : State :=
  ((List.range 64).filter fun e => flg s (engReg e 8) 16 && fld s (engReg e 8) 17 5 == l).foldl
    (fun s e => requestSwitch s e (bankMode s e)) s

/-- The active block tells its partner of the line (R201). -/
def tellEpoch (s : State) (l : Nat) : State :=
  if s.avl.role = 1 then sendTandem s 0xF2 [BitVec.ofNat 256 (l + (s.bc % 2 ^ 32) <<< 32)] (tandemUp s) else s

/-- A line opens (R295). -/
def openLine (s : State) (l : Nat) : State :=
  let s := epenSwitches (openHandovers s l) l
  let s := if s.cfg.molt = .armed ∧ s.cfg.line = l then moltApply s else s
  tellEpoch (orReg s 0x1058 ((1 : Word) <<< l)) l

/-- EPOCH_LINE_OPEN: a line that a comparator or a timer opens (R31, R220). -/
def execEpochLineOpen (l : Fin 32) (s : State) : Out :=
  act (live s && s.cad.epochQ.contains l.val) s
    (openLine { s with cad := { s.cad with epochQ := s.cad.epochQ.filter (· != l.val) } } l.val)

/-- A write of CFG_EPOCH_OPEN. -/
def openLines (s : State) (v : Word) : State := (List.range 32).foldl (fun s l => if bit v l then openLine s l else s) s

/-- CFG_EPOCH_OPEN. -/
def execCfgEpochOpen (lines : BitVec 32) (s : State) : Out := act (live s) s (openLines s lines)

/-- A CORE region, or a core in recovery, is loaded from an image: program, spoke records, chainrings and pairs (R292, R350). -/
def reloadCore (s : State) (c : Copy) (old : Copy) (k : Nat) : State :=
  let s := loaderWrites s (regionWrites s old c (.core (Fin.ofNat 48 k)))
  bindPairs (loadProgram (applyCore s c k) c k (physCore s k))

/-- What the end of a region does (R292). -/
def finishRegion (s : State) (r : Region) : State :=
  let new := s.cfg.copies[(2 : Fin 3)]
  let old := s.cfg.copies[(0 : Fin 3)]
  match r with
  | .core c => startCores (reloadCore s new old c.val) (· == c.val)
  | .group g true =>
    let s := (List.range 8).foldl (fun s i => applyEngine s new (8 * g.val + i)) s
    let s := holdWritten (chryWords (loaderWrites s (regionWrites s old new r)) new g) g
    let s := dropCause s g 6
    if mayReturn s g then returnGroup s g else s
  | _ => s

/-- A region may end: an engine's once its switch is complete (R139, R140). -/
def regionReady (s : State) : Region → Bool
  | .engine e => !(eng s e.val).pending
  | _ => true

/-- REGION_END. -/
def execRegionEnd (r : Region) (s : State) : Out :=
  act (live s && s.cfg.molt == .applying && s.cfg.left.contains r && regionReady s r) s
    (recoverWaiting (endApply (onCfg (finishRegion s r) fun l => { l with left := l.left.filter (· != r) })))

/-- MOLT_DONE: copy 1, then copy 0, are written from copy 2 (R294). -/
def execMoltDone (s : State) : Out :=
  act (live s && s.cfg.molt == .copying) s
    (let c := s.cfg.copies[(2 : Fin 3)]
     recordCommit (onCfg (spreadCopy s 2) fun l => { l with molt := .idle, moltDone := true, regions := [], left := [] }) c)

/-! ## The cocoon (R285 to R287) -/

/-- CMD.RESOLVE (R287). -/
def resolve (s : State) : State :=
  let i : Fin 3 := Fin.ofNat 3 s.cfg.active
  if s.cfg.copies[i].st = .valid then clrReg (spreadCopy s i) 0x100C 0x20000 else cfgRefuse s

/-- CFG_RESOLVE. -/
def execCfgResolve (s : State) : Out := act (live s) s (resolve s)

/-- CFG_SCAN: a scan starts now. -/
def execCfgScan (s : State) : Out := act (live s) s (onCfg s fun l => { l with scanBusy := true })

/-- A word of a copy is rewritten where it differs from the result of R285 (R286). -/
def scanWord (i : Fin 3) (s : State) (w : Nat) : State :=
  match cocoonRead s w with
  | (s', some d) => if copyWord s' i w = d ∧ decodes s' i w then s' else fixWord s' i w d
  | (s', none) => s'

/-- A copy is checked against its commit record, repaired, checked again, and lost at a second failure (R286). -/
def scanCopyOnce (s : State) (i : Fin 3) : State :=
  let s := onCfg s fun l => { l with scanCopy := i.val }
  if s.cfg.copies[i].st ≠ .valid ∨ copyOk s i then s
  else
    let s := (cocoonKeys s).foldl (scanWord i) s
    if copyOk s i then s else orReg (setCopy s i {}) 0x100C 0x100000

/-- COCOON_SCAN (R286). -/
def execCocoonScan (u : List CocoonUpset) (s : State) : Out :=
  act (live s && (flg s 0x1008 1 || s.cfg.scanBusy)) s
    (onCfg ((List.finRange 3).foldl scanCopyOnce (u.foldl upset s)) fun l => { l with scanBusy := false, scanPasses := l.scanPasses + 1 })

/-- COC_DATA_READ: a host read of the selected cocoon word (R285, R302). -/
def cocHostRead (s : State) : State :=
  match cocoonRead s (fld s 0x1088 0 15) with
  | (s', some d) => answer s' (d.setWidth 32)
  | (s', none) => hostRefuse s' 0x108C false 4

/-- COC_DATA_READ. -/
def execCocDataRead (u : List CocoonUpset) (s : State) : Out := act (live s) s (cocHostRead (u.foldl upset s))

/-! ## The choice at a start (R287, R344) -/

/-- Two copies hold the same image. -/
def sameImage (s : State) (i j : Fin 3) : Bool :=
  s.cfg.copies[i].gen == s.cfg.copies[j].gen && s.cfg.copies[i].words == s.cfg.copies[j].words

/-- The copy that the loader chooses, with the others rewritten from it; DIVERGE and SOLE as R287 gives. ACTIVE stays as it is
(DEDUCED, log entry 95). -/
def chooseImage (s : State) : State × Option (Fin 3) :=
  let l := (List.finRange 3).filter (copyOk s)
  match l with
  | [] => (reject s (openErr 0x12), none)
  | [i] => (spreadCopy (satReg (orReg s 0x100C 0x80000) 0x10B8 0 32) i, some i)
  | i :: _ =>
    match l.find? fun i => l.any fun j => i != j && sameImage s i j with
    | some k => (spreadCopy s k, some k)
    | none =>
      let g := topGen s l
      if l.all fun j => s.cfg.copies[j].gen.toNat == g then
        (satReg (orReg s 0x100C 0x20000) 0x10BC 0 32, some (activeOf s i l))
      else
        let k := (l.find? fun j => s.cfg.copies[j].gen.toNat == g).getD i
        (spreadCopy s k, some k)

/-- A start that is not cold: the image is chosen and the apply begins, or nothing is loaded (R287, R344). -/
def warmStart (s : State) : State :=
  match chooseImage s with
  | (s, some _) => onCfg s fun l => { l with st := .applying }
  | (s, none) => s

/-! ## The re-check (R290) -/

/-- The key lies in a region that a molt is applying. -/
def inMolt (s : State) (k : Nat) : Bool :=
  (s.cfg.molt == .applying || s.cfg.molt == .copying) &&
    (stagedRegions s).any fun r =>
      if 2 ^ 40 ≤ k then (match r with | .group g _ => g.val == (k - 2 ^ 40) / 16 | _ => false)
      else inRegion (pairCores s s.cfg.copies[(2 : Fin 3)]) (keyOff k) (some (0, k % 65536)) r

/-- The host offset that CFG_RECHECK_LAST shows; a chrysalis word has none, and what shows then is free (log entry 33). -/
def recheckOff (k : Nat) : Nat := if 2 ^ 40 ≤ k then (Sys2Proof.Config.chryRecheck (k - 2 ^ 40)).toNat else keyOff k

/-- The members of the locked set that a pass reads: those outside the regions that a molt is applying (R290). -/
def recheckSet (s : State) : List (Nat × Word) := s.cfg.lockRef.filter fun e => !inMolt s e.1

/-- One locked register is compared with its value from the cocoon, and restored (R290). -/
def recheckOne (t : State) (s : State) (k : Nat) : State :=
  if lockedVal s k = lockedVal t k then s
  else orReg (setReg (satReg (setLocked s k (lockedVal t k)) 0x105C 0 32) 0x1060 (BitVec.ofNat 32 (recheckOff k))) 0x100C 0x40000

/-- A pass: where the CRC over the locked set is not the reference's, each member takes its value from the cocoon; none where the cocoon
cannot be read (R285, R290). -/
def recheck (s : State) : State :=
  let l := recheckSet s
  if Sys2Proof.Config.lockCrc (l.map fun e => (e.1, lockedVal s e.1)) = Sys2Proof.Config.lockCrc l then s
  else
    match readImage s with
    | (s, some c) => (l.map (·.1)).foldl (recheckOne (asApplied s c)) s
    | (s, none) => s

/-- RECHECK_PASS (R290). -/
def execRecheckPass (s : State) : Out := act (live s && s.cfg.committed && flg s 0x1008 0) s (recheck s)

/-! ## CFG_CMD -/

/-- A write of CFG_CMD: one bit at a time. -/
def cfgCmd (s : State) (v : Word) : State :=
  match bits v 0 7 with
  | 0 => s
  | 1 => loadImage s []
  | 2 => commit s []
  | 4 => stage s []
  | 8 => if s.cfg.molt = .staged then onCfg s fun l => { l with molt := .armed } else cfgRefuse s
  | 16 => abortMolt s
  | 32 => resolve s
  | 64 => onCfg s fun l => { l with scanBusy := true }
  | _ => cfgRefuse s

end Sys2Proof.Machine
end

