-- ==== Sys2Proof/Machine/Avl.lean ====
section
/-! DEFINITION. Fault tolerance: replay, vote, retirement, safe reactions, watchdogs, clock monitors, cluster recovery, program
memory checks, and the late deliveries of reports and truncated messages (R49, R53, R54, R71, R257 to R271, R350). -/
namespace Sys2Proof.Machine

/-! ## Late deliveries (R49, R53, R54) -/

/-- SYSTEM_REPORT_DELIVER (R49). -/
def execSystemReportDeliver (cl : Fin 13) (s : State) : Out :=
  match s.sysBuf[cl] with
  | [] => .next s
  | w :: t =>
    act (live s && room s (sysChan cl.val) != 0) s
      (pushWords { s with sysBuf := s.sysBuf.set cl t } (sysChan cl.val) (message [w] false false))

/-- TRUNCATED_MESSAGE_ENTER (R53). -/
def execTruncatedMessageEnter (ch : BitVec 14) (s : State) : Out :=
  if 13 ≤ ch.toNat / 1024 then .fault .noChannel
  else
    let c := chan s ch.toNat
    match c.waiting with
    | [] => .next s
    | m :: t =>
      act (live s && decide (m.length ≤ room s ch.toNat)) s
        (pushWords (setChan s ch.toNat { c with waiting := t }) ch.toNat m)

/-- DEADLOCK_DETECTED (R54): once per episode. -/
def execDeadlockDetected (cl : Fin 13) (grp : Fin 32) (s : State) : Out :=
  let k := 32 * cl.val + grp.val
  let d : DlGroup := tget {} s.dl k
  act (live s && decide (1024 ≤ d.elapsed) && !d.reported && dlAllBlocked s cl.val grp.val && !dlFed s cl.val grp.val) s
    (reportWord { s with dl := tput s.dl k { d with deadlock := true, reported := true } } cl.val
      (sysWord 2 grp.val ((dlMembers s cl.val grp.val).headD 0)))

/-! ## Program memory (R71, R257) -/

/-- The byte of the active image at which a program word starts; none where the image lists no such word (R280). -/
def progPlace (s : State) (phys w : Nat) : Option Nat :=
  let c := imageNow s
  let core := ((s.cores.toArray[phys]?).map (·.logical)).getD 64
  (coreImage c core).bind fun t => progOfs t w

/-- A cocoon re-read of one program word of a physical core (R257, R285): by the majority of the copies; none where the read fails. A word
that the image does not list is zero. -/
def imageProg (s : State) (phys w : Nat) : State × Option (BitVec 56) :=
  match progPlace s phys w with
  | none => (s, some 0)
  | some o =>
    match cocoonRead s (o / 32) with
    | (s, none) => (s, none)
    | (s, some lo) =>
      match (if (o + 7) / 32 = o / 32 then (s, some 0) else cocoonRead s ((o + 7) / 32)) with
      | (s, some hi) => (s, some (((hi ++ lo : BitVec 512) >>> (8 * (o % 32))).setWidth 56))
      | (s, none) => (s, none)

/-- A program word written. -/
def putProg (s : State) (phys w : Nat) (d : BitVec 56) : State :=
  { s with progs := if d = 0 then tdel s.progs (49152 * phys + w) else tput s.progs (49152 * phys + w) d }

/-- A retry has succeeded, or failed (R256). -/
def noteRetry (s : State) (ok : Bool) : State := bump s (if ok then 0x2154 else 0x2158)

/-- A performance event of a spoke. -/
def spokeEvent (s : State) (g code : Nat) : State := pmcEvent s (physCore s (coreOf g)) code (homeWayB s g) (g % 32)

/-- A program word is re-read from the cocoon, once: the retry is counted, and the word restored where the re-read delivers it (R256,
R257). -/
def rereadProg (s : State) (phys w : Nat) (ok : Bool) : State × Bool :=
  match imageProg s phys w with
  | (s, some d) => if ok then (putProg (noteRetry s true) phys w d, true) else (noteRetry s false, false)
  | (s, none) => (noteRetry s false, false)

/-- PROGRAM_REREAD_COMPLETE (R71, R257): the program word at the PC, or the one after it that holds an instruction's second parcel, had a
double error; it is restored, or the fetch faults. The row stands for the error and its re-read, which take no time here (log entry 7). -/
def execProgramRereadComplete (g : SpokeId) (second ok : Bool) (s : State) : Out :=
  let sp := spk s g.val
  let phys := physCore s (coreOf g.val)
  let w := sp.pc.toNat / 4 + (if second then 1 else 0)
  act (live s && s.released && sp.listed && decide (sp.st = .run) && (!second || sp.pc.toNat % 4 == 3) && decide (w < 49152)) s
    (let r := rereadProg s phys w ok
     let t := spokeEvent r.1 g.val 0x12
     if r.2 then t else exFault t g.val 3 0)

/-- PROGRAM_SCRUB (R257): a single error is written back corrected; a double error is re-read from the cocoon. A word that fails
again faults at its next fetch. -/
def execProgramScrub (core : Fin 52) (w : Fin 49152) (err : ProgErr) (ok : Bool) (s : State) : Out :=
  act (live s && s.released) s
    (match err with
     | .double => (rereadProg s core.val w.val ok).1
     | _ => s)

/-! ## Engine stores (R137, R257) -/

/-- A cocoon re-read of word i of the program image of an engine (R137, R285); a word that the image does not list is zero. -/
def imagePen (s : State) (e i : Nat) : State × Option PenWord :=
  match sectOf (imageNow s) 6 e with
  | none => (s, some {})
  | some t =>
    let o := t.ofs + 16 + 2 * i
    match cocoonRead s (o / 32) with
    | (s, some w) =>
      let h : BitVec 16 := (w >>> (8 * (o % 32))).setWidth 16
      (s, some ⟨h.setWidth 12, h.getLsbD 12, h.getLsbD 13, false⟩)
    | (s, none) => (s, none)

/-- A word of an engine's bank is re-read, once: counted, and put in the store where the re-read delivers it (R137, R256, R257). -/
def rereadPen (s : State) (e : Nat) (bank : Bool) (i : Nat) (ok : Bool) : State × Bool :=
  let put (s : State) (w : PenWord) : State := setEng s e { eng s e with store := tput (eng s e).store (b2n bank * 256 + i) w }
  match imagePen s e i with
  | (s, some w) =>
    if ok then (put (bump (satReg s 0xA838 0 16) 0x2154) w, true)
    else (put (bump s 0x2158) { penWord (eng s e) bank i with bad := true }, false)
  | (s, none) => (put (bump s 0x2158) { penWord (eng s e) bank i with bad := true }, false)

/-- ENGINE_STORE_REREAD (R137, R257): the word at a context's PC is re-read from the cocoon; one that fails again holds its context. -/
def execEngineStoreReread (x : CtxId) (ok : Bool) (s : State) : Out :=
  let e := x.engine.val
  let c := x.ctx.val
  let y := ctxAt s e c
  act (penServes s e c && y.st != .off && y.st != .held) s
    (let r := rereadPen s e y.bank y.pc.toNat ok
     if r.2 then r.1 else engStat (holdCtx r.1 e c .store) e 11)

/-- ENGINE_STORE_SCRUB (R257): a word with bad parity is re-read from the image; one that fails again is met at its next fetch. -/
def execEngineStoreScrub (e : Fin 64) (bank : Bool) (word : Fin 256) (parityBad ok : Bool) (s : State) : Out :=
  act (s.released && flg s (engReg e.val 0) 0 && (parityBad || (penWord (eng s e.val) bank word.val).bad)) s
    (rereadPen s e.val bank word.val ok).1

/-! ## Checkpoints and replay (R262, R263) -/

/-- A checkpoint of the leader as it stands: the follower meets it at the same point (R262). -/
def captureLeader (s : State) (p : Nat) : State :=
  let x := pairAt s p
  let x := { x with pend := some (contextOf (spk s x.leader.toNat)), pendN := x.nL, since := 0, storing := 32 }
  let s := setPair s p x
  if x.nF = x.nL then ckptMeet s p else s

/-- No result of a spoke is pending. -/
def quiet (sp : Spoke) : Bool := sp.flight.isEmpty && sp.stuck.isEmpty

/-- FORCED_CHECKPOINT (R262). -/
def execForcedCheckpoint (p : Fin 768) (s : State) : Out :=
  let p := p.val
  let x := pairAt s p
  let sp := spk s x.leader.toNat
  act (live s && x.st == .running && !x.mismatch && x.pend.isNone && x.storing == 0 && sp.st == .run && sp.slot.isNone && quiet sp
      && (decide (10000 ≤ x.since) || decide (4096 < logBytes x + 64))) s
    (captureLeader (setPair s p { x with cntForced := if x.cntForced = 0xFF then 0xFF else x.cntForced + 1 }) p)

/-- A member goes back to a checkpoint; what runs or waits runs again (R263). -/
def replayFrom (s : State) (c : Context) (g : Nat) : State :=
  let sp := spk s g
  enter s g { restore sp c with st := sp.st, req := none } (if sp.st = .blocked then .run else sp.st)

/-- A replay starts: both members restore the checkpoint, and what the gate held is formed again; a halt or
stop that waited for the boundary waits for the end of the replay (R263). -/
def startReplay (s : State) (p : Nat) (st : PairState) : State :=
  let x := pairAt s p
  match x.ckpt with
  | none => s
  | some c =>
    let r := match (spk s x.leader.toNat).req with
      | none | some (.stop .own) => x.req
      | some q => some q
    let s := [x.leader.toNat, x.follower.toNat].foldl (fun s g => replayFrom s c g) s
    setPair s p { x with
      st := st, req := r, gate := [], skip := x.sigs, nL := x.ckptN, nF := x.ckptN, pend := none, mismatch := false, voter := none }

/-- A member of the pair runs or waits. -/
def pairRuns (s : State) (x : Pair) : Bool :=
  [x.leader.toNat, x.follower.toNat].all fun g => (spk s g).st == .run || (spk s g).st == .blocked

/-- PAIR_MISMATCH (R263). -/
def execPairMismatch (p : Fin 768) (s : State) : Out :=
  let x := pairAt s p.val
  act (live s && x.st == .running && pairRuns s x) s (startReplay s p.val .replay)

/-- The cluster of a pair. -/
def pairCluster (x : Pair) : Nat := clusterOf x.leader.toNat

/-- A transient mismatch is counted (R256, R263, R275). -/
def noteTransient (s : State) (p : Nat) : State :=
  let x := pairAt s p
  let s := setPair s p { x with cntTrans := if x.cntTrans = 0xFFFF then 0xFFFF else x.cntTrans + 1 }
  bump (logFault (avlStat s (pairCluster x) 0) 1 0 p) 0x2154

/-- A lasting mismatch is counted. -/
def noteLasting (s : State) (p : Nat) : State :=
  let x := pairAt s p
  let s := setPair s p { x with cntLast := if x.cntLast = 0xFF then 0xFF else x.cntLast + 1 }
  bump (logFault (avlStat s (pairCluster x) 1) 2 0 p) 0x2158

/-- A halt, stop or kill that waited for the end of a replay or vote acts (R263). -/
def runRequest (s : State) (p : Nat) : State :=
  let x := pairAt s p
  match x.req with
  | some r => request (setPair s p { x with req := none }) x.leader.toNat r
  | none => s

/-- The safe reaction of a pair (R266). -/
def safeReaction (s : State) (p : Nat) : State :=
  let x := pairAt s p
  let cl := pairCluster x
  let s := setPair s p { x with st := .safe, gate := [], skip := [], mismatch := false, voter := none, req := none }
  let s := logFault (avlStat s cl 3) 4 0x20 p
  let l := x.leader.toNat
  let s := applyReq ((together s l).foldl (fun s h => recordFault s h 0x20 0) s) l (.fault 0x20 false)
  let s := if x.react ≠ 0 then holdGroups s (fld s (0x2000 + 0x10 * cl) 24 8) else s
  if x.react = 2 then yieldRole s true else s

/-- The logical number of a physical core. -/
def logicalOf (s : State) (p : Nat) : Nat := ((s.cores.toArray[p]?).map (·.logical)).getD p

/-- A lasting mismatch: the lowest idle spare gives a third opinion, or the pair takes its safe reaction (R264). -/
def startVote (s : State) (p : Nat) : State :=
  match flg s 0x2108 9, idleSpares s with
  | true, v :: _ =>
    let x := pairAt s p
    let s := onCore s v fun k => { k with voting := true }
    let s := loadProgram s (imageNow s) (coreOf x.follower.toNat) v
    setPair s p { x with st := .vote, mismatch := false, voter := some v }
  | _, _ => safeReaction s p

/-- REPLAY_END (R263): agreement, the same mismatch again, or a mismatch elsewhere. -/
def execReplayEnd (p : Fin 768) (r : ReplayResult) (s : State) : Out :=
  let p := p.val
  let x := pairAt s p
  act (live s && (x.st == .replay || x.st == .repairing)) s
    (match r with
     | .agree =>
       if x.skip = [] ∧ ¬ x.mismatch then
         let s := setPair s p { x with st := .running }
         runRequest (if x.st = .repairing then avlStat s (pairCluster x) 2 else noteTransient s p) p
       else s
     | .samePoint => startVote (noteLasting s p) p
     | .elsewhere => startReplay (noteTransient s p) p x.st)

/-! ## Retirement (R265) -/

/-- The chainrings of a core are those of another. -/
def copyRings (s : State) (old spare : Nat) : State :=
  let s := setReg s (0x14008 + 0x40 * spare) (reg s (0x14008 + 0x40 * old))
  (List.range 128).foldl (fun s i => setItem s (0x14014 + 0x40 * spare) i (item s (0x14014 + 0x40 * old) i)) s

/-- An unpaired spoke of a retired core: stopped and reported, then waiting with its start context on the spare (R265). -/
def retireSpoke (s : State) (g : Nat) : State :=
  let s := report (stopOne s g .retired) 4 0 g
  let sp := startContext (spk s g)
  setSpk s g { sp with st := if sp.deferredDecl then .deferred else .stopped }

/-- A physical core is retired onto an idle spare (R265). -/
def retireCore (s : State) (old spare : Nat) : State :=
  let c := logicalOf s old
  let k := (s.cores.toArray[old]?).getD { logical := c, role := .service }
  let s := copyRings (loadProgram s (imageNow s) c spare) old spare
  let s := onCore s spare fun _ => { k with role := .lent, voting := false }
  let s := onCore s old fun k => { k with role := .retired, voting := false }
  let s := ((listedSpokes s (· == c)).filter fun g => (spk s g).pair.isNone).foldl retireSpoke s
  let s := (pairsOn s (· == c)).foldl (fun s p =>
    let x := pairAt s p
    if x.st = .unused ∨ x.st = .safe ∨ (spk s x.leader.toNat).st = .stopped ∨ (spk s x.leader.toNat).st = .deferred then s
    else startReplay s p .repairing) s
  logFault (avlStat s (c / 4) 8) 3 0 old

/-- VOTE_END (R264): the losing core is retired onto the spare that voted, or the pair takes its safe reaction. -/
def execVoteEnd (p : Fin 768) (r : VoteResult) (s : State) : Out :=
  let p := p.val
  let x := pairAt s p
  match x.voter with
  | none => .next s
  | some v =>
    act (live s && x.st == .vote) s
      (match r with
       | .leaderWins => retireCore s (physCore s (coreOf x.follower.toNat)) v
       | .followerWins => retireCore s (physCore s (coreOf x.leader.toNat)) v
       | .noMajority => safeReaction (onCore (avlStat s (pairCluster x) 4) v fun k => { k with voting := false }) p)

/-- The core serves a logical core: in service or lent. -/
def serves (s : State) (p : Nat) : Bool :=
  match s.cores.toArray[p]? with
  | some k => k.role == .service || k.role == .lent
  | none => false

/-- A RETIRE of the host (R265). -/
def hostRetire (s : State) (core : Nat) : State :=
  match idleSpares s with
  | v :: _ => if serves s core then orReg (retireCore s core v) 0x210C 8 else orReg s 0x210C 0x10
  | [] => orReg s 0x210C 0x10

/-- AVL_RETIRE. -/
def execAvlRetire (core : BitVec 6) (s : State) : Out := act (live s) s (hostRetire s core.toNat)

/-- AVL_PAIR_CNT_READ. -/
def pairCntRead (s : State) : State :=
  let p := fld s 0x2110 0 10
  let w := viewAvl s 0x211C
  answer (setPair s p { pairAt s p with cntTrans := 0, cntLast := 0, cntForced := 0 }) w
/-- AVL_PAIR_CNT_READ. -/
def execAvlPairCntRead (s : State) : Out := act (live s) s (pairCntRead s)

/-! ## Watchdogs (R268 to R270) -/

/-- SPOKE_WDG_EXPIRY (R268). -/
def execSpokeWdgExpiry (g : SpokeId) (s : State) : Out :=
  let g := g.val
  let sp := spk s g
  act (live s && s.released && sp.listed && g == front s g && bits (item s 0x213C g) 0 16 != 0 && sp.wdgLeft == 0
      && (sp.st == .run || sp.st == .blocked) && !faultDue sp && !inReplay s g) s
    (faultAtBoundary (logFault (avlStat s (clusterOf g) 6) 5 0x21 g) g 0x21 0)

/-- A feed of the writing spoke's watchdog; only the leader's counts (R268). -/
def feedOwn (s : State) (g : Nat) : State := if g = front s g then feedSpoke s g else s

/-- AVL_SWDG_FEED. -/
def execAvlSwdgFeed (g : SpokeId) (s : State) : Out := act (live s) s (feedOwn s g.val)

/-- CLUSTER_WDG_EXPIRY (R269): after it the period starts anew (log entry 35). -/
def execClusterWdgExpiry (cl : Fin 13) (s : State) : Out :=
  let k := cl.val
  let w := reg s (0x2000 + 0x10 * k)
  act (live s && s.released && bits w 0 16 != 0 && s.avl.clLeft[cl] == 0 && !inMaint s k && !s.avl.recovering.getLsbD k) s
    (let s := logFault (avlStat (reloadCluster s k) k 5) 6 0 k
     match bits w 16 2 with
     | 1 => startRecovery s k
     | 2 => holdGroups s (bits w 24 8)
     | _ => s)

/-- A write of AVL_CLk_FEED (R269). -/
def feedCluster (s : State) (src : Source) (cl : Nat) : State :=
  match src with
  | .host => if flg s (0x2000 + 0x10 * cl) 18 then reloadCluster s cl else s
  | .spoke g => if g.val = masterOf cl then reloadCluster s cl else s
  | .debug => s

/-- AVL_CL_FEED. -/
def execAvlClFeed (src : Source) (cl : Fin 13) (s : State) : Out := act (live s) s (feedCluster s src cl.val)

/-- The block watchdog takes its full period. -/
def reloadBlock (s : State) : State := { s with avl := { s.avl with bwdgLeft := fld s 0x212C 0 16, bwdgKey := false } }

/-- Expiry of the block watchdog (R270). -/
def blockExpires (s : State) : State :=
  let s := noteLoss (orReg (reloadBlock s) 0x210C 1) lockIdHOST
  let s := logFault s 7 0 0
  match fld s 0x212C 16 2 with
  | 1 => holdGroups s 255
  | 2 => yieldRole (holdGroups s 255) true
  | 3 => coreResetNow s 4
  | _ => s

/-- BLOCK_WDG_EXPIRY. -/
def execBlockWdgExpiry (s : State) : Out :=
  act (live s && s.released && fld s 0x212C 0 16 != 0 && s.avl.bwdgLeft == 0) s (blockExpires s)

/-- The keyed feed: any other value or order is a bad feed and expires at once (R270). -/
def feedBlock (s : State) (v : BitVec 16) : State :=
  if s.avl.bwdgKey ∧ v = 0x5A5A then reloadBlock s
  else if ¬ s.avl.bwdgKey ∧ v = 0xA5A5 then { s with avl := { s.avl with bwdgKey := true } }
  else blockExpires (orReg s 0x210C 2)

/-- AVL_BWDG_FEED. -/
def execAvlBwdgFeed (v : BitVec 16) (s : State) : Out := act (live s && s.released) s (feedBlock s v)

/-! ## Clock monitors (R271) -/

/-- The bit of a clock in AVL_CLKMON_STAT. -/
def clockBit : MonClock → Nat
  | .sclk => 0 | .bclk => 1 | .eclk => 2 | .refclk => 3 | .osc => 4
  | .quad q => 16 + q.val

/-- CLOCK_FAULT: recorded and logged; a core clock resets, a SerDes reference takes its links down. -/
def execClockFault (clk : MonClock) (s : State) : Out :=
  let rec_ (s : State) : State := logFault (orReg s 0x2160 ((1 : Word) <<< clockBit clk)) 8 0 0
  match clk with
  | .osc => act (live s) s (rec_ s)
  | .quad q =>
    let ls := ((List.range 4).map (4 * q.val + ·)).filter fun l => (link s l).up
    act (live s && ls != []) s (ls.foldl linkFalls (rec_ s))
  | _ => act (live s) s (coreResetNow (rec_ s) 3)

/-! ## Cluster recovery (R350) -/

/-- RECOVERY_COMPLETE: programs, spoke records, pairs and chainrings are reloaded and the spokes start (R350). -/
def execRecoveryComplete (cl : Fin 13) (s : State) : Out :=
  let k := cl.val
  act (live s && s.released && s.avl.recovering.getLsbD k) s
    (let c := imageNow s
     let cores := ((List.range 4).map (4 * k + ·)).filter (· < 48)
     let s := cores.foldl (fun s i => reloadCore s c c i) s
     let ps := cores.map fun i => physCore s i
     let s := { s with
       cores := s.cores.mapIdx fun i k => if ps.contains i then { k with crStart := 2 * s.bc, lastA := 31, lastB := 31 } else k
       avl := { s.avl with recovering := s.avl.recovering &&& ~~~((1 : BitVec 13) <<< k) } }
     startCores (reloadCluster s k) fun i => cores.contains i)

end Sys2Proof.Machine
end

