-- ==== Sys2Proof/Machine/RegPort.lean ====
section
/-! DEFINITION. One access of the register fabric, by any source: reads with their effects, writes with their commands, and what a
register refuses (R6, R7, R299 to R314). -/
namespace Sys2Proof.Machine

/-! ## The mailbox (R307 to R309) -/

/-- The state with a TX slot changed. -/
def onTx (s : State) (n : Fin 8) (f : TxSlot → TxSlot) : State :=
  { s with host := { s.host with tx := s.host.tx.set n (f s.host.tx[n]) } }

/-- The message of a TX slot: urgent where its URG bit is set and the reader is an elastic spoke (R308). -/
def txMessage (s : State) (n : Fin 8) (ch : Nat) (ws : List Word) : List ChanWord :=
  let r := (chan s ch).reader
  message ws false (flg s 0x41C (8 + n.val) && r.kind == .spoke && (spk s r.id).elastic)

/-- A write of MBX_TXn_DATA or MBX_TXn_LAST (R308): whether it was accepted. -/
def txWrite (s : State) (n : Fin 8) (v : Word) (last : Bool) : State × Bool :=
  let t := s.host.tx[n]
  match txChan s n.val with
  | none => (s, false)
  | some ch =>
    if t.pend then (orReg s 0x418 4, false)
    else if 4 ≤ t.staged.length then (orReg s 0x418 2, false)
    else
      let ws := t.staged ++ [v]
      if ¬ last then (onTx s n fun t => { t with staged := ws }, true)
      else if ws.length ≤ entryRoom s ch then (pushWords (onTx s n fun _ => {}) ch (txMessage s n ch ws), true)
      else (onTx s n fun _ => { staged := ws, pend := true }, true)

/-- A read of MBX_RXn_DATA pops (R309): none where the slot is unbound. -/
def rxRead (s : State) (n : Nat) : State × Option Word :=
  match rxChan s n with
  | none => (s, none)
  | some ch =>
    match popWord s ch with
    | none => (orReg s 0x418 1, some 0)
    | some (w, s) =>
      let m : BitVec 8 := (1 : BitVec 8) <<< n
      ({ s with host := { s.host with
          rxEom := if w.last then s.host.rxEom ||| m else s.host.rxEom &&& ~~~m
          rxChe := if w.trunc then s.host.rxChe ||| m else s.host.rxChe &&& ~~~m } }, some w.word)

/-! ## BLK commands (R310, R314) -/

/-- A PIN written for the selected interface (R310): MAJOR_LO and MAJOR_HI are 1. -/
def writePin (s : State) (p : BitVec 8) : State :=
  let i := fld s 0x1C 0 4
  if 7 ≤ i then s
  else if p ≠ 0 ∧ p ≠ 1 then orReg s 0x18 2
  else { s with host := { s.host with pins := s.host.pins.setIfInBounds i p } }

/-- BLK_RST_CMD (R314): 0xC1A5, then 0x5A1C as the next write within 1,000 bc, resets the core domains. A second 0xC1A5 is a wrong write
that opens the sequence anew (DEDUCED, log entry 66). -/
def writeRstCmd (s : State) (v : Nat) : State :=
  let s' : State := { s with host := { s.host with rstKey := none } }
  let keyed : State := if v = 0xC1A5 then { s with host := { s.host with rstKey := some s.bc } } else s'
  if s.host.rstKey.any fun t => s.bc - t ≤ 1000 then
    if v = 0x5A1C then coreResetNow s' 6 else orReg keyed 0x18 8
  else if v = 0xC1A5 then keyed
  else orReg s' 0x18 8

/-! ## Reads -/

/-- The high half of the bc count is held for its reader (R314). -/
def bcFill (s : State) : Source → State
  | .host => { s with host := { s.host with bcHold := BitVec.ofNat 32 (s.bc / 2 ^ 32) } }
  | .debug => { s with dbg := { s.dbg with bcHold := BitVec.ofNat 32 (s.bc / 2 ^ 32) } }
  | .spoke g => setSpk s g { spk s g with bcHold := BitVec.ofNat 32 (s.bc / 2 ^ 32) }

/-- A quad's selected link counter clears (R214). -/
def clearLinkCnt (s : State) (q : Nat) : State :=
  let sel := reg s (0xE000 + 0x40 * q + 0x10)
  let l := 4 * q + bits sel 0 2
  setLink s l { link s l with cnt := (link s l).cnt.setIfInBounds (bits sel 8 3) 0 }

/-- Readers' holds fill at a read, peek or consume (R229, R314). -/
def fillHold (s : State) (src : Source) (off : Nat) : State :=
  if off = 0x2C then bcFill s src
  else if off = 0x681C then pmcHold s src (pmcSel s)
  else s

/-- What a consuming read of an RC or POP register does (R6). -/
def readEffect (s : State) (off : Nat) : State :=
  if off = 0x83C then onPwr s fun p => { p with tempMax := none }
  else if 0xC00 ≤ off ∧ off < 0xE00 ∧ ((off - 0xC00) % 0x40 = 0x20 ∨ (off - 0xC00) % 0x40 = 0x24) then
    clearPeak s (Fin.ofNat 8 ((off - 0xC00) / 0x40)) ((off - 0xC00) % 0x40 = 0x24)
  else if off = 0x211C then
    let p := fld s 0x2110 0 10
    setPair s p { pairAt s p with cntTrans := 0, cntLast := 0, cntForced := 0 }
  else if off = 0x3058 ∧ s.pwr.vdbgGood then setReg s off 0
  else if 0x7000 ≤ off ∧ off < 0x7440 ∧ off % 0x20 = 0xC then setReg s off 0
  else if 0x7000 ≤ off ∧ off < 0x7440 ∧ off % 0x20 = 0x10 then clrReg s off 0xFFFF
  else if 0x8000 ≤ off ∧ off < 0x8800 ∧ off % 0x40 = 0x20 then popCapq s (Fin.ofNat 32 ((off - 0x8000) / 0x40))
  else if off = 0xA818 then setReg s off 0
  else if 0xE000 ≤ off ∧ off < 0xE400 ∧ off % 0x40 = 0x2C then clearLinkCnt s ((off - 0xE000) / 0x40)
  else s

/-- MBX_RXn_DATA. -/
def isRxData (off : Nat) : Bool := decide (0x440 ≤ off ∧ off < 0x540) && (off - 0x440) % 0x20 == 0xC

/-- MBX_TXn_DATA and MBX_TXn_LAST. -/
def isTxData (off : Nat) : Bool := decide (0x440 ≤ off ∧ off < 0x540) && decide ((off - 0x440) % 0x20 < 8)

/-- Registers that belong to the host alone (R313); the debugger may peek at MBX_RXn_DATA (R322). -/
def hostOnly (off : Nat) : Bool := isTxData off || isRxData off || off == 0x783C || off == 0x7840 || off == 0x38

/-- A program word as the window shows it (R312). -/
def pmwWord (s : State) : Option Nat :=
  if 52 ≤ fld s 0x34 0 6 ∨ 6 ≤ fld s 0x34 8 3 then none else some (49152 * fld s 0x34 0 6 + 8192 * fld s 0x34 8 3)

/-- The low half of a program word by the window, which fills the reader's hold. -/
def pmwLow (s : State) (src : Source) (i : Nat) : State × Option Word :=
  let w := tget (0 : BitVec 56) s.progs i
  let hi : Word := Sys2Proof.Config.progCheck w ++ w.extractLsb' 32 24
  (match src with
   | .debug => { s with dbg := { s.dbg with pmwHold := hi } }
   | _ => { s with host := { s.host with pmwHold := hi } }, some (w.setWidth 32))

/-- A read of the program-memory window (R312): the low half fills the reader's hold, the high half returns it. A double error of the word
is re-read from the cocoon, and the read is refused where that fails (R257). -/
def pmwFetch (s : State) (src : Source) (o : Nat) (r : ReadOutcome) : State × Option Word :=
  match pmwWord s with
  | none => (s, none)
  | some b =>
    if o % 8 = 4 then (s, some (match src with | .debug => s.dbg.pmwHold | _ => s.host.pmwHold))
    else if r.first = .due then
      match rereadProg s ((b + o / 8) / 49152) ((b + o / 8) % 49152) (r.again != .due) with
      | (s, true) => pmwLow s src (b + o / 8)
      | (s, false) => (s, none)
    else pmwLow s src (b + o / 8)

/-- A read of a register by any source (R84, R302, R322): none where the register refuses. -/
def regRead (s : State) (src : Source) (off : Nat) (o : ReadOutcome) (consume : Bool) : State × Option Word :=
  if src ≠ .host ∧ (hostOnly off ∧ ¬ (src = .debug ∧ isRxData off ∧ ¬ consume)) then (s, none)
  else if 0x30000 ≤ off then pmwFetch s src (off - 0x30000) o
  else if off = 0x7840 then (if memReady s then hostDataRead s o else (s, none))
  else if off = 0x108C then
    match cocoonRead s (fld s 0x1088 0 15) with
    | (s', d) => (s', d.map (·.setWidth 32))
  else if isRxData off ∧ (consume ∨ (rxChan s ((off - 0x440) / 0x20)).isNone) then rxRead s ((off - 0x440) / 0x20)
  else
    let w := viewReg s src off
    let s := fillHold s src off
    (if consume then readEffect s off else s, some w)

/-! ## Writes -/

/-- Commands of a write of LCK_HOST_CMD (R185): more than one bit is refused. -/
def hostLockCmd (s : State) (v : Word) : State :=
  match bits v 0 4 with
  | 0 => s
  | 1 => hostAcquire s false
  | 2 => hostAcquire s true
  | 4 => hostRelease s
  | 8 => hostCancel s
  | _ => hostLockRefused s

/-- A write of MEM_BANKn_OWNER (R157, R158). -/
def writeOwner (s : State) (off : Nat) (v : Word) : State :=
  let n := (off - 0x7000) / 0x20
  if h : n < 32 then
    let s := if bit v 25 then handoverCancel s ⟨n, h⟩ else s
    if bit v 24 then handoverGo s ⟨n, h⟩ (BitVec.ofNat 5 (bits v 8 5)) (bit v 16) (bits v 17 5) else writeData s off v
  else s

/-- A write of MEM_CMD (R175, R176, R180). -/
def memCmd (s : State) (v : Word) : State :=
  let b : Fin 32 := Fin.ofNat 32 (bits v 0 5)
  let s := if bit v 8 then startSparing s b else s
  let s := if bit v 9 then cmdRow s b else s
  if bit v 16 then cmdClr s else s

/-- A write of CAD_CMD or of an axis's CMD: SET_POS comes before CAPTURE (R34, R35, R26). -/
def cadCmd (s : State) (off : Nat) (v : Word) : State :=
  if off = 0x480C then
    let s := if bits v 0 17 ≠ 0 then captureMask s (BitVec.ofNat 17 (bits v 0 17)) else s
    if bit v 31 then clearDis s else s
  else
    let n : Fin 17 := Fin.ofNat 17 ((off - 0x4000) / 0x40)
    let s := if bit v 1 then setPosition s n else s
    if bit v 0 then captureAxis s n else s

/-- A write of AVL_TKOV (R273). -/
def writeTkov (s : State) (v : Word) : State :=
  let s := writeData s 0x215C v
  let s := if bit v 0 then takeRole s else s
  if bit v 1 then yieldRole s true else s

/-- DBG registers that only one side writes (R338). -/
def notWriter (src : Source) (off : Nat) : Bool :=
  match src with
  | .debug => off == 0x300C
  | _ => off == 0x3018 || decide (0x302C ≤ off ∧ off ≤ 0x3044) || off == 0x305C || off == 0x3060

/-- A write of a register by a source that may write it: the commands of the block, else the fields (R6). -/
def writeCmd (s : State) (src : Source) (off : Nat) (v : Word) : State :=
  if 0x4000 ≤ off ∧ off < 0x4440 ∧ off % 0x40 = 0x20 then cadCmd s off v
  else if 0x8000 ≤ off ∧ off < 0x8800 ∧ off % 0x40 = 0x4 then timerCmd s (Fin.ofNat 32 ((off - 0x8000) / 0x40)) v
  else if 0x7000 ≤ off ∧ off < 0x7440 ∧ off % 0x20 = 0 then writeOwner s off v
  else if 0xA000 ≤ off ∧ off < 0xA800 ∧ off % 0x20 = 8 then
    let e := (off - 0xA000) / 0x20
    let s := writeData s off v
    if bit v 1 then requestSwitch s e (bankMode s e) else s
  else if 0xC00 ≤ off ∧ off < 0xE00 ∧ off % 0x40 = 0x28 then
    let s := writeData s off v
    if bit v 8 then
      writeRelease { s with free := s.free + 1 } (Fin.ofNat 8 ((off - 0xC00) / 0x40)) (Sys2Proof.Config.pinReads s.free)
    else s
  else if 0x2000 ≤ off ∧ off < 0x20D0 ∧ off % 0x10 = 4 then feedCluster s src ((off - 0x2000) / 0x10)
  else
    match off with
    | 0x20 => writePin s (v.extractLsb' 24 8)
    | 0x860 =>
      let s := if bit v 0 then startSeq s true else s
      let s := if bit v 1 then startSeq s false else s
      let s := if bit v 2 then callRaw s false else s
      if bit v 3 then callRaw s true else s
    | 0x1010 => cfgCmd s v
    | 0x1054 => openLines s v
    | 0x2108 =>
      let s := writeData s off v
      if bit v 8 then hostRetire s (bits v 0 6) else s
    | 0x2130 => if s.released then feedBlock s (v.setWidth 16) else s
    | 0x2140 => (match src with | .spoke g => feedOwn s g.val | _ => s)
    | 0x215C => writeTkov s v
    | 0x480C => cadCmd s off v
    | 0x6034 => hostLockCmd s v
    | 0x6054 => if src = .debug ∧ bit v 31 then lockForce s (bits v 0 12) else s
    | 0x6058 => if bit v 31 then lockClear s (bits v 0 12) else s
    | 0x680C => pmcCmd s v
    | 0x780C => memCmd s v
    | 0x7838 => if bit v 28 then ackRemap s else s
    | 0x880C => timerGroupCmd s v
    | 0xA81C => switchAll s (bits v 0 8)
    | 0xE414 =>
      let s := writeData s off v
      if bit v 4 then startResync s else s
    | 0x1209C => if bit v 1 ∧ s.fab.up then fabDown s else s
    | _ => writeData s off v

/-- A write of a register by any source: whether it was performed; a refused one has no effect (R302, R313, R322). -/
def regWrite (s : State) (src : Source) (off : Nat) (v : Word) : State × Bool :=
  if src ≠ .host ∧ hostOnly off then (s, false)
  else if isTxData off then txWrite s (Fin.ofNat 8 ((off - 0x440) / 0x20)) v ((off - 0x440) % 0x20 = 4)
  else if off = 0x7840 then (if memReady s then hostDataWrite s v ⟨.clean, .clean⟩ else (s, false))
  else if off = 0x38 then (writeRstCmd s (bits v 0 16), true)
  else if notWriter src off then (s, true)
  else (writeCmd s src off v, true)

/-! ## The host port (R299 to R304) -/

/-- Offsets that a host reaches while the core domains are in reset (R303). -/
def vaonReg (off : Nat) : Bool := decide (0x800 ≤ off ∧ off < 0x1000)

/-- Why the port refuses an offset before the access: ALIGN, UNMAPPED, RESET (R302). -/
def portReason (s : State) (off : Nat) : Option Nat :=
  if off % 4 ≠ 0 then some 1
  else if 0x16000 ≤ off ∧ off < 0x30000 then some 2
  else if s.coreReset ∧ ¬ vaonReg off then some 3
  else none

/-- A host read (R299, R302). -/
def hostRead (s : State) (off : Nat) (o : ReadOutcome) : State :=
  match portReason s off with
  | some r => hostRefuse s off false r
  | none =>
    match regRead s .host off o true with
    | (s', some w) => answer s' w
    | (s', none) => hostRefuse s' off false 4

/-- A host write (R299, R302). -/
def hostWrite (s : State) (off : Nat) (v : Word) : State :=
  match portReason s off with
  | some r => hostRefuse s off true r
  | none =>
    match regWrite s .host off v with
    | (s', true) => answer s' 0
    | (s', false) => hostRefuse s' off true 4

end Sys2Proof.Machine
end

