-- ==== Sys2Proof/Machine/Operands.lean ====
section
/-! DEFINITION. Operand forms of the spoke instructions: segments and their checks, addresses, device space, channel identifiers
and their checks, branch targets and conditions (R79 to R95). -/
namespace Sys2Proof.Machine

/-! ## Segment descriptors (R79, R82) -/

/-- A segment descriptor. -/
abbrev Seg := BitVec 64

/-- BASE. -/
def segBase (d : Seg) : Nat := (d.extractLsb' 0 32).toNat
/-- LIMIT. -/
def segLimit (d : Seg) : Nat := (d.extractLsb' 32 26).toNat
/-- R. -/
def segR (d : Seg) : Bool := d.getLsbD 58
/-- W. -/
def segW (d : Seg) : Bool := d.getLsbD 59
/-- L. -/
def segL (d : Seg) : Bool := d.getLsbD 60
/-- P. -/
def segP (d : Seg) : Bool := d.getLsbD 61
/-- D. -/
def segD (d : Seg) : Bool := d.getLsbD 62
/-- V. -/
def segV (d : Seg) : Bool := d.getLsbD 63

/-- A descriptor from a source with new BASE and LIMIT; P, D and V kept, R, W and L masked (R82). -/
def segNarrow (d : Seg) (base limit : Nat) (mask : BitVec 3) : Seg :=
  d.extractLsb' 61 3 ++ (d.extractLsb' 58 3 &&& mask) ++ BitVec.ofNat 26 limit ++ BitVec.ofNat 32 base

/-- An s register written. -/
def setSeg (sp : Spoke) (i : SReg) (d : Seg) : Spoke := { sp with s := sp.s.set i d }

/-! ## Accesses (R80, R81, R84, R93) -/

/-- The kinds of access that R80 tells apart; `vld` is VLD and LDA, `lock` is LCK, TRY and ULK. -/
inductive Access where
  | ld | st | vld | vst | ldl | stc | lock | pst
  deriving DecidableEq, Repr

/-- The descriptor gives the rights that the access needs (R80). -/
def rightsOk (k : Access) (d : Seg) : Bool :=
  match k with
  | .ld => !segP d && segR d
  | .st => !segP d && segW d
  | .vld => !segP d && !segD d && segR d
  | .vst => !segP d && !segD d && segW d
  | .ldl => !segP d && !segD d && segR d && segL d
  | .stc => !segP d && !segD d && segW d && segL d
  | .lock => !segP d && !segD d && segL d
  | .pst => segP d && !segD d

/-- The offset of an access (R81). -/
def offsetOf (ro : Word) (imm scale : Nat) : Nat := (ro.toNat + imm * scale) % 2 ^ 32

/-- The byte address of an offset (R81). -/
def addrOf (d : Seg) (off : Nat) : Nat := (segBase d + off) % 2 ^ 32

/-- The alignment that the access and the segment ask for holds (R84, R93, R95). -/
def aligned (k : Access) (d : Seg) (off size : Nat) : Bool :=
  match k with
  | .ldl | .stc | .lock => addrOf d off % 4 == 0
  | .pst => off % 8 == 0
  | _ => !segD d || (size == 4 && addrOf d off % 4 == 0)

/-- The first failing check of an access before the device rules, as its fault code (R81). -/
def segFault (k : Access) (d : Seg) (off size : Nat) : Option Nat :=
  if !segV d then some 4
  else if !rightsOk k d then some 5
  else if segLimit d < off + size - 1 then some 6
  else if !aligned k d off size then some 7
  else none

/-- What a byte address of device space reaches (R83, R230, R313). -/
inductive Device where
  | reg (off : Nat) | pmc (off : Nat) | self | phys | gen | absent
  deriving DecidableEq, Repr

/-- The device map (R83). -/
def deviceAt (a : Nat) : Device :=
  let o := a - 0x10000000
  if a < 0x10000000 then .absent
  else if o < 0x30000 then (if 0x16000 ≤ o ∨ hostOnly o then .absent else .reg o)
  else if o < 0x40000 then .absent
  else if o < 0x40100 then .pmc (o - 0x40000)
  else if o = 0x40100 then .self
  else if o = 0x40104 then .phys
  else if o = 0x40108 then .gen
  else .absent

/-- The spoke may read the performance counters of its core (R230). -/
def pmcAllowed (s : State) (g : Nat) : Bool := bit (pmcCore s (physCore s (coreOf g))).user (g % 32)

/-- The device rules: DEV_ADDR, PMC_DENIED (R83). -/
def deviceFault (s : State) (g a : Nat) (load : Bool) : Option Nat :=
  match deviceAt a with
  | .absent => some 8
  | .pmc _ => if load ∧ ¬ pmcAllowed s g then some 0x13 else none
  | _ => none

/-- Every check of a memory or device access of a spoke, in order (R81): a fault code, or the byte address. -/
def checkAccess (s : State) (g : Nat) (k : Access) (d : Seg) (off size : Nat) : Nat ⊕ Nat :=
  match segFault k d off size with
  | some c => .inl c
  | none =>
    match (if segD d then deviceFault s g (addrOf d off) (k == .ld) else none) with
    | some c => .inl c
    | none => .inr (addrOf d off)

/-- Bytes of a scalar access (R86). -/
def sizeBytes : Sys2Proof.Size → Nat
  | .b1 => 1 | .b2 => 2 | .b4 => 4

/-- Bytes of a vector access (R86). -/
def vsizeBytes : Sys2Proof.VSize → Nat
  | .b8 => 8 | .b16 => 16 | .b32 => 32

/-! ## Device reads (R83, R84, R230) -/

/-- SELF (R83). -/
def selfWord (s : State) (g : Nat) : Word :=
  orAll [g, clusterOf g <<< 16, coreOf g <<< 20, b2n (spk s g).pair.isSome <<< 26, b2n (spk s g).elastic <<< 27]

/-- A read of a performance counter of the spoke's own core (R229, R230). -/
def pmcDeviceRead (s : State) (g : SpokeId) (o : Nat) : State × Word :=
  let c := physCore s (coreOf g.val)
  if o = 0x90 then (s, (pmcCore s c).wrap.setWidth 32)
  else if 0x90 < o then (s, 0)
  else if o % 8 = 4 then (s, pmcHigh s (spk s g.val).pmcHold (pmcValue s c (o / 8)))
  else (pmcHold s (.spoke g) (pmcValue s c (o / 8)), (pmcValue s c (o / 8)).setWidth 32)

/-- A device read as it is performed: none where the register refuses it (R84, R313). -/
def deviceRead (s : State) (g : Nat) (a : Nat) : State × Option Word :=
  match deviceAt a with
  | .reg o => regRead s (.spoke (Fin.ofNat 1664 g)) o ⟨.clean, .clean⟩ true
  | .pmc o =>
    match pmcDeviceRead s (Fin.ofNat 1664 g) o with
    | (s', w) => (s', some w)
  | .self => (s, some (selfWord s g))
  | .phys => (s, some (BitVec.ofNat 32 (physCore s (coreOf g))))
  | .gen => (s, some s.cfg.gen)
  | .absent => (s, none)

/-- A device write as it is performed: whether the register took it; the words beside the register window are read-only. -/
def deviceWrite (s : State) (g : Nat) (a : Nat) (w : Word) : State × Bool :=
  match deviceAt a with
  | .reg o => regWrite s (.spoke (Fin.ofNat 1664 g)) o w
  | .absent => (s, false)
  | _ => (s, true)

/-! ## Channels (R51, R92) -/

/-- The channel that an instruction names. -/
def chanId (base : BitVec 14) (ri : Word) : Nat := (base.toNat + ri.toNat % 16384) % 16384

/-- IN and WAITP fault CHAN_ENDPOINT (R92): a cluster above 12, another reader, or the wrong kind of writer. -/
def badReader (s : State) (g ch : Nat) (waitp : Bool) : Bool :=
  decide (13 ≤ ch / 1024) || !(chan s ch).reader.isSpoke (front s g) || ((chan s ch).writer.kind == .cadence) != waitp

/-- OUT, POST and POSTU fault CHAN_ENDPOINT (R92). -/
def badWriter (s : State) (g ch : Nat) : Bool := decide (13 ≤ ch / 1024) || !(chan s ch).writer.isSpoke (front s g)

/-! ## Branches (R90, R91) -/

/-- The condition of a BR holds. -/
def condHolds (t : Word) : Cond → Bool
  | .al => true
  | .eq => flagZ t
  | .ne => !flagZ t
  | .lt => flagN t != flagV t
  | .ge => flagN t == flagV t
  | .le => flagZ t || flagN t != flagV t
  | .gt => !flagZ t && flagN t == flagV t
  | .hs => flagC t
  | .lo => !flagC t
  | .hi => flagC t && !flagZ t
  | .ls => !flagC t || flagZ t
  | .mi => flagN t
  | .pl => !flagN t
  | .vs => flagV t
  | .em => flagEOM t
  | .ce => flagCHE t

/-- The target of a BR. -/
def brTarget (pc : BitVec 18) (off : BitVec 17) : BitVec 18 := pc + off.signExtend 18

/-- A parcel address that the program memory lacks (R76). -/
def noParcel (a : BitVec 18) : Bool := decide (0x30000 ≤ a.toNat)

/-! ## System instructions (R94) -/

/-- The spoke that SETCTX, SETSEG, RELEASE or STOP names. -/
def targetOf (g : Nat) (core : Fin 4) (spoke : Fin 32) : Nat := 128 * clusterOf g + 32 * core.val + spoke.val

/-- The spoke is its cluster's master, or the pair of the master. -/
def isMaster (s : State) (g : Nat) : Bool := front s g == masterOf (clusterOf g)

end Sys2Proof.Machine
end

