-- ==== Sys2Proof/Machine/Watch.lean ====
section
/-! DEFINITION. Break and watch comparators, and the halt of a core (R328, R332 to R334). -/
namespace Sys2Proof.Machine

/-- What an instruction shows to the comparators: its address, its access (load, byte address, size), and the low 32 bits of the
register image. -/
structure Look where
  pc : BitVec 18
  acc : Option (Bool × Nat × Nat) := none
  val : Option Word := none
  deriving DecidableEq, Repr

/-- Comparator i of a physical core. -/
def cmpAt (s : State) (c i : Nat) : DbgCmp := tget {} s.dbg.cmps (8 * c + i)

/-- KIND, which is also the place of its test within an instruction: 1 at IS, 2 at EX, 3 with the data. -/
def cmpKind (c : DbgCmp) : Nat := c.cfg.toNat % 4
/-- LINK. -/
def cmpLink (c : DbgCmp) : Nat := c.cfg.toNat / 16 % 4
/-- ACTION. -/
def cmpAction (c : DbgCmp) : Nat := c.cfg.toNat / 64

/-- ACC admits the access. -/
def accOk (c : DbgCmp) (load : Bool) : Bool := if load then c.cfg.getLsbD 2 else c.cfg.getLsbD 3

/-- The comparator's own condition holds (R332). -/
def cmpMatch (c : DbgCmp) (l : Look) : Bool :=
  match cmpKind c, l.acc, l.val with
  | 1, _, _ => decide (bits c.lo 0 18 ≤ l.pc.toNat ∧ l.pc.toNat ≤ bits c.hi 0 18)
  | 2, some (load, a, n), _ => accOk c load && decide (a ≤ c.hi.toNat ∧ c.lo.toNat < a + n)
  | 3, some (load, _, _), some v => accOk c load && ((v ^^^ c.val) &&& c.mask) == 0
  | _, _, _ => false

/-- The context qualifiers pass (R332). -/
def qualOk (s : State) (c : DbgCmp) (g : Nat) : Bool :=
  (!bit c.qual 11 || bits c.qual 0 11 == g) && (!bit c.qual 16 || bits c.qual 12 4 == clusterOf g)
    && (!bit c.qual 17 || bits c.qual 18 14 == bits s.cfg.gen 0 14)

/-- Comparator i of core c hits at test t (R332, R333). -/
def cmpHits (s : State) (c g t : Nat) (l : Look) (i : Nat) : Bool :=
  let x := cmpAt s c i
  let ok (y : DbgCmp) : Bool := qualOk s y g && cmpMatch y l
  if i % 2 = 0 then cmpLink (cmpAt s c (i + 1)) != 2 && cmpKind x == t && ok x
  else
    match cmpLink x with
    | 1 => x.linked && cmpKind x == t && ok x
    | 2 => max (cmpKind x) (cmpKind (cmpAt s c (i - 1))) == t && ok x && ok (cmpAt s c (i - 1))
    | _ => cmpKind x == t && ok x

/-- The action of a hit: that of 2i is ignored where 2i + 1 is linked to it (R333). -/
def hitAction (s : State) (c i : Nat) : Nat :=
  if i % 2 = 0 ∧ (cmpLink (cmpAt s c (i + 1)) = 1 ∨ cmpLink (cmpAt s c (i + 1)) = 2) then 0 else cmpAction (cmpAt s c i)

/-- A hit of 2i arms 2i + 1, and a hit of 2i + 1 disarms it, where they are linked A then B (R333). -/
def linkHit (s : State) (c i : Nat) : State :=
  let j := if i % 2 = 0 then i + 1 else i
  if cmpLink (cmpAt s c j) = 1 then
    { s with dbg := { s.dbg with cmps := tput s.dbg.cmps (8 * c + j) { cmpAt s c j with linked := i % 2 == 0 } } }
  else s

/-- A hit is recorded, and latched while the latch is open (R334). -/
def noteHit (s : State) (g i : Nat) (pc : BitVec 18) (refused : Bool) : State :=
  let s := orReg s 0x3008 0x400
  if flg s 0x304C 31 then s
  else setReg (setReg s 0x304C (orAll [i, coreOf g <<< 3, g <<< 9, b2n refused <<< 20, 2 ^ 31])) 0x3050 (pc.setWidth 32)

/-- The pair of a spoke, if any, is in maintenance (R329). -/
def pairInMaint (s : State) (g : Nat) : Bool :=
  match (spk s g).pair with
  | none => true
  | some (p, _) => (pairAt s p).maint

/-- Why a halt of a logical core is refused: 3, 4; 0 where it is accepted (R328). -/
def coreHaltRefusal (s : State) (l : Nat) : Nat :=
  if ¬ flg s (0x14004 + 0x40 * physCore s l) 0 then 3
  else if (pairsOn s (· == l)).all fun p => (pairAt s p).maint then 0 else 4

/-- Every spoke of a logical core halts (R328). -/
def haltCore (s : State) (l : Nat) : State :=
  let s := { s with dbg := { s.dbg with coreHalts := if s.dbg.coreHalts.contains l then s.dbg.coreHalts else s.dbg.coreHalts ++ [l] } }
  (listedSpokes s (· == l)).foldl (fun s g => request s g .halt) s

/-- The halt that an action asks for (R334). -/
def hitHalt (s : State) (g action : Nat) : State :=
  match action with
  | 0 => s
  | 3 => if coreHaltRefusal s (coreOf g) = 0 then haltCore s (coreOf g) else request s g .halt
  | 2 => request { s with dbg := { s.dbg with frz := true } } g .halt
  | _ => request s g .halt

/-- The comparators of a spoke's core see an instruction at test t; a follower hits nothing, and nothing hits during a replay or a
vote (R332 to R334). -/
def watch (s : State) (g t : Nat) (l : Look) : State :=
  let c := physCore s (coreOf g)
  let hits := if s.pwr.vdbgGood ∧ s.dbg.cmps ≠ [] ∧ g = front s g ∧ ¬ inReplay s g then (List.range 8).filter (cmpHits s c g t l) else []
  let hit (s : State) (i : Nat) : State :=
    let a := hitAction s c i
    let refused := a != 0 && !pairInMaint s g
    let s := linkHit (noteHit s g i l.pc refused) c i
    if refused then s else hitHalt s g a
  hits.foldl hit s

end Sys2Proof.Machine
end

