-- ==== Sys2Proof/Machine/Commit.lean ====
section
/-! DEFINITION. Effects that leave a spoke: how each is performed, and the commit gate of a pair (R57, R61, R191, R260, R261). -/
namespace Sys2Proof.Machine

/-- What performing an effect answers: nothing, a word for its register, that the request waits in the lock unit's queue, or that an
error response is on its way. -/
inductive Ans where
  | none | word (w : Word) | queued | failed
  deriving DecidableEq, Repr

/-- An error response of a store is on its way to a spoke (R61). -/
def errorFlight (s : State) (g : Nat) (device : Bool) (pc : BitVec 18) : State :=
  let f : Flight := {
    device := device, dest := none, data := 0, sx := false, tear := false, err := true
    pc := pc, seq := 0, words := [], addr := 0, size := 0 }
  setSpk s g { spk s g with flight := (spk s g).flight ++ [f] }

/-- A closing write moves its message into the FIFO; the urgent tag stands only towards an elastic reader (R50, R92). -/
def closeMessage (s : State) (ch : Nat) (w : Word) (urgent : Bool) : State :=
  let c := chan s ch
  let u := urgent && c.reader.kind == .spoke && (spk s c.reader.id).elastic
  pushWords (setChan s ch { c with staged := [] }) ch (message (c.staged ++ [w]) false u)

/-- ARMP writes a target and arms; the answer is 1 where T lies at or behind p (R33). -/
def armEvt (s : State) (c : Nat) (target : BitVec 64) : State × Word :=
  let x := syncEvt s { evt s c with target := target, st := .armed }
  let behind := if bit x.cfg 5 then x.dPrev ≤ 0 else 0 ≤ x.dPrev
  (setEvt s c x, if behind then 1 else 0)

/-- The status of SETCTX, SETSEG and RELEASE for a target (R47). -/
def targetStatus (s : State) (t : Nat) : Nat :=
  let sp := spk s t
  if ¬ sp.listed then 1
  else match sp.st with
    | .deferred | .stopped => 0
    | .halted => 2
    | _ => 1

/-- One context item written by SETCTX (R47, R78, R119). -/
def writeItem (sp : Spoke) (i : CtxItem) (w : Word) : Spoke :=
  match i with
  | .pc => { sp with pc := w.setWidth 18 }
  | .tsw => { sp with tsw := setRepn (w &&& 0x7F0FFF) (min 64 (repn w)) }
  | .g r => wg sp r w

/-- The target is released; a pair starts from a first checkpoint (R47, R262). -/
def releaseTarget (s : State) (t : Nat) : State :=
  let s := releaseNow s t
  match (spk s t).pair with
  | some (p, _) => startPair s p
  | none => s

/-- A STOP of another spoke (R48). -/
def stopTarget (s : State) (t : Nat) : State :=
  if (spk s t).listed ∧ (spk s t).st ≠ .stopped then request s t (.stop .master) else s

/-- A program word of the spoke's own core, or of both cores of a pair, is written; its fetch buffer may be stale (R72, R73). -/
def writeProgram (s : State) (g w : Nat) (d : BitVec 56) : State :=
  (together s g).foldl
    (fun s h => putProg (setSpk s h { spk s h with stale := true }) (physCore s (coreOf h)) w d) s

/-- An effect is performed for a spoke, the leader for a pair; pc is that of its instruction. -/
def perform (s : State) (g : Nat) (pc : BitVec 18) (e : Effect) : State × Ans :=
  match e with
  | .store a bs o =>
    match memStore s (clusterOf g) (some g) a bs o with
    | (s, true) => (s, .none)
    | (s, false) => (errorFlight s g false pc, .failed)
  | .condStore a w o =>
    let clear (s : State) : State := setSpk s g { spk s g with resv := none }
    let no := refusing s (clusterOf g) (wordsOf a 4) true
    if no ≠ [] then (errorFlight (clear (no.foldl (fun s b => noteNown s (clusterOf g) b) s)) g false pc, .failed)
    else if (spk s g).resv = some (a / 32) then
      match memStore s (clusterOf g) (some g) a (toBytes 4 w.toNat) o with
      | (s, true) => (clear s, .word 1)
      | (s, false) => (errorFlight (clear s) g false pc, .failed)
    else
      match readWords ((wordsOf a 4).foldl clearResv s) (clusterOf g) true (wordsOf a 4) o with
      | (s, true) => (clear s, .word 0)
      | (s, false) => (errorFlight (clear s) g false pc, .failed)
  | .device a w =>
    match deviceWrite s g a w with
    | (s, true) => (s, .none)
    | (s, false) => (errorFlight s g true pc, .failed)
  | .stage ch w => (setChan s ch { chan s ch with staged := (chan s ch).staged ++ [w] }, .none)
  | .close ch w urgent => (closeMessage s ch w urgent, .none)
  | .lockReq op a _ =>
    if op = 2 then
      match lockRelease s (lockIdSpoke s g) a with
      | (s, w) => (s, .word w)
    else
      match lockAcquire s (lockIdSpoke s g) a (op == 1) with
      | (s, some w) => (s, .word w)
      | (s, none) => (s, .queued)
  | .arm c t =>
    match armEvt s c t with
    | (s, w) => (s, .word w)
  | .program w d => (writeProgram s g w d, .none)
  | .setctx t i w =>
    let k := targetStatus s t
    (if k = 0 then setSpk s t (writeItem (spk s t) i w) else s, .word (BitVec.ofNat 32 k))
  | .setseg t i d =>
    let k := targetStatus s t
    (if k = 0 then setSpk s t (setSeg (spk s t) i d) else s, .word (BitVec.ofNat 32 k))
  | .release t =>
    let k := targetStatus s t
    (if k = 0 then releaseTarget s t else s, .word (BitVec.ofNat 32 k))
  | .stop t => (stopTarget s t, .none)
  | .exFault _ _ _ => (s, .none)

/-! ## The gate (R261) -/

/-- Effects in the gate that are not yet released: the others have been released before a replay. -/
def heldEffects (x : Pair) : List Effect := x.gate.drop x.skip.length

/-- The next effect of the leader was released before the replay that is under way. -/
def wasReleased (x : Pair) : Bool := decide (x.gate.length < x.skip.length)

/-- Words staged for a channel once the effects in the gate are released. -/
def stagedThen (n ch : Nat) : List Effect → Nat
  | [] => n
  | .stage c _ :: t => stagedThen (if c = ch then n + 1 else n) ch t
  | .close c _ _ :: t => stagedThen (if c = ch then 0 else n) ch t
  | _ :: t => stagedThen n ch t

/-- FIFO entries that the closing writes in the gate will take. -/
def takenThen (n ch : Nat) : List Effect → Nat
  | [] => 0
  | .stage c _ :: t => takenThen (if c = ch then n + 1 else n) ch t
  | .close c _ _ :: t => if c = ch then n + 1 + takenThen 0 ch t else takenThen n ch t
  | _ :: t => takenThen n ch t

/-- The effects of a spoke that its channels have still to see. -/
def pendingEffects (s : State) (g : Nat) : List Effect :=
  match member s g with
  | .leader p => heldEffects (pairAt s p)
  | _ => []

/-- The word is one that a replay stages again. -/
def staging (s : State) (g : Nat) : Bool :=
  match member s g with
  | .solo => true
  | .leader p => !wasReleased (pairAt s p)
  | .follower p => (pairAt s p).skip.isEmpty

/-- Four words are staged already: CHAN_STAGE (R51). -/
def stageFull (s : State) (g ch : Nat) : Bool :=
  staging s g && decide (4 ≤ stagedThen (chan s ch).staged.length ch (pendingEffects s g))

/-- A closing write finds room for its message, behind no truncated message that still waits (R50, R52, R53). -/
def closeFits (s : State) (g ch : Nat) : Bool :=
  let n := (chan s ch).staged.length
  let es := pendingEffects s g
  decide (stagedThen n ch es + 1 + takenThen n ch es ≤ entryRoom s ch)

/-- The leader's effect enters the gate. -/
def gatePush (s : State) (p : Nat) (e : Effect) : State := setPair s p { pairAt s p with gate := (pairAt s p).gate ++ [e] }

/-- A load of a leader that waited behind the effect just released: once none is left before it, it reads what stands in memory then (R84,
R163). -/
def freeLoad (s : State) (f : Flight) : Flight :=
  if f.behind = 0 then f
  else if f.behind = 1 ∧ ¬ f.device then { f with behind := 0, data := BitVec.ofNat 256 (leNat (getBytes s.mem.cells f.addr f.size)) }
  else { f with behind := f.behind - 1 }

/-- An effect of a leader has been released. -/
def freeLoads (s : State) (g : Nat) : State := setSpk s g { spk s g with flight := (spk s g).flight.map (freeLoad s) }

/-- What a follower's effect meets in the gate: the release of the leader's equal effect, an effect that was released before, or
something else. -/
inductive Met where
  | released (s : State) (a : Ans) | old (s : State) | other
  deriving DecidableEq, Repr

/-- The follower's effect reaches its CM (R261, R263). -/
def gateMeet (s : State) (p : Nat) (pc : BitVec 18) (e : Effect) : Met :=
  let x := pairAt s p
  match x.gate with
  | [] => .other
  | h :: t =>
    if h ≠ e then .other
    else
      match x.skip with
      | [] =>
        let r := perform (setPair s p { x with gate := t, sigs := x.sigs ++ [e] }) x.leader.toNat pc e
        .released (freeLoads r.1 x.leader.toNat) r.2
      | k :: ks => if k = e then .old (setPair s p { x with gate := t, skip := ks }) else .other

end Sys2Proof.Machine
end

