-- ==== Sys2Proof/Machine/Ins.lean ====
section
/-! DEFINITION. The form of a spoke instruction: its parcels, class and registers, and what it does at EX (R57, R59, R63). -/
namespace Sys2Proof.Machine

/-- A load as the instruction asks for it (R84, R162, R164, R191). -/
structure LoadAsk where
  addr : Nat
  size : Nat
  dest : LoadDest
  sx : Bool
  /-- R165: a split access may tear. -/
  tears : Bool
  device : Bool
  /-- R191: LDL sets the reservation. -/
  link : Bool
  deriving DecidableEq, Repr

/-- What an instruction does at EX, from the registers read at IS. -/
inductive Act where
  /-- registers and flags only -/
  | done (sp : Spoke)
  | fault (code detail : Nat)
  /-- an effect with no result; a store shows its access to the comparators -/
  | emit (e : Effect) (look : Option (Nat × Nat × Word))
  /-- an effect with a result -/
  | ask (e : Effect) (rd : GReg) (look : Option (Nat × Nat × Word))
  | load (l : LoadAsk)
  /-- IN, WAITP -/
  | take (ch : Nat) (rd : GReg) (waitp : Bool)
  /-- POST, POSTU -/
  | close (ch : Nat) (w : Word) (urgent : Bool)
  | jump (d : DelaySlot)
  | rep (n : Nat)
  | stopSelf
  | ckpt
  | psync
  | brk (code : Nat)
  deriving DecidableEq, Repr

/-- An instruction: its parcels, its class, the registers it reads and writes, whether it produces an effect, and what it does at
EX: from the state, the spoke's global number and its registers. -/
structure Ins where
  parcels : Nat
  cls : NextClass
  reads : List SpokeReg
  writes : List SpokeReg
  effect : Bool
  run : State → Nat → Spoke → Act

/-- The register of a load's destination. -/
def destReg : LoadDest → SpokeReg
  | .g r => .g r
  | .v r => .v r

end Sys2Proof.Machine
end

