-- ==== Sys2Proof/Machine/SpokeAlu.lean ====
section
/-! DEFINITION. Integer, fixed-point, segment and status instructions of a spoke (R82, R85 to R89, R99 to R110). -/
namespace Sys2Proof.Machine

/-- An instruction on registers only: its parcels, what it reads and writes, and the registers after it. -/
def regs (parcels : Nat) (reads writes : List SpokeReg) (f : Spoke → Spoke) : Ins :=
  ⟨parcels, .plain, reads, writes, false, fun _ _ sp => .done (f sp)⟩

/-- A result with TSW. -/
def put (sp : Spoke) (rd : GReg) (r : RF) : Spoke := wg { sp with tsw := r.2 } rd r.1

/-- A logic result: Z and N from it, V cleared (R88). -/
def putLogic (sp : Spoke) (rd : GReg) (w : Word) : Spoke := put sp rd (w, flagsLogic sp.tsw w)

/-- MOV (R85). -/
def insMov (rd rs : GReg) : Ins :=
  regs 1 [.g rs] [.g rd] fun sp => wg sp rd (rg sp rs)

/-- ADD (R85, R102). -/
def insAdd (rd rs : GReg) : Ins :=
  regs 1 [.g rd, .g rs] [.g rd] fun sp => put sp rd (addFlags sp.tsw (rg sp rd) (rg sp rs) false)

/-- SUB (R85, R102). -/
def insSub (rd rs : GReg) : Ins :=
  regs 1 [.g rd, .g rs] [.g rd] fun sp => put sp rd (subFlags sp.tsw (rg sp rd) (rg sp rs) false)

/-- AND (R85, R88). -/
def insAndOp (rd rs : GReg) : Ins :=
  regs 1 [.g rd, .g rs] [.g rd] fun sp => putLogic sp rd (rg sp rd &&& rg sp rs)

/-- OR (R85, R88). -/
def insOrOp (rd rs : GReg) : Ins :=
  regs 1 [.g rd, .g rs] [.g rd] fun sp => putLogic sp rd (rg sp rd ||| rg sp rs)

/-- XOR (R85, R88). -/
def insXorOp (rd rs : GReg) : Ins :=
  regs 1 [.g rd, .g rs] [.g rd] fun sp => putLogic sp rd (rg sp rd ^^^ rg sp rs)

/-- CMP (R85, R102): writes no register. -/
def insCmp (ra rb : GReg) : Ins :=
  regs 1 [.g ra, .g rb] [] fun sp => { sp with tsw := cmpFlags sp.tsw (rg sp ra) (rg sp rb) }

/-- LSL (R85, R104). -/
def insLsl (rd rc : GReg) : Ins :=
  regs 1 [.g rd, .g rc] [.g rd] fun sp => put sp rd (shiftFlags sp.tsw .lsl (rg sp rd) (shiftCount (rg sp rc)))

/-- LSR (R85, R104). -/
def insLsr (rd rc : GReg) : Ins :=
  regs 1 [.g rd, .g rc] [.g rd] fun sp => put sp rd (shiftFlags sp.tsw .lsr (rg sp rd) (shiftCount (rg sp rc)))

/-- ASR (R85, R104). -/
def insAsr (rd rc : GReg) : Ins :=
  regs 1 [.g rd, .g rc] [.g rd] fun sp => put sp rd (shiftFlags sp.tsw .asr (rg sp rd) (shiftCount (rg sp rc)))

/-- ROT (R85, R104). -/
def insRot (rd rc : GReg) : Ins :=
  regs 1 [.g rd, .g rc] [.g rd] fun sp => put sp rd (shiftFlags sp.tsw .rot (rg sp rd) (shiftCount (rg sp rc)))

/-- SHI (R86, R104). -/
def insShi (kind : ShiftKind) (rd ra : GReg) (count : BitVec 8) : Ins :=
  regs 2 [.g ra] [.g rd] fun sp => put sp rd (shiftFlags sp.tsw kind (rg sp ra) count.toInt)

/-- ALU3 FUNC 0x02 to 0x0B: the same results as the one-parcel opcodes (R87). -/
def alu3Result (fn : Alu3Fn) (t a b : Word) : RF :=
  match fn with
  | .add => addFlags t a b false
  | .sub => subFlags t a b false
  | .and => (a &&& b, flagsLogic t (a &&& b))
  | .or => (a ||| b, flagsLogic t (a ||| b))
  | .xor => (a ^^^ b, flagsLogic t (a ^^^ b))
  | .cmp => (0, cmpFlags t a b)
  | .lsl => shiftFlags t .lsl a (shiftCount b)
  | .lsr => shiftFlags t .lsr a (shiftCount b)
  | .asr => shiftFlags t .asr a (shiftCount b)
  | .rot => shiftFlags t .rot a (shiftCount b)

/-- ALU3 (R87): CMP requires x = 0, and its other values are illegal (R96). -/
def insAlu3 (fn : Alu3Fn) (rd ra rb : GReg) : Ins :=
  { parcels := 2, cls := .plain, reads := [.g ra, .g rb], writes := [.g rd], effect := false
    run := fun _ _ sp =>
      if fn = .cmp ∧ rd ≠ 0 then .fault 1 0 else .done (put sp rd (alu3Result fn sp.tsw (rg sp ra) (rg sp rb))) }

/-- ANDN (R87): ra and not rb. -/
def insAndn (rd ra rb : GReg) : Ins :=
  regs 2 [.g ra, .g rb] [.g rd] fun sp => putLogic sp rd (rg sp ra &&& ~~~rg sp rb)

/-- ORN (R87): ra or not rb. -/
def insOrn (rd ra rb : GReg) : Ins :=
  regs 2 [.g ra, .g rb] [.g rd] fun sp => putLogic sp rd (rg sp ra ||| ~~~rg sp rb)

/-- MIN (R87). -/
def insMin (rd ra rb : GReg) : Ins :=
  regs 2 [.g ra, .g rb] [.g rd] fun sp => putLogic sp rd (if (rg sp ra).toInt ≤ (rg sp rb).toInt then rg sp ra else rg sp rb)

/-- MAX (R87). -/
def insMax (rd ra rb : GReg) : Ins :=
  regs 2 [.g ra, .g rb] [.g rd] fun sp => putLogic sp rd (if (rg sp ra).toInt ≤ (rg sp rb).toInt then rg sp rb else rg sp ra)

/-- MINU (R87). -/
def insMinu (rd ra rb : GReg) : Ins :=
  regs 2 [.g ra, .g rb] [.g rd] fun sp => putLogic sp rd (if (rg sp ra).toNat ≤ (rg sp rb).toNat then rg sp ra else rg sp rb)

/-- MAXU (R87). -/
def insMaxu (rd ra rb : GReg) : Ins :=
  regs 2 [.g ra, .g rb] [.g rd] fun sp => putLogic sp rd (if (rg sp ra).toNat ≤ (rg sp rb).toNat then rg sp rb else rg sp ra)

/-- ADC (R87, R102). -/
def insAdc (rd ra rb : GReg) : Ins :=
  regs 2 [.g ra, .g rb] [.g rd] fun sp => put sp rd (addFlags sp.tsw (rg sp ra) (rg sp rb) (flagC sp.tsw))

/-- SBC (R87, R102). -/
def insSbc (rd ra rb : GReg) : Ins :=
  regs 2 [.g ra, .g rb] [.g rd] fun sp => put sp rd (subFlags sp.tsw (rg sp ra) (rg sp rb) (!flagC sp.tsw))

/-- ADDI (R86, R102). -/
def insAddi (rd ra : GReg) (imm : BitVec 14) : Ins :=
  regs 2 [.g ra] [.g rd] fun sp => put sp rd (addFlags sp.tsw (rg sp ra) (imm.signExtend 32) false)

/-- LDI (R86). -/
def insLdi (rd : GReg) (imm : BitVec 14) : Ins :=
  regs 2 [] [.g rd] fun sp => wg sp rd (imm.signExtend 32)

/-- ORH (R85, R86). -/
def insOrh (rd ra : GReg) (imm : BitVec 14) : Ins :=
  regs 2 [.g ra] [.g rd] fun sp => wg sp rd ((rg sp ra <<< 14) ||| imm.setWidth 32)

/-- CMPI (R86, R102). -/
def insCmpi (ra : GReg) (imm : BitVec 14) : Ins :=
  regs 2 [.g ra] [] fun sp => { sp with tsw := cmpFlags sp.tsw (rg sp ra) (imm.signExtend 32) }

/-- LOGI OP (R86). -/
def logiResult (op : LogiOp) (a b : Word) : Word :=
  match op with
  | .and => a &&& b
  | .or => a ||| b
  | .xor => a ^^^ b
  | .andn => a &&& ~~~b

/-- LOGI (R85, R86). -/
def insLogi (op : LogiOp) (rd ra : GReg) (imm : BitVec 12) : Ins :=
  regs 2 [.g ra] [.g rd] fun sp => putLogic sp rd (logiResult op (rg sp ra) (imm.setWidth 32))

/-- A SEG function of a valid source, else SEG_INVALID (R82). -/
def segIns (ss : SReg) (reads writes : List SpokeReg) (f : Spoke → Seg → Act) : Ins :=
  { parcels := 2, cls := .plain, reads := .s ss :: reads, writes := writes, effect := false
    run := fun _ _ sp => if segV sp.s[ss] then f sp sp.s[ss] else .fault 4 0 }

/-- SNB (R82). -/
def insSnb (sd ss : SReg) (r : GReg) (mask : BitVec 3) : Ins :=
  segIns ss [.g r] [.s sd] fun sp d =>
    let n := (rg sp r).toNat
    if segLimit d < n then .fault 6 0
    else .done (setSeg sp sd (segNarrow d (segBase d + n) (segLimit d - n) mask))

/-- SNL (R82). -/
def insSnl (sd ss : SReg) (r : GReg) (mask : BitVec 3) : Ins :=
  segIns ss [.g r] [.s sd] fun sp d =>
    .done (setSeg sp sd (segNarrow d (segBase d) (min (segLimit d) (rg sp r).toNat) mask))

/-- SMOV (R82). -/
def insSmov (sd ss : SReg) (mask : BitVec 3) : Ins :=
  segIns ss [] [.s sd] fun sp d => .done (setSeg sp sd (segNarrow d (segBase d) (segLimit d) mask))

/-- SRB (R82). -/
def insSrb (rd : GReg) (ss : SReg) : Ins :=
  segIns ss [] [.g rd] fun sp d => .done (wg sp rd (BitVec.ofNat 32 (segBase d)))

/-- SRL (R82). -/
def insSrl (rd : GReg) (ss : SReg) : Ins :=
  segIns ss [] [.g rd] fun sp d => .done (wg sp rd (BitVec.ofNat 32 (segLimit d)))

/-- SRR (R82). -/
def insSrr (rd : GReg) (ss : SReg) : Ins :=
  segIns ss [] [.g rd] fun sp d => .done (wg sp rd ((d.extractLsb' 58 6).setWidth 32))

/-- SINV (R82). -/
def insSinv (sd : SReg) : Ins :=
  regs 2 [] [.s sd] fun sp => setSeg sp sd 0

/-- TSR (R85). -/
def insTsr (rd : GReg) : Ins :=
  regs 1 [] [.g rd] fun sp => wg sp rd sp.tsw

/-- TSWR (R78, R85): bits [11:0]; REPN stays. -/
def insTswr (rs : GReg) : Ins :=
  { regs 1 [.g rs] [] fun sp => { sp with tsw := (sp.tsw &&& ~~~0xFFF) ||| (rg sp rs &&& 0xFFF) } with cls := .solo }

/-- TSWM (R78, R86). -/
def insTswm (dzt sat : Bool) (rnd : BitVec 2) (wDzt wSat wRnd cls : Bool) : Ins :=
  { regs 2 [] [] fun sp =>
      let t := if wDzt then putBit sp.tsw 11 dzt else sp.tsw
      let t := if wSat then putBit t 10 sat else t
      let t := if wRnd then putBits t 8 2 rnd.toNat else t
      { sp with tsw := if cls then t &&& ~~~0x30 else t } with cls := .solo }

/-- MUL (R105). -/
def insMul (ty : MulType) (rov : Rov) (rd ra rb : GReg) : Ins :=
  regs 2 [.g ra, .g rb] [.g rd] fun sp => put sp rd (mulFlags sp.tsw ty rov (rg sp ra) (rg sp rb))

/-- An accumulator written, with TSW. -/
def putAcc (sp : Spoke) (x : AReg) (r : Acc × Word) : Spoke := { sp with a := sp.a.set x r.1, tsw := r.2 }

/-- MAC (R106). -/
def insMac (ty : MacType) (sub : Bool) (ai : AReg) (ra rb : GReg) : Ins :=
  regs 2 [.g ra, .g rb, .a ai] [.a ai] fun sp => putAcc sp ai (macFlags sp.tsw ty sub sp.a[ai] (rg sp ra) (rg sp rb))

/-- EXT (R107). -/
def insExt (rov : Rov) (x : GReg) (y : AReg) (sh : BitVec 4) : Ins :=
  regs 2 [.a y] [.g x] fun sp => put sp x (extFlags sp.tsw rov 32 32 sp.a[y] sh.toNat)

/-- EXT16 (R107). -/
def insExt16 (rov : Rov) (x : GReg) (y : AReg) (sh : BitVec 4) : Ins :=
  regs 2 [.a y] [.g x] fun sp => put sp x (extFlags sp.tsw rov 48 16 sp.a[y] sh.toNat)

/-- CLRA (R107). -/
def insClra (x : AReg) : Ins :=
  regs 2 [] [.a x] fun sp => { sp with a := sp.a.set x 0 }

/-- MOVA (R107). -/
def insMova (x : AReg) (y : GReg) : Ins :=
  regs 2 [.g y] [.a x] fun sp => { sp with a := sp.a.set x (BitVec.ofInt 72 ((rg sp y).toInt * 2 ^ 32)) }

/-- ADDA (R107). -/
def insAdda (x y : AReg) : Ins :=
  regs 2 [.a x, .a y] [.a x] fun sp => putAcc sp x (accOf sp.tsw (sp.a[x].toInt + sp.a[y].toInt))

/-- SHRA (R107). -/
def insShra (rov : Rov) (x : AReg) (sh : BitVec 4) : Ins :=
  regs 2 [.a x] [.a x] fun sp => { sp with a := sp.a.set x (shraVal sp.tsw rov sp.a[x] sh.toNat) }

/-- RDA (R87, R107). -/
def insRda (x : GReg) (y : AReg) (part : AccPart) : Ins :=
  regs 2 [.a y] [.g x] fun sp => wg sp x (accPart sp.a[y] part)

/-- WRA (R87, R107). -/
def insWra (x : AReg) (y : GReg) (part : AccPart) : Ins :=
  regs 2 [.g y, .a x] [.a x] fun sp => { sp with a := sp.a.set x (setAccPart sp.a[x] part (rg sp y)) }

/-- DIV (R108, R109): RR = x is illegal (R87); DIV_ZERO where DZT is set (R109). -/
def insDiv (ty : DivType) (rq rr ra rb : GReg) : Ins :=
  { parcels := 2, cls := .plain, reads := [.g ra, .g rb], writes := [.g rq, .g rr], effect := false
    run := fun _ _ sp =>
      if rq = rr then .fault 1 0
      else if rg sp rb = 0 ∧ modeDZT sp.tsw then .fault 0xC 0
      else
        let d := divide sp.tsw ty (rg sp ra) (rg sp rb)
        .done (wg (wg { sp with tsw := divFlags sp.tsw d } rq d.q) rr d.r) }

/-- NEG (R103, R110). -/
def insNeg (rd : GReg) : Ins :=
  regs 1 [.g rd] [.g rd] fun sp => put sp rd (negFlags sp.tsw (rg sp rd))

/-- ABS (R103, R110). -/
def insAbs (rd : GReg) : Ins :=
  regs 1 [.g rd] [.g rd] fun sp => put sp rd (absFlags sp.tsw (rg sp rd))

/-- NOT (R88, R110). -/
def insNotOp (rd : GReg) : Ins :=
  regs 1 [.g rd] [.g rd] fun sp => putLogic sp rd (~~~rg sp rd)

/-- SXB (R110). -/
def insSxb (rd : GReg) : Ins :=
  regs 1 [.g rd] [.g rd] fun sp => wg sp rd (((rg sp rd).extractLsb' 0 8).signExtend 32)

/-- SXH (R110). -/
def insSxh (rd : GReg) : Ins :=
  regs 1 [.g rd] [.g rd] fun sp => wg sp rd (((rg sp rd).extractLsb' 0 16).signExtend 32)

/-- ZXB (R110). -/
def insZxb (rd : GReg) : Ins :=
  regs 1 [.g rd] [.g rd] fun sp => wg sp rd (((rg sp rd).extractLsb' 0 8).setWidth 32)

/-- ZXH (R110). -/
def insZxh (rd : GReg) : Ins :=
  regs 1 [.g rd] [.g rd] fun sp => wg sp rd (((rg sp rd).extractLsb' 0 16).setWidth 32)

/-- CLZ (R110). -/
def insClz (rd : GReg) : Ins :=
  regs 1 [.g rd] [.g rd] fun sp => wg sp rd (clzVal (rg sp rd))

/-- CLS (R110). -/
def insCls (rd : GReg) : Ins :=
  regs 1 [.g rd] [.g rd] fun sp => wg sp rd (clsVal (rg sp rd))

/-- BREV (R110). -/
def insBrev (rd : GReg) : Ins :=
  regs 1 [.g rd] [.g rd] fun sp => wg sp rd (rg sp rd).reverse

/-- BSWP (R110). -/
def insBswp (rd : GReg) : Ins :=
  regs 1 [.g rd] [.g rd] fun sp => wg sp rd (bswapVal (rg sp rd))

end Sys2Proof.Machine
end

