-- ==== Sys2Proof/Machine/SpokeMem.lean ====
section
/-! DEFINITION. Loads, stores and program writes of a spoke (R72, R73, R80 to R86, R164 to R166, R191). -/
namespace Sys2Proof.Machine

/-- An access through a segment: its checks at EX, then what it does at its byte address (R81). -/
def through (s : State) (g : Nat) (sp : Spoke) (k : Access) (ro : GReg) (seg : SReg) (imm size : Nat) (f : Nat → Act) : Act :=
  match checkAccess s (front s g) k sp.s[seg] (offsetOf (rg sp ro) imm size) size with
  | .inl c => .fault c 0
  | .inr a => f a

/-- A load instruction. -/
def loadIns (k : Access) (n : Nat) (d : LoadDest) (sx tears link : Bool) (ro : GReg) (seg : SReg) (imm : BitVec 7) : Ins :=
  { parcels := 2, cls := .plain, reads := [.g ro, .s seg], writes := [destReg d], effect := false
    run := fun s g sp => through s g sp k ro seg imm.toNat n fun a =>
      .load { addr := a, size := n, dest := d, sx := sx, tears := tears, device := segD sp.s[seg], link := link } }

/-- LD (R80, R84, R86): memory or device; a split access may tear (R165). -/
def insLd (size : Size) (sx : Bool) (rd ro : GReg) (seg : SReg) (imm : BitVec 7) : Ins :=
  loadIns .ld (sizeBytes size) (.g rd) sx true false ro seg imm

/-- VLD (R86): bits above the size are zero. -/
def insVld (size : VSize) (vd : VReg) (ro : GReg) (seg : SReg) (imm : BitVec 7) : Ins :=
  loadIns .vld (vsizeBytes size) (.v vd) false true false ro seg imm

/-- LDL (R191). -/
def insLdl (rd ro : GReg) (seg : SReg) (imm : BitVec 7) : Ins :=
  loadIns .ldl 4 (.g rd) false false true ro seg imm

/-- LDA (R86, R166): never tears. -/
def insLda (form : LdaForm) (ro : GReg) (seg : SReg) (imm : BitVec 7) : Ins :=
  match form with
  | .scalar n rd => loadIns .vld (sizeBytes n) (.g rd) false false false ro seg imm
  | .vectorS n vd => loadIns .vld (sizeBytes n) (.v vd) false false false ro seg imm
  | .vectorV n vd => loadIns .vld (vsizeBytes n) (.v vd) false false false ro seg imm

/-- ST (R80, R84, R86): memory or device. -/
def insSt (size : Size) (rs ro : GReg) (seg : SReg) (imm : BitVec 7) (o : MemOutcome) : Ins :=
  { parcels := 2, cls := .plain, reads := [.g rs, .g ro, .s seg], writes := [], effect := true
    run := fun s g sp => through s g sp .st ro seg imm.toNat (sizeBytes size) fun a =>
      let w := rg sp rs
      .emit (if segD sp.s[seg] then .device a w else .store a (toBytes (sizeBytes size) w.toNat) o) (some (a, sizeBytes size, w)) }

/-- VST (R86): the low bytes, as one unit (R164). -/
def insVst (size : VSize) (vs : VReg) (ro : GReg) (seg : SReg) (imm : BitVec 7) (o : MemOutcome) : Ins :=
  { parcels := 2, cls := .plain, reads := [.v vs, .g ro, .s seg], writes := [], effect := true
    run := fun s g sp => through s g sp .vst ro seg imm.toNat (vsizeBytes size) fun a =>
      .emit (.store a (toBytes (vsizeBytes size) sp.v[vs].toNat) o) (some (a, vsizeBytes size, sp.v[vs].setWidth 32)) }

/-- STC (R191): g[RT] takes 1 where it stored, else 0. -/
def insStc (rs ro rt : GReg) (seg : SReg) (imm : BitVec 7) (o : MemOutcome) : Ins :=
  { parcels := 2, cls := .plain, reads := [.g rs, .g ro, .s seg], writes := [.g rt], effect := true
    run := fun s g sp => through s g sp .stc ro seg imm.toNat 4 fun a =>
      .ask (.condStore a (rg sp rs) o) rt (some (a, 4, rg sp rs)) }

/-- PST (R76, R95): program word w is at byte 8w of the segment. Where BASE is not a multiple of 8, the word is that of (BASE + offset)
div 8: the manual aligns the offset only, and the choice is the model's (log entry 90). -/
def insPst (vs : VReg) (ro : GReg) (seg : SReg) (imm : BitVec 7) : Ins :=
  { parcels := 2, cls := .solo, reads := [.v vs, .g ro, .s seg], writes := [], effect := true
    run := fun s g sp => through s g sp .pst ro seg imm.toNat 8 fun a =>
      .emit (.program (a / 8) (sp.v[vs].setWidth 56)) none }

/-- PSYNC (R73): what it fetches next comes from the new image. -/
def insPsync : Ins :=
  { parcels := 1, cls := .solo, reads := [], writes := [], effect := false, run := fun _ _ _ => .psync }

end Sys2Proof.Machine
end

