-- ==== Sys2Proof/Machine/SpokeChan.lean ====
section
/-! DEFINITION. Channel, cadence and lock instructions of a spoke (R33, R50, R51, R92, R93, R183, R184). -/
namespace Sys2Proof.Machine

/-- A read of a channel: its endpoint checks, then the wait for a word (R51, R92). -/
def takeIns (rd ri : GReg) (ch : BitVec 14) (waitp : Bool) : Ins :=
  { parcels := 2, cls := .chnB, reads := [.g ri], writes := [.g rd], effect := false
    run := fun s g sp =>
      let c := chanId ch (rg sp ri)
      if badReader s g c waitp then .fault 0xA 0 else .take c rd waitp }

/-- A write of a channel: CHAN_ENDPOINT, then CHAN_STAGE (R51, R92, R98). -/
def writeIns (cls : NextClass) (rs ri : GReg) (ch : BitVec 14) (f : Nat → Word → Act) : Ins :=
  { parcels := 2, cls := cls, reads := [.g rs, .g ri], writes := [], effect := true
    run := fun s g sp =>
      let c := chanId ch (rg sp ri)
      if badWriter s g c then .fault 0xA 0
      else if stageFull s g c then .fault 0xB 0
      else f c (rg sp rs) }

/-- IN (R51). -/
def insInOp (rd ri : GReg) (ch : BitVec 14) : Ins :=
  takeIns rd ri ch false

/-- OUT (R50). -/
def insOut (rs ri : GReg) (ch : BitVec 14) : Ins :=
  writeIns .plain rs ri ch fun c w => .emit (.stage c w) none

/-- POST (R50). -/
def insPost (rs ri : GReg) (ch : BitVec 14) : Ins :=
  writeIns .chnB rs ri ch fun c w => .close c w false

/-- POSTU (R45, R92). -/
def insPostu (rs ri : GReg) (ch : BitVec 14) : Ins :=
  writeIns .chnB rs ri ch fun c w => .close c w true

/-- WAITP (R33). -/
def insWaitp (rd ri : GReg) (ch : BitVec 14) : Ins :=
  takeIns rd ri ch true

/-- ARMP (R33, R93): ARMP_OWNER where the cluster is not ACT.OWNER. -/
def insArmp (rd ra rb : GReg) (c : Fin 512) : Ins :=
  { parcels := 2, cls := .plain, reads := [.g ra, .g rb], writes := [.g rd], effect := true
    run := fun s g sp =>
      if ((evt s c.val).act.extractLsb' 16 4).toNat ≠ clusterOf g then .fault 0x11 0
      else .ask (.arm c.val (rg sp rb ++ rg sp ra)) rd none }

/-- A lock operation: 0 LCK, 1 TRY, 2 ULK (R93, R183, R184). -/
def lockIns (op : Nat) (cls : NextClass) (rd ro : GReg) (seg : SReg) (imm : BitVec 11) : Ins :=
  { parcels := 2, cls := cls, reads := [.g ro, .s seg], writes := [.g rd], effect := true
    run := fun s g sp => through s g sp .lock ro seg imm.toNat 4 fun a => .ask (.lockReq op a rd) rd none }

/-- LCK (R184). -/
def insLck (rd ro : GReg) (seg : SReg) (imm : BitVec 11) : Ins :=
  lockIns 0 .chnB rd ro seg imm

/-- TRY (R184). -/
def insTryOp (rd ro : GReg) (seg : SReg) (imm : BitVec 11) : Ins :=
  lockIns 1 .plain rd ro seg imm

/-- ULK (R184). -/
def insUlk (rd ro : GReg) (seg : SReg) (imm : BitVec 11) : Ins :=
  lockIns 2 .plain rd ro seg imm

end Sys2Proof.Machine
end

