-- ==== Sys2Proof/Machine/SpokeSys.lean ====
section
/-! DEFINITION. System instructions, REP, branches and breaks of a spoke (R47, R48, R67 to R70, R90, R91, R94 to R96, R116, R262). -/
namespace Sys2Proof.Machine

/-- An instruction of the master about a target spoke (R47, R94). -/
def masterIns (reads : List SpokeReg) (rd : GReg) (core : Fin 4) (spoke : Fin 32) (f : Spoke → Nat → Effect) : Ins :=
  { parcels := 2, cls := .solo, reads := reads, writes := [.g rd], effect := true
    run := fun s g sp => if isMaster s g then .ask (f sp (targetOf g core spoke)) rd none else .fault 0x10 0 }

/-- SETCTX (R47, R86, R94). -/
def insSetctx (rd rs : GReg) (core : Fin 4) (spoke : Fin 32) (item : CtxItem) : Ins :=
  masterIns [.g rs] rd core spoke fun sp t => .setctx t item (rg sp rs)

/-- SETSEG (R94): a copy of the master's own segment. -/
def insSetseg (rd : GReg) (ss : SReg) (core : Fin 4) (spoke : Fin 32) (idx : SReg) : Ins :=
  masterIns [.s ss] rd core spoke fun sp t => .setseg t idx sp.s[ss]

/-- RELEASE (R47, R94). -/
def insRelease (rd : GReg) (core : Fin 4) (spoke : Fin 32) : Ins :=
  masterIns [] rd core spoke fun _ t => .release t

/-- STOP (R48, R94): SELF = 1 with a target is illegal (R96). With SELF = 0 it is the spoke's own stop where it names the issuing spoke or
its pair's other member, which R94 leaves open for a spoke that is no master (log entry 58). -/
def insStop (self : Bool) (core : Fin 4) (spoke : Fin 32) : Ins :=
  { parcels := 2, cls := .repCkptStop, reads := [], writes := [], effect := !self
    run := fun s g _ =>
      let t := targetOf g core spoke
      if self then (if core = 0 ∧ spoke = 0 then .stopSelf else .fault 1 0)
      else if (together s g).contains t then .stopSelf
      else if isMaster s g then .emit (.stop t) none
      else .fault 0x10 0 }

/-- CKPT (R262). -/
def insCkpt : Ins :=
  { parcels := 1, cls := .repCkptStop, reads := [], writes := [], effect := false, run := fun _ _ _ => .ckpt }

/-- REP (R95, R116). -/
def insRep (count : RepCount) (target : NextClass) : Ins :=
  { parcels := 1, cls := .repCkptStop, effect := false, writes := []
    reads := match count with | .imm _ => [] | .reg y => [.g y]
    run := fun _ _ sp =>
      if target = .branch ∨ target = .repCkptStop then .fault 0xD 0
      else match count with
        | .imm n => .rep (n.toNat + 1)
        | .reg y => if 1 ≤ (rg sp y).toNat ∧ (rg sp y).toNat ≤ 64 then .rep (rg sp y).toNat else .fault 0xE 0 }

/-- A branch at EX: DELAY_SLOT, then PROG_ADDR of its target, whether it is taken or not (R69, R90, R98). -/
def branchAct (sp : Spoke) (taken annul link : Bool) (target : BitVec 18) (slot : NextClass) : Act :=
  if slot ≠ .plain then .fault 0xF 0
  else if noParcel target then .fault 2 0
  else .jump ⟨sp.pc, if taken then some target else none, annul && !taken, link⟩

/-- BR (R67, R90, R91). -/
def insBr (cond : Cond) (annul : Bool) (off : BitVec 17) (slot : NextClass) : Ins :=
  { parcels := 2, cls := .branch, reads := [], writes := [], effect := false
    run := fun _ _ sp => branchAct sp (condHolds sp.tsw cond) annul false (brTarget sp.pc off) slot }

/-- JA (R90). -/
def insJa (link : Bool) (target : BitVec 18) (slot : NextClass) : Ins :=
  { parcels := 2, cls := .branch, reads := [], writes := if link then [.g 15] else [], effect := false
    run := fun _ _ sp => branchAct sp true false link target slot }

/-- JR (R90). -/
def insJr (link : Bool) (rt : GReg) (slot : NextClass) : Ins :=
  { parcels := 1, cls := .branch, reads := [.g rt], writes := if link then [.g 15] else [], effect := false
    run := fun _ _ sp => branchAct sp true false link ((rg sp rt).setWidth 18) slot }

/-- BRK (R95, R335). -/
def insBrk (code : BitVec 8) : Ins :=
  { parcels := 1, cls := .solo, reads := [], writes := [], effect := false, run := fun _ _ _ => .brk code.toNat }

/-- An illegal encoding of an opcode of so many parcels and of that class (R63, R85, R96). -/
def insIll (two : Bool) (cls : NextClass) : Ins :=
  { parcels := if two then 2 else 1, cls := cls, reads := [], writes := [], effect := false, run := fun _ _ _ => .fault 1 0 }

end Sys2Proof.Machine
end

