-- ==== Sys2Proof/WellFormed.lean ====
section
/-! DEFINITION. Which commands are well formed: operands that the manual's encodings and event descriptions admit. -/
namespace Sys2Proof

/-- R50: the identifier names a channel of clusters 0 to 12. -/
def channelOk (ch : BitVec 14) : Bool := ch.toNat / 1024 < 13

/-- R87: an element index of T selects one of 16 Q15 or 8 Q31 elements. -/
def elementOk (t : Bool) (k : BitVec 4) : Bool := !t || k.toNat < 8

/-- R194: a Duari frame holds 1 to 512 payload words. -/
def streamOk (words : List MemWord) : Bool := 1 ≤ words.length && words.length ≤ 512

/-- The operands of the command are ones the manual admits. -/
def Instr.wellFormed : Instr → Bool
  | .vins _ t k _ _ => elementOk t k
  | .vext _ t k _ _ => elementOk t k
  | .div _ _ rq rr _ _ => rq != rr
  | .stop _ self core spoke => !self || (core == 0 && spoke == 0)
  | .truncatedMessageEnter ch => channelOk ch
  | .workMessageDeliver ch => channelOk ch
  | .resultRecord ch => channelOk ch
  | .avlRetire core => core.toNat < 52
  | .ethFrameReceived _ f => f.bytes.toNat ≤ 9216 && f.words.length == (f.bytes.toNat + 31) / 32
  | .streamFrameReceived _ f => streamOk f.words
  | .mirror _ f => streamOk f.words
  | .ckptRecord _ f => f.words.length == 15
  | .mirrorSend n _ => n != 0
  | .chryDrive _ _ a b _ => a ≤ b
  | .chryFloat _ a b => a ≤ b
  | .chryLoopDec _ t => t.toNat < 48
  | .chryLoopJumpF0 _ t => t.toNat < 48
  | .chryLoopJump _ t => t.toNat < 48
  | .chryShiftStream _ _ ws => ws.length ≤ 262144
  | .pmbPoll r => r.length ≤ 32
  | _ => true

end Sys2Proof
end

