-- ==== Sys2Proof/Machine/SpokeVec.lean ====
section
/-! DEFINITION. Vector instructions of a spoke (R87, R111 to R114). -/
namespace Sys2Proof.Machine

/-- A vector result with TSW. -/
def putV (sp : Spoke) (vd : VReg) (r : MemWord × Word) : Spoke := { sp with v := sp.v.set vd r.1, tsw := r.2 }

/-- A vector result with no flags. -/
def setV (sp : Spoke) (vd : VReg) (w : MemWord) : Spoke := { sp with v := sp.v.set vd w }

/-- A vector instruction on one destination and its sources (R111). -/
def vec (vd : VReg) (srcs : List VReg) (f : Spoke → Spoke) : Ins := regs 2 (srcs.map .v) [.v vd] f

/-- VADD (R111). -/
def insVadd (t : Bool) (vd va vb : VReg) : Ins :=
  vec vd [va, vb] fun sp => putV sp vd (vecSat sp.tsw t fun i => elem t sp.v[va] i + elem t sp.v[vb] i)

/-- VSUB (R111). -/
def insVsub (t : Bool) (vd va vb : VReg) : Ins :=
  vec vd [va, vb] fun sp => putV sp vd (vecSat sp.tsw t fun i => elem t sp.v[va] i - elem t sp.v[vb] i)

/-- VAND (R111). -/
def insVand (vd va vb : VReg) : Ins :=
  vec vd [va, vb] fun sp => setV sp vd (sp.v[va] &&& sp.v[vb])

/-- VOR (R111). -/
def insVor (vd va vb : VReg) : Ins :=
  vec vd [va, vb] fun sp => setV sp vd (sp.v[va] ||| sp.v[vb])

/-- VXOR (R111). -/
def insVxor (vd va vb : VReg) : Ins :=
  vec vd [va, vb] fun sp => setV sp vd (sp.v[va] ^^^ sp.v[vb])

/-- VSHL (R112). -/
def insVshl (t : Bool) (vd va vb : VReg) : Ins :=
  vec vd [va, vb] fun sp => putV sp vd (vecSat sp.tsw t fun i => vecShift (elem t sp.v[va] i) (vecCount t sp.v[vb] i))

/-- VSHR (R112). -/
def insVshr (t : Bool) (vd va vb : VReg) : Ins :=
  vec vd [va, vb] fun sp => putV sp vd (vecSat sp.tsw t fun i => vecShift (elem t sp.v[va] i) (-vecCount t sp.v[vb] i))

/-- VMIN (R111). -/
def insVmin (t : Bool) (vd va vb : VReg) : Ins :=
  vec vd [va, vb] fun sp => setV sp vd (ofElems t fun i => Min.min (elem t sp.v[va] i) (elem t sp.v[vb] i))

/-- VMAX (R111). -/
def insVmax (t : Bool) (vd va vb : VReg) : Ins :=
  vec vd [va, vb] fun sp => setV sp vd (ofElems t fun i => Max.max (elem t sp.v[va] i) (elem t sp.v[vb] i))

/-- VABS (R111). -/
def insVabs (t : Bool) (vd va : VReg) : Ins :=
  vec vd [va] fun sp => putV sp vd (vecSat sp.tsw t fun i => if elem t sp.v[va] i < 0 then -elem t sp.v[va] i else elem t sp.v[va] i)

/-- VNEG (R111). -/
def insVneg (t : Bool) (vd va : VReg) : Ins :=
  vec vd [va] fun sp => putV sp vd (vecSat sp.tsw t fun i => -elem t sp.v[va] i)

/-- VPERM (R111). -/
def insVperm (t : Bool) (vd va vb : VReg) : Ins :=
  vec vd [va, vb] fun sp => setV sp vd (vecPerm t sp.v[va] sp.v[vb])

/-- The element result of VMAC, VMSC and VMUL: the exact value rounded once (R113). -/
def vecRound (tsw : Word) (t : Bool) (rov : Rov) (f : Nat → Int) : MemWord × Word :=
  vecSat tsw t fun i => roundTo (rounding tsw rov) (vecK t) (f i)

/-- VMAC (R113). -/
def insVmac (t : Bool) (rov : Rov) (vd va vb : VReg) : Ins :=
  vec vd [vd, va, vb] fun sp => putV sp vd (vecRound sp.tsw t rov fun i =>
    elem t sp.v[vd] i * 2 ^ vecK t + elem t sp.v[va] i * elem t sp.v[vb] i)

/-- VMSC (R113). -/
def insVmsc (t : Bool) (rov : Rov) (vd va vb : VReg) : Ins :=
  vec vd [vd, va, vb] fun sp => putV sp vd (vecRound sp.tsw t rov fun i =>
    elem t sp.v[vd] i * 2 ^ vecK t - elem t sp.v[va] i * elem t sp.v[vb] i)

/-- VMUL (R113). -/
def insVmul (t : Bool) (rov : Rov) (vd va vb : VReg) : Ins :=
  vec vd [va, vb] fun sp => putV sp vd (vecRound sp.tsw t rov fun i => elem t sp.v[va] i * elem t sp.v[vb] i)

/-- VDOT (R113): exact, into an accumulator. -/
def insVdot (t : Bool) (x : AReg) (va vb : VReg) : Ins :=
  regs 2 [.v va, .v vb, .a x] [.a x] fun sp => putAcc sp x (accOf sp.tsw (sp.a[x].toInt + dotSum t sp.v[va] sp.v[vb]))

/-- A move of element K: with T = 1 a K of 8 or more is illegal (R87). -/
def elemIns (t : Bool) (k : BitVec 4) (reads writes : List SpokeReg) (f : Spoke → Spoke) : Ins :=
  { parcels := 2, cls := .plain, reads := reads, writes := writes, effect := false
    run := fun _ _ sp => if elementOk t k then .done (f sp) else .fault 1 0 }

/-- VINS (R114). -/
def insVins (t : Bool) (k : BitVec 4) (x : VReg) (y : GReg) : Ins :=
  elemIns t k [.g y, .v x] [.v x] fun sp => setV sp x (vecIns t sp.v[x] k.toNat (rg sp y))

/-- VEXT (R114). -/
def insVext (t : Bool) (k : BitVec 4) (x : GReg) (y : VReg) : Ins :=
  elemIns t k [.v y] [.g x] fun sp => wg sp x (BitVec.ofInt 32 (elem t sp.v[y] k.toNat))

/-- VSPL (R114). -/
def insVspl (t : Bool) (x : VReg) (y : GReg) : Ins :=
  regs 2 [.g y] [.v x] fun sp => setV sp x (ofElems t fun _ => (rg sp y).toInt)

/-- VMOVV (R114). -/
def insVmovv (x y : VReg) : Ins :=
  vec x [y] fun sp => setV sp x sp.v[y]

/-- VZERO (R114). -/
def insVzero (x : VReg) : Ins :=
  vec x [] fun sp => setV sp x 0

end Sys2Proof.Machine
end

