-- ==== Sys2Proof/Machine/InsOf.lean ====
section
/-! DEFINITION. The instruction that a command or a pair of parcels stands for. -/
namespace Sys2Proof.Machine

/-- The instruction of a command that is one. -/
def insOf : Instr → Option Ins
  | .mov _ rd rs => some (insMov rd rs)
  | .add _ rd rs => some (insAdd rd rs)
  | .sub _ rd rs => some (insSub rd rs)
  | .andOp _ rd rs => some (insAndOp rd rs)
  | .orOp _ rd rs => some (insOrOp rd rs)
  | .xorOp _ rd rs => some (insXorOp rd rs)
  | .cmp _ ra rb => some (insCmp ra rb)
  | .lsl _ rd rc => some (insLsl rd rc)
  | .lsr _ rd rc => some (insLsr rd rc)
  | .asr _ rd rc => some (insAsr rd rc)
  | .rot _ rd rc => some (insRot rd rc)
  | .shi _ kind rd ra count => some (insShi kind rd ra count)
  | .alu3 _ fn rd ra rb => some (insAlu3 fn rd ra rb)
  | .andn _ rd ra rb => some (insAndn rd ra rb)
  | .orn _ rd ra rb => some (insOrn rd ra rb)
  | .min _ rd ra rb => some (insMin rd ra rb)
  | .max _ rd ra rb => some (insMax rd ra rb)
  | .minu _ rd ra rb => some (insMinu rd ra rb)
  | .maxu _ rd ra rb => some (insMaxu rd ra rb)
  | .adc _ rd ra rb => some (insAdc rd ra rb)
  | .sbc _ rd ra rb => some (insSbc rd ra rb)
  | .addi _ rd ra imm => some (insAddi rd ra imm)
  | .ldi _ rd imm => some (insLdi rd imm)
  | .orh _ rd ra imm => some (insOrh rd ra imm)
  | .cmpi _ ra imm => some (insCmpi ra imm)
  | .logi _ op rd ra imm => some (insLogi op rd ra imm)
  | .snb _ sd ss rg mask => some (insSnb sd ss rg mask)
  | .snl _ sd ss rg mask => some (insSnl sd ss rg mask)
  | .smov _ sd ss mask => some (insSmov sd ss mask)
  | .srb _ rd ss => some (insSrb rd ss)
  | .srl _ rd ss => some (insSrl rd ss)
  | .srr _ rd ss => some (insSrr rd ss)
  | .sinv _ sd => some (insSinv sd)
  | .tsr _ rd => some (insTsr rd)
  | .tswr _ rs => some (insTswr rs)
  | .tswm _ dzt sat rnd wDzt wSat wRnd cls => some (insTswm dzt sat rnd wDzt wSat wRnd cls)
  | .mul _ ty rov rd ra rb => some (insMul ty rov rd ra rb)
  | .mac _ ty sub ai ra rb => some (insMac ty sub ai ra rb)
  | .ext _ rov x y sh => some (insExt rov x y sh)
  | .ext16 _ rov x y sh => some (insExt16 rov x y sh)
  | .clra _ x => some (insClra x)
  | .mova _ x y => some (insMova x y)
  | .adda _ x y => some (insAdda x y)
  | .shra _ rov x sh => some (insShra rov x sh)
  | .rda _ x y part => some (insRda x y part)
  | .wra _ x y part => some (insWra x y part)
  | .div _ ty rq rr ra rb => some (insDiv ty rq rr ra rb)
  | .vadd _ t vd va vb => some (insVadd t vd va vb)
  | .vsub _ t vd va vb => some (insVsub t vd va vb)
  | .vand _ vd va vb => some (insVand vd va vb)
  | .vor _ vd va vb => some (insVor vd va vb)
  | .vxor _ vd va vb => some (insVxor vd va vb)
  | .vshl _ t vd va vb => some (insVshl t vd va vb)
  | .vshr _ t vd va vb => some (insVshr t vd va vb)
  | .vmin _ t vd va vb => some (insVmin t vd va vb)
  | .vmax _ t vd va vb => some (insVmax t vd va vb)
  | .vabs _ t vd va => some (insVabs t vd va)
  | .vneg _ t vd va => some (insVneg t vd va)
  | .vperm _ t vd va vb => some (insVperm t vd va vb)
  | .vmac _ t rov vd va vb => some (insVmac t rov vd va vb)
  | .vmsc _ t rov vd va vb => some (insVmsc t rov vd va vb)
  | .vmul _ t rov vd va vb => some (insVmul t rov vd va vb)
  | .vdot _ t x va vb => some (insVdot t x va vb)
  | .vins _ t k x y => some (insVins t k x y)
  | .vext _ t k x y => some (insVext t k x y)
  | .vspl _ t x y => some (insVspl t x y)
  | .vmovv _ x y => some (insVmovv x y)
  | .vzero _ x => some (insVzero x)
  | .neg _ rd => some (insNeg rd)
  | .abs _ rd => some (insAbs rd)
  | .notOp _ rd => some (insNotOp rd)
  | .sxb _ rd => some (insSxb rd)
  | .sxh _ rd => some (insSxh rd)
  | .zxb _ rd => some (insZxb rd)
  | .zxh _ rd => some (insZxh rd)
  | .clz _ rd => some (insClz rd)
  | .cls _ rd => some (insCls rd)
  | .brev _ rd => some (insBrev rd)
  | .bswp _ rd => some (insBswp rd)
  | .ld _ size sx rd ro seg imm => some (insLd size sx rd ro seg imm)
  | .st _ size rs ro seg imm o => some (insSt size rs ro seg imm o)
  | .vld _ size vd ro seg imm => some (insVld size vd ro seg imm)
  | .vst _ size vs ro seg imm o => some (insVst size vs ro seg imm o)
  | .ldl _ rd ro seg imm => some (insLdl rd ro seg imm)
  | .stc _ rs ro rt seg imm o => some (insStc rs ro rt seg imm o)
  | .lda _ form ro seg imm => some (insLda form ro seg imm)
  | .pst _ vs ro seg imm => some (insPst vs ro seg imm)
  | .psync _ => some insPsync
  | .inOp _ rd ri ch => some (insInOp rd ri ch)
  | .out _ rs ri ch => some (insOut rs ri ch)
  | .post _ rs ri ch => some (insPost rs ri ch)
  | .postu _ rs ri ch => some (insPostu rs ri ch)
  | .waitp _ rd ri ch => some (insWaitp rd ri ch)
  | .armp _ rd ra rb c => some (insArmp rd ra rb c)
  | .lck _ rd ro seg imm => some (insLck rd ro seg imm)
  | .tryOp _ rd ro seg imm => some (insTryOp rd ro seg imm)
  | .ulk _ rd ro seg imm => some (insUlk rd ro seg imm)
  | .setctx _ rd rs core spoke item => some (insSetctx rd rs core spoke item)
  | .setseg _ rd ss core spoke idx => some (insSetseg rd ss core spoke idx)
  | .release _ rd core spoke => some (insRelease rd core spoke)
  | .stop _ self core spoke => some (insStop self core spoke)
  | .ckpt _ => some insCkpt
  | .rep _ count target => some (insRep count target)
  | .br _ cond annul off slot => some (insBr cond annul off slot)
  | .ja _ link target slot => some (insJa link target slot)
  | .jr _ link rt slot => some (insJr link rt slot)
  | .brk _ code => some (insBrk code)
  | .ill _ two cls => some (insIll two cls)
  | _ => none

end Sys2Proof.Machine
end

