-- ==== Sys2Proof/Machine/Issue.lean ====
section
/-! DEFINITION. One instruction of a spoke: when it issues, what it does as a solo spoke, a leader or a follower, and what follows (R40,
R43 to R48, R57 to R69, R74, R117, R119, R260 to R263). The commands supply the instruction; its meaning is an `Ins`. -/
namespace Sys2Proof.Machine

/-! ## Whether it issues -/

/-- A destination or source waits for a response (R59). -/
def stalls (sp : Spoke) (i : Ins) : Bool := (i.reads ++ i.writes).any (regPending sp)

/-- A parcel of the program of a spoke's core. -/
def parcelAt (s : State) (g pc : Nat) : BitVec 14 :=
  (tget 0 s.progs (49152 * physCore s (coreOf g) + pc / 4)).extractLsb' (14 * (pc % 4)) 14

/-- The next instruction of a spoke, as its program stands. -/
def nextIns (s : State) (g : Nat) : Option Ins :=
  let pc := (spk s g).pc.toNat
  insOf (decodeParcels (Fin.ofNat 1664 g) (parcelAt s g pc) (parcelAt s g (pc + 1)))

/-- A spoke is ready: in RUN, with no stall for its next instruction (R44). -/
def ready (s : State) (g : Nat) : Bool := (spk s g).st == .run && !((nextIns s g).any (stalls (spk s g)))

/-- The elastic pool of a spoke: the elastic spokes of its core and way, in ascending index. -/
def poolOf (s : State) (g : Nat) : List Nat :=
  ((List.range 32).map (32 * coreOf g + ·)).filter fun h => (spk s h).elastic && (spk s h).poolB == (spk s g).poolB

/-- The spoke index most recently granted by the pool (R44). -/
def lastGrant (s : State) (g : Nat) : Nat :=
  match s.cores.toArray[physCore s (coreOf g)]? with
  | some k => if (spk s g).poolB then k.lastB else k.lastA
  | none => 31

/-- The pool as its rotation looks at it: from behind the most recently granted spoke, with wrap-around. -/
def rotation (s : State) (g : Nat) : List Nat :=
  (poolOf s g).filter (fun h => decide (lastGrant s g < h % 32)) ++ (poolOf s g).filter fun h => decide (h % 32 ≤ lastGrant s g)

/-- The spoke that the pool of g would grant a cycle: the first ready one, among urgent groups while one of them has a ready spoke (R44,
R45). The spoke g itself counts as ready: its instruction is at hand. -/
def granted (s : State) (g : Nat) : Option Nat :=
  let rs := (rotation s g).filter fun h => h == g || ready s h
  let us := rs.filter fun h => (groupOf s h).any fun k => (spk s k).urgent
  if us = [] then rs.head? else us.head?

/-- The pool's way offers it cycles: it has an ELASTIC entry, or a SPOKE entry with DONATE (R39, R43, R44). -/
def offers (s : State) (g : Nat) : Bool :=
  let p := physCore s (coreOf g)
  let b := (spk s g).poolB
  (List.range (ringLen s p b)).any fun i => let e := ringEntry s p b i; bits e 5 2 == 2 || (bits e 5 2 == 0 && bit e 7)

/-- The pool of an elastic spoke is offered cycles, and grants the next one to that spoke (R44, R45). -/
def poolOpen (s : State) (g : Nat) : Bool :=
  let sp := spk s g
  !sp.elastic || (!(s.pwr.dsSag || s.pwr.dsTherm || s.pwr.dsForced)
    && !flg s (0x14004 + 0x40 * physCore s (coreOf g)) 1 && offers s g && granted s g == some g)

/-- A pool's grant is recorded (R44), and counted where the group is urgent (R228). -/
def noteGrant (s : State) (g : Nat) : State :=
  let sp := spk s g
  if sp.elastic then
    let s := onCore s (physCore s (coreOf g)) fun k => if sp.poolB then { k with lastB := g % 32 } else { k with lastA := g % 32 }
    if (groupOf s g).any fun k => (spk s k).urgent then spokeEvent s g 0x10 else s
  else s

/-- The pair lets its member issue: it runs or replays, no mismatch is due; a leader behind a fault waits for its follower, and behind a
requested halt or stop too, save for the one unit of a STEP; a follower has a unit of its leader's to match (R62, R259, R263). -/
def pairOpen (s : State) (g : Nat) : Bool :=
  let ok (x : Pair) : Bool := (x.st == .running || x.st == .replay || x.st == .repairing) && !x.mismatch
  match member s g with
  | .solo => true
  | .leader p =>
    let x := pairAt s p
    ok x && !(x.gate.getLast?.any (·.isFault)) && ((spk s g).req.isNone || (spk s g).slot.isSome || x.nL == x.nF)
  | .follower p => ok (pairAt s p) && (decide ((pairAt s p).nF < (pairAt s p).nL) || (pairAt s p).gate != [])

/-- The spoke is eligible to issue (R37, R40, R343, R350); one that is to halt or stop issues no new unit while a response is on its way
(R62). -/
def canIssue (s : State) (g : Nat) : Bool :=
  let sp := spk s g
  live s && s.released && sp.listed && sp.st == .run && !s.avl.recovering.getLsbD (clusterOf g)
    && serves s (physCore s (coreOf g)) && poolOpen s g && pairOpen s g
    && (sp.req.isNone || sp.slot.isSome || sp.flight.isEmpty)

/-- The leader meets a full commit gate (R57, R261). -/
def gateFull (s : State) (g : Nat) : Bool :=
  match member s g with
  | .leader p => decide (16 ≤ (pairAt s p).gate.length)
  | _ => false

/-! ## Counters (R74, R228) -/

/-- The instruction that a spoke issues takes a sc of the bc at hand, with effect or without; the sc is charged as the bc ends (R74). -/
def useSlot (s : State) (g : Nat) (effect : Bool) : State :=
  onCore s (physCore s (coreOf g)) fun k => { k with used := k.used ++ [(g % 32, effect)] }

/-- A replay executes again what the spoke issues (R74, R263). -/
def executesAgain (s : State) (g : Nat) : Bool :=
  match (spk s g).pair with
  | some (p, _) => (pairAt s p).st != .running
  | none => false

/-- An instruction has completed with effect: the events that it counts (R228). -/
def countRetired (s : State) (g : Nat) : State :=
  if executesAgain s g then s
  else
    let s := spokeEvent s g 2
    if repn (spk s g).tsw ≠ 0 then spokeEvent s g 4 else s

/-- The instruction completes with effect, or is one that a replay executes again. -/
def retire (s : State) (g : Nat) : State := countRetired (useSlot s g (!executesAgain s g)) g

/-- The instruction completes: with its registers, its PC and its issue unit. -/
def finish (s : State) (g : Nat) (sp : Spoke) (parcels : Nat) : State := advance (retire s g) g sp parcels

/-- A fault at EX (R61, R74). -/
def issueFault (s : State) (g code detail : Nat) : State :=
  let s := useSlot s g false
  let s := if code = 0x11 then { s with cad := { s.cad with ownerRef := true } } else s
  let s := exFault s g code detail
  if (spk s g).st = .stopped ∨ faultDue (spk s (front s g)) then spokeEvent s (front s g) 0x15 else s

/-! ## Effects, inputs and waits of solo spokes, leaders and followers -/

/-- A spoke blocks: its instruction has issued; a halt or a stop that waits for the boundary then abandons it at once (R48, R327). -/
def block (s : State) (g : Nat) (w : Wait) : State :=
  let s := useSlot s g (!executesAgain s g)
  let s := enter s g { spk s g with wait := some w } .blocked
  match (spk s (front s g)).req with
  | some r =>
    if atBoundary s g then
      let s := { s with dbg := { s.dbg with runBlock := s.dbg.runBlock || r == .halt } }
      if drained s g then applyReq s g r else (together s g).foldl (unblock r) s
    else s
  | none => s

/-- A g register that a result will reach shows pending, save g0. -/
def pend (sp : Spoke) (rd : GReg) : Spoke := if rd = 0 then sp else { sp with stuck := sp.stuck ++ [.g rd] }

/-- The leader's register takes a result that came when its effect was released. -/
def settleResult (s : State) (g : Nat) (rd : GReg) (w : Word) : State :=
  let sp := spk s g
  setSpk s g (wg { sp with stuck := sp.stuck.erase (.g rd) } rd w)

/-- The checksum of the next effect of a spoke has been spent. -/
def spendCheck (s : State) (g : Nat) : State := setSpk s g { spk s g with badCheck := false }

/-- The landing unit cancels an effect whose checksum does not match: an unpaired spoke stops with COMMIT_CHK, a pair has met a mismatch
(R258, R263). -/
def badEffect (s : State) (g : Nat) : State :=
  match member s g with
  | .solo => issueFault (avlStat (spendCheck s g) (clusterOf g) 7) g 0x22 0
  | .leader p | .follower p => mismatch (spendCheck s g) p

/-- An effect with no result. -/
def doEmit (s : State) (g : Nat) (sp : Spoke) (e : Effect) (n : Nat) : State :=
  if sp.badCheck then badEffect s g
  else match member s g with
  | .solo =>
    let s := (perform s g sp.pc e).1
    finish s g (startUnit (spk s g)) n
  | .leader p => finish (gatePush s p e) g (startUnit sp) n
  | .follower p =>
    match gateMeet s p sp.pc e with
    | .released s _ | .old s => finish s g (startUnit (spk s g)) n
    | .other => mismatch s p

/-- What a solo spoke's request answers. -/
def soloAnswer (s : State) (g : Nat) (a : Ans) (addr : Nat) (rd : GReg) (n : Nat) : State :=
  let sp := spk s g
  match a with
  | .word w => finish s g (wg (startUnit sp) rd w) n
  | .queued => block s g (.lock addr rd)
  | .failed => finish s g (pend (startUnit sp) rd) n
  | .none => finish s g (startUnit sp) n

/-- The address of a lock request that may block. -/
def lockAddr : Effect → Option Nat
  | .lockReq 0 a _ => some a
  | _ => none

/-- The status of a request of a pair reaches the leader and the follower (R186, R260): a leader blocked in LCK completes. -/
def pairAnswer (s : State) (p g : Nat) (lck : Bool) (rd : GReg) (w : Word) (n : Nat) : State :=
  let x := pairAt s p
  let l := x.leader.toNat
  let s := logInput s p 4 x.nF (w.setWidth 256) false false
  let s := if lck then completeBlocked s l fun sp => wg sp rd w else settleResult s l rd w
  finish s g (wg (startUnit (spk s g)) rd w) n

/-- An effect with a result. -/
def doAsk (s : State) (g : Nat) (sp : Spoke) (e : Effect) (rd : GReg) (n : Nat) : State :=
  if sp.badCheck then badEffect s g
  else match member s g with
  | .solo =>
    let r := perform s g sp.pc e
    soloAnswer r.1 g r.2 ((lockAddr e).getD 0) rd n
  | .leader p =>
    let x := pairAt s p
    let s := gatePush s p e
    match inputAt x x.nL, lockAddr e with
    | some i, _ => finish s g (wg (startUnit sp) rd (i.data.setWidth 32)) n
    | none, some a => block s g (.lock a rd)
    | none, none => finish s g (pend (startUnit sp) rd) n
  | .follower p =>
    match gateMeet s p sp.pc e with
    | .other => mismatch s p
    | .old s' =>
      match inputAt (pairAt s' p) (pairAt s' p).nF, lockAddr e with
      | some i, _ => finish s' g (wg (startUnit (spk s' g)) rd (i.data.setWidth 32)) n
      | none, some a => block s' g (.lock a rd)
      | none, none => s
    | .released s' a =>
      match a with
      | .word w => pairAnswer s' p g (lockAddr e).isSome rd w n
      | .queued =>
        let x := pairAt s' p
        block (setPair s' p { x with lockSeq := some x.nF }) g (.lock ((lockAddr e).getD 0) rd)
      | _ => finish s' g (pend (startUnit (spk s' g)) rd) n

/-- A register takes the low bytes of a register image. -/
def writeDest (sp : Spoke) (d : LoadDest) (v : MemWord) : Spoke :=
  match d with
  | .g r => wg sp r (v.setWidth 32)
  | .v r => { sp with v := sp.v.set r v }

/-- The destination that shows pending; a load into g0 has none. -/
def destOf (d : LoadDest) : Option LoadDest := if d = .g 0 then none else some d

/-- The load leaves for the bank or the register fabric; a bank's owner is checked at its port (R159, R162). -/
def sendLoad (s : State) (g : Nat) (sp : Spoke) (l : LoadAsk) (seq n : Nat) : State :=
  let ws := wordsOf l.addr l.size
  let no := if l.device then [] else refusing s (clusterOf g) ws false
  let split := decide (ws.length = 2) && !l.device
  let f : Flight := {
    device := l.device, dest := destOf l.dest
    data := if l.device then 0 else BitVec.ofNat 256 (leNat (getBytes s.mem.cells l.addr l.size))
    sx := l.sx, tear := l.tears && split, err := no != [], pc := sp.pc, seq := seq
    words := if l.device then [] else ws, addr := l.addr, size := l.size, behind := (pendingEffects s g).length }
  let s := no.foldl (fun s b => noteNown s (clusterOf g) b) s
  let s := spokeEvent s g 0xC
  let s := if split then spokeEvent s g 0xE else s
  let u := startUnit sp
  finish s g { u with flight := u.flight ++ [f], resv := if l.link ∧ no = [] then some (l.addr / 32) else u.resv } n

/-- A load. -/
def doLoad (s : State) (g : Nat) (sp : Spoke) (l : LoadAsk) (n : Nat) : State :=
  match member s g with
  | .solo => sendLoad s g sp l 0 n
  | .leader p =>
    let x := pairAt s p
    match inputAt x x.nL with
    | some i =>
      let u := startUnit sp
      finish s g (writeDest { u with resv := if l.link then some (l.addr / 32) else u.resv } l.dest i.data) n
    | none => sendLoad s g sp l x.nL n
  | .follower p =>
    match inputAt (pairAt s p) (pairAt s p).nF with
    | some i => finish s g (writeDest (startUnit sp) l.dest i.data) n
    | none => s

/-- A word read from a channel: the register, EOM and CHE (R51). -/
def takeWord (sp : Spoke) (rd : GReg) (w : Word) (eom che : Bool) : Spoke := wg { sp with tsw := tswRead sp.tsw eom che } rd w

/-- The word leaves the FIFO, as an input of a leader (R51, R260). -/
def popFor (s : State) (g ch : Nat) : Option (ChanWord × State) :=
  match popWord s ch with
  | none => none
  | some (w, s) =>
    let s := spokeEvent s g 0x14
    match member s g with
    | .leader p => some (w, logInput s p 4 (pairAt s p).nL (w.word.setWidth 256) w.last w.trunc)
    | _ => some (w, s)

/-- IN and WAITP (R33, R51). -/
def doTake (s : State) (g : Nat) (sp : Spoke) (ch : Nat) (rd : GReg) (waitp : Bool) (n : Nat) : State :=
  let logged := match member s g with
    | .solo => none
    | .leader p => inputAt (pairAt s p) (pairAt s p).nL
    | .follower p => inputAt (pairAt s p) (pairAt s p).nF
  match logged with
  | some i => finish s g (takeWord (startUnit sp) rd (i.data.setWidth 32) i.eom i.che) n
  | none =>
    match member s g with
    | .follower _ => s
    | _ =>
      match popFor s g ch with
      | some (w, s) => finish s g (takeWord (startUnit sp) rd w.word w.last w.trunc) n
      | none => block s g (if waitp then .position ch rd else .input ch rd)

/-- POST and POSTU (R50): a follower never waits, and neither does a leader whose write was released before. -/
def doClose (s : State) (g : Nat) (sp : Spoke) (ch : Nat) (w : Word) (urgent : Bool) (n : Nat) : State :=
  let free := match member s g with
    | .solo => closeFits s g ch
    | .leader p => wasReleased (pairAt s p) || closeFits s g ch
    | .follower _ => true
  if free then doEmit (spokeEvent s g 0x13) g sp (.close ch w urgent) n else block s g (.closing ch w urgent)

/-- CKPT (R262): a leader waits until nothing is pending, and the previous capture has been met and stored. -/
def doCkpt (s : State) (g : Nat) (sp : Spoke) (n : Nat) : State :=
  match member s g with
  | .leader p =>
    if quiet sp ∧ (pairAt s p).pend.isNone ∧ (pairAt s p).storing = 0 then
      let s := pairUnit (setSpk (retire s g) g (endUnit sp n)) g
      settle (captureLeader s p) g
    else s
  | _ => finish s g sp n

/-- PSYNC (R73): the fetch buffer is emptied, once the spoke's latest PST has committed: a leader waits for its gate to release it. -/
def doPsync (s : State) (g : Nat) (sp : Spoke) (n : Nat) : State :=
  if (pendingEffects s g).any (·.isProgram) then s else finish s g { startUnit sp with stale := false } n

/-- STOP of the issuing spoke, at the end of this unit (R48, R62); a pair's when the follower has met it. -/
def doStopSelf (s : State) (g : Nat) (sp : Spoke) (n : Nat) : State :=
  match member s g with
  | .follower _ => finish s g sp n
  | _ => finish s g { sp with req := some (.stop .own) } n

/-- Software breaks are enabled for the spoke's logical core (R95, R335). -/
def brkEnabled (s : State) (g : Nat) : Bool :=
  s.pwr.vdbgGood && (if coreOf g < 32 then flg s 0x305C (coreOf g) else coreOf g < 48 && flg s 0x3060 (coreOf g - 32))

/-- BRK (R95, R335). -/
def doBrk (s : State) (g : Nat) (code : Nat) : State :=
  if brkEnabled s (front s g) then request s g .halt else issueFault s g 0x12 code

/-- REP: the iteration count starts (R116, R117). -/
def doRep (s : State) (g : Nat) (sp : Spoke) (n : Nat) : State :=
  settle (pairUnit (setSpk (retire s g) g { sp with pc := sp.pc + 1, tsw := setRepn sp.tsw n }) g) g

/-- A branch issues: its delay slot is due (R67). -/
def doJump (s : State) (g : Nat) (sp : Spoke) (d : DelaySlot) (n : Nat) : State :=
  let s := retire s g
  setSpk (if d.target.isSome then spokeEvent s g 5 else s) g { sp with slot := some d, pc := sp.pc + BitVec.ofNat 18 n }

/-- A follower that has matched every unit of its leader may only meet a blocked lock request or a fault (R259, R263). -/
def astray (s : State) (g : Nat) (a : Act) : Option Nat :=
  match member s g with
  | .follower p =>
    if (pairAt s p).nF < (pairAt s p).nL then none
    else match a with
      | .fault _ _ => none
      | .ask e _ _ => if (lockAddr e).isSome then none else some p
      | _ => some p
  | _ => none

/-- The comparators see what a store or a load shows: its address at EX, a store's data at CM (R332). -/
def watchAct (s : State) (g : Nat) (pc : BitVec 18) (a : Act) : State :=
  match a with
  | .emit _ (some (addr, n, v)) | .ask _ _ (some (addr, n, v)) =>
    let l : Look := { pc := pc, acc := some (false, addr, n), val := some v }
    watch (watch s g 2 l) g 3 l
  | .load l => watch s g 2 { pc := pc, acc := some (true, l.addr, l.size) }
  | _ => s

/-- What an instruction does, carried out. -/
def doAct (s : State) (g : Nat) (sp : Spoke) (n : Nat) (a : Act) : State :=
  match a with
  | .done sp => finish s g sp n
  | .fault c d => issueFault s g c d
  | .emit e _ => doEmit (match e with | .stage _ _ => spokeEvent s g 0x13 | _ => s) g sp e n
  | .ask e rd _ => doAsk s g sp e rd n
  | .load l => doLoad s g sp l n
  | .take ch rd waitp => doTake s g sp ch rd waitp n
  | .close ch w u => doClose s g sp ch w u n
  | .jump d => doJump s g sp d n
  | .rep k => doRep s g sp k
  | .stopSelf => doStopSelf s g (startUnit sp) n
  | .ckpt => doCkpt s g sp n
  | .psync => doPsync s g sp n
  | .brk c => doBrk s g c

/-- The spoke as it stands at EX: a call has written g15 with the address behind its delay slot (R67, R90). -/
def linked (sp : Spoke) (n : Nat) : Spoke :=
  match sp.slot with
  | some ⟨_, _, _, true⟩ => wg sp 15 ((sp.pc + BitVec.ofNat 18 n).setWidth 32)
  | _ => sp

/-- The fault that an instruction meets at EX comes first in the order of R98: ILLEGAL_OP, then REP_TARGET of what a REP repeats, then
PROG_ADDR of a second parcel behind the program memory, then the instruction's own. -/
def atEx (sp : Spoke) (i : Ins) (a : Act) : Act :=
  if a = .fault 1 0 then a
  else if repn sp.tsw ≠ 0 ∧ (i.cls = .branch ∨ i.cls = .repCkptStop) then .fault 0xD 0
  else if sp.pc.toNat + i.parcels > 0x30000 then .fault 2 0
  else a

/-- The instruction reads a register whose parity is wrong (R258). -/
def badRead (sp : Spoke) (i : Ins) : Bool := i.reads.any fun r => sp.badRegs.contains r

/-- A parity error at a register read (R258): an unpaired spoke stops with REGFILE, a pair has met a mismatch (R263). -/
def badRegister (s : State) (g : Nat) : State :=
  match member s g with
  | .solo => issueFault (avlStat s (clusterOf g) 7) g 0x23 0
  | .leader p | .follower p => mismatch s p

/-- The registers that an instruction writes get good parity with their new values (R258). -/
def mend (s : State) (g : Nat) (i : Ins) (a : Act) : State :=
  let sp := spk s g
  match a with
  | .fault _ _ => s
  | _ => if sp.badRegs = [] then s else setSpk s g { sp with badRegs := sp.badRegs.filter fun r => !i.writes.contains r }

/-- The instruction at IS and EX, past the program-address comparators. -/
def execute (s : State) (g : Nat) (i : Ins) : State :=
  let sp := spk s g
  if (sp.slot.any (·.annul)) then advance (useSlot (noteGrant s g) g false) g sp i.parcels
  else if stalls sp i then s
  else if i.effect ∧ gateFull s g then s
  else
    let s := noteGrant s g
    let sp' := linked sp i.parcels
    let a := atEx sp i (i.run s g (startUnit sp'))
    if badRead sp i then badRegister s g
    else match astray s g a with
      | some p => mismatch s p
      | none => mend (watchAct (doAct (setSpk s g sp') g sp' i.parcels a) g sp.pc a) g i a

/-- One instruction of spoke g. It does not come about where the spoke cannot issue, or where a due delay slot calls for another class
of instruction (log entry 1). -/
def issue (s : State) (g : Nat) (i : Ins) : State :=
  let sp := spk s g
  if ¬ canIssue s g ∨ (sp.slot.isSome ∧ i.cls ≠ .plain) then s
  else if 0x30000 ≤ sp.pc.toNat then issueFault s g 2 0
  else
    let s := watch s g 1 { pc := sp.pc }
    if (spk s g).st ≠ .run ∨ ((spk s g).req ≠ sp.req ∧ sp.slot.isNone) then s else execute s g i

end Sys2Proof.Machine
end

