-- ==== Sys2Proof/Machine/SpokeEvents.lean ====
section
/-! DEFINITION. What reaches a spoke after its instruction has issued: load results, error responses, and the ends of waits in IN, WAITP
and closing writes (R51, R52, R61, R84, R162, R260, R331). -/
namespace Sys2Proof.Machine

/-- The spoke without the first response that a predicate selects. -/
def dropFlight (sp : Spoke) (p : Flight → Bool) : Spoke := { sp with flight := sp.flight.eraseP p }

/-- The register image of a load: sign-extended where SX is set (R86). -/
def registerImage (f : Flight) (d : MemWord) : MemWord :=
  if f.sx then (BitVec.ofInt 32 ((d.setWidth (8 * f.size)).toInt)).setWidth 256 else d

/-- The result of a fed instruction has come: INSN_STAT.DONE (R331). -/
def feedSettled (s : State) (g : Nat) : State :=
  if s.dbg.feed = some g ∧ quiet (spk s g) then { s with dbg := { s.dbg with feed := none, insnStat := 1 } } else s

/-- A load result arrives: the register, the replay buffer of a pair, and the data-value comparators, which see
nothing of a fed instruction (R61, R260, R331, R332). -/
def deliverLoad (s : State) (g : Nat) (p : Flight → Bool) (f : Flight) (d : MemWord) : State :=
  let v := registerImage f d
  let sp := dropFlight (spk s g) p
  let s := setSpk s g (match f.dest with | some t => writeDest sp t v | none => sp)
  let s := match member s g with
    | .leader q =>
      if s.dbg.feed = some g then
        let h := (pairAt s q).follower.toNat
        (match f.dest with | some t => setSpk s h (writeDest (spk s h) t v) | none => s)
      else logInput s q f.size f.seq v false false
    | _ => s
  let s := if s.dbg.feed = some g then s
    else watch s g 3 { pc := f.pc, acc := some (true, f.addr, f.size), val := some (v.setWidth 32) }
  settle (feedSettled s g) g

/-- The response turns out to be an error: its fault is due (R61). -/
def failFlight (s : State) (g : Nat) (p : Flight → Bool) (f : Flight) : State :=
  let sp := dropFlight (spk s g) p
  setSpk s g { sp with flight := sp.flight ++ [{ f with err := true }] }

/-- A bank load under way, with no effect of its own spoke still held before it (R163). -/
def bankLoad (f : Flight) : Bool := !f.device && !f.err && f.behind == 0
/-- A device load under way, with no effect of its own spoke still held before it (R84). -/
def deviceLoad (f : Flight) : Bool := f.device && !f.err && f.behind == 0
/-- An error response. -/
def errorResponse (f : Flight) : Bool := f.err

/-- What a load brings: the bytes that it took, but those of a wrong word that the decoder delivers (R167). -/
def seenData (s : State) (f : Flight) (o : MemOutcome) : MemWord :=
  let wrong (w : Nat) : Option MemWord := wrongWord s w (if f.words.head? = some w then o.lo else o.hi)
  if f.words.all fun w => (wrong w).isNone then f.data
  else BitVec.ofNat 256 (leNat ((List.range f.size).map fun i =>
    match wrong ((f.addr + i) / 32) with
    | some d => d.extractLsb' (8 * ((f.addr + i) % 32)) 8
    | none => f.data.extractLsb' (8 * i) 8))

/-- LOAD_COMPLETE (R162, R168). -/
def execLoadComplete (g : SpokeId) (o : MemOutcome) (s : State) : Out :=
  match (spk s g.val).flight.find? bankLoad with
  | none => .next s
  | some f =>
    act (live s) s
      (match readWords s (clusterOf g.val) false f.words o with
       | (t, true) => deliverLoad t g.val bankLoad f (seenData s f o)
       | (s, false) => failFlight s g.val bankLoad f)

/-- DEVICE_LOAD_COMPLETE (R84): the register fabric serves the read. -/
def execDeviceLoadComplete (g : SpokeId) (s : State) : Out :=
  match (spk s g.val).flight.find? deviceLoad with
  | none => .next s
  | some f =>
    act (live s) s
      (match deviceRead s g.val f.addr with
       | (s, some w) => deliverLoad s g.val deviceLoad f (w.setWidth 256)
       | (s, none) => failFlight s g.val deviceLoad f)

/-- A failed load's destination stays pending (R61). -/
def leaveStuck (s : State) (g : Nat) (f : Flight) : State :=
  let sp := dropFlight (spk s g) errorResponse
  setSpk s g { sp with stuck := match f.dest with | some d => sp.stuck ++ [d] | none => sp.stuck }

/-- The deferred fault of a spoke or pair (R61): the destination stays pending and the PC of the access is kept. One whose spoke has met a
fault already, and only waits for what is in flight, adds nothing (log entry 59). -/
def deferredStop (s : State) (g : Nat) (f : Flight) : State :=
  let s := leaveStuck s g f
  if faultDue (spk s (front s g)) then settle s g
  else
    let s := (together s g).foldl (fun s h => setSpk s h { spk s h with failPc := some f.pc }) s
    spokeEvent (faultAtBoundary s g 9 0) g 0x15

/-- DEFERRED_FAULT (R61). A fed instruction's is its outcome (R331); one that reaches a stopped spoke changes nothing further. -/
def execDeferredFault (g : SpokeId) (s : State) : Out :=
  let g := g.val
  let sp := spk s g
  match sp.flight.find? errorResponse with
  | none => .next s
  | some f =>
    if s.dbg.feed = some g then
      act (live s) s
        { setSpk s g (dropFlight sp errorResponse) with
          dbg := { s.dbg with feed := none, insnStat := BitVec.ofNat 12 (8 + 9 * 16) } }
    else if sp.st = .stopped ∨ sp.st = .deferred then act (live s) s (setSpk s g (dropFlight sp errorResponse))
    else act (live s && !inReplay s g) s (deferredStop s g f)

/-- IN_WAKE (R51): the word is taken and the spoke becomes eligible, which makes its group urgent where an urgent message came (R45). -/
def wakeIn (s : State) (g ch : Nat) (rd : GReg) : State :=
  match popFor s g ch with
  | none => s
  | some (w, s) => countRetired (completeBlocked s g fun sp => takeWord sp rd w.word w.last w.trunc) g

/-- IN_WAKE. -/
def execInWake (g : SpokeId) (s : State) : Out :=
  let sp := spk s g.val
  match sp.st, sp.wait with
  | .blocked, some (.input ch rd) | .blocked, some (.position ch rd) =>
    act (live s && !s.avl.recovering.getLsbD (clusterOf g.val) && (spk s (front s g.val)).req.isNone) s (wakeIn s g.val ch rd)
  | _, _ => .next s

/-- POST_WAKE (R52): the whole message moves; a leader's closing write enters its gate. -/
def wakePost (s : State) (g ch : Nat) (w : Word) (urgent : Bool) : State :=
  let s := spokeEvent s g 0x13
  let s := match member s g with
    | .leader p => gatePush s p (.close ch w urgent)
    | _ => closeMessage s ch w urgent
  countRetired (completeBlocked s g id) g

/-- POST_WAKE. -/
def execPostWake (g : SpokeId) (s : State) : Out :=
  let sp := spk s g.val
  match sp.st, sp.wait with
  | .blocked, some (.closing ch w urgent) =>
    act (live s && !s.avl.recovering.getLsbD (clusterOf g.val) && (spk s (front s g.val)).req.isNone && closeFits s g.val ch) s (wakePost s g.val ch w urgent)
  | _, _ => .next s

end Sys2Proof.Machine
end

