-- ==== Sys2Proof/Machine/Feed.lean ====
section
/-! DEFINITION. Instructions fed by the debugger (R331). -/
namespace Sys2Proof.Machine

/-- The feed's outcome: INSN_STAT. -/
def fedStat (s : State) (v : Nat) : State := { s with dbg := { s.dbg with insnStat := BitVec.ofNat 12 v } }
/-- DONE. -/
def fedDone (s : State) : State := fedStat s 1
/-- REFUSED: nothing issues. -/
def fedRefused (s : State) : State := fedStat s 2
/-- WOULDBLOCK: no effect. -/
def fedBlocks (s : State) : State := fedStat s 4
/-- FAULT with its code: no effect, no report. -/
def fedFault (s : State) (code : Nat) : State := fedStat s (8 + 16 * code)
/-- A result is still due. -/
def fedWaits (s : State) (g : Nat) : State := { fedStat s 0 with dbg := { (fedStat s 0).dbg with feed := some g } }

/-- Registers of a spoke and of its pair's other member take the same value. -/
def fedWrite (s : State) (g : Nat) (f : Spoke → Spoke) : State := (together s g).foldl (fun s h => setSpk s h (f (spk s h))) s

/-- An effect that a fed instruction produces: performed once, at the leader of a pair. -/
def fedPerform (s : State) (g : Nat) (e : Effect) (rd : GReg) : State :=
  match perform s g (spk s g).pc e with
  | (s', .word w) => fedDone (fedWrite s' g fun sp => wg sp rd w)
  | (s', .none) => fedDone s'
  | (_, .queued) => fedBlocks s
  | (s', .failed) => fedWaits (setSpk s' g (pend (spk s' g) rd)) g

/-- What a fed instruction does at EX (R331): PC and REPN stay, and no comparator sees it. -/
def fedAct (s : State) (g : Nat) (i : Ins) (a : Act) : State :=
  match a with
  | .done _ =>
    fedDone ((together s g).foldl (fun s h => match i.run s h (spk s h) with | .done sp => setSpk s h sp | _ => s) s)
  | .fault c _ => fedFault s c
  | .emit e _ => fedPerform s g e 0
  | .ask e rd _ => fedPerform s g e rd
  | .load l =>
    let ws := wordsOf l.addr l.size
    let no := if l.device then [] else refusing s (clusterOf g) ws false
    let f : Flight := {
      device := l.device, dest := destOf l.dest
      data := if l.device then 0 else BitVec.ofNat 256 (leNat (getBytes s.mem.cells l.addr l.size))
      sx := l.sx, tear := l.tears && ws.length == 2 && !l.device, err := no != [], pc := (spk s g).pc, seq := 0
      words := if l.device then [] else ws, addr := l.addr, size := l.size, behind := (pendingEffects s g).length }
    let s := no.foldl (fun s b => noteNown s (clusterOf g) b) s
    let sp := spk s g
    fedWaits (setSpk s g { sp with
      flight := sp.flight ++ [f], resv := if l.link ∧ no = [] then some (l.addr / 32) else sp.resv }) g
  | .take ch rd _ =>
    match popWord s ch with
    | some (w, s) => fedDone (fedWrite s g fun sp => takeWord sp rd w.word w.last w.trunc)
    | none => fedBlocks s
  | .close ch w u => if closeFits s g ch then fedPerform s g (.close ch w u) 0 else fedBlocks s
  | .psync => fedDone (fedWrite s g fun sp => { sp with stale := false })
  | _ => fedRefused s

/-- A write of DBG_INSN for a spoke: both parcels. -/
def feedInsn (s : State) (g : Nat) (p1 p2 : BitVec 14) : State :=
  let g := front s g
  match insOf (decodeParcels (Fin.ofNat 1664 g) p1 p2) with
  | none => fedRefused s
  | some i =>
    let sp := spk s g
    if sp.st ≠ .halted ∨ s.dbg.feed.isSome ∨ i.cls = .branch ∨ i.cls = .repCkptStop then fedRefused s
    else if stalls sp i then fedStat s 0
    else fedAct s g i (i.run s g sp)

end Sys2Proof.Machine
end

