-- ==== Sys2Proof/Machine/DebugPort.lean ====
section
/-! DEFINITION. The debug wire: sessions, authentication, frames, run control, the terminal and reset on DRW (R316 to R331, R336 to
R339). -/
namespace Sys2Proof.Machine

/-- The debug domain's record changed. -/
def onDbg (s : State) (f : Debug → Debug) : State := { s with dbg := f s.dbg }

/-- DBG_STAT records an event. -/
def dbgStat (s : State) (i : Nat) : State := orReg s 0x3008 ((1 : Word) <<< i)

/-! ## Halts and their release (R326 to R329) -/

/-- A spoke leaves HALTED for a state; its watchdog takes its full period and its locks are held again (R190, R268). -/
def unhaltOne (s : State) (g : Nat) (st : SpokeState) : State :=
  feedSpoke (markHalted (enter s g (spk s g) st) (lockIdSpoke s g) false) g

/-- A MAINT = 0 that waited for the pair's release takes effect (R329). -/
def dropMaint (s : State) (g : Nat) : State :=
  match (spk s g).pair with
  | some (p, _) =>
    let x := pairAt s p
    if x.maintDrop then setPair s p { x with maint := false, maintDrop := false } else s
  | none => s

/-- RELEASE of a halted spoke or pair: to the kept prior state. -/
def releaseHalt (s : State) (g : Nat) : State :=
  dropMaint ((together s g).foldl (fun s h => if (spk s h).st = .halted then unhaltOne s h (spk s h).prior else s) s) g

/-- RUN of a halted spoke or pair at its PC; one that was parked starts as RELEASE does (R47). -/
def runHalted (s : State) (g : Nat) : State :=
  let parked := (spk s g).prior = .stopped ∨ (spk s g).prior = .deferred
  let s := dropMaint ((together s g).foldl (fun s h => if (spk s h).st = .halted then unhaltOne s h .run else s) s) g
  if parked then releaseTarget s g else s

/-- STEP: one issue unit, then the halt that waits for its boundary. -/
def stepHalted (s : State) (g : Nat) : State :=
  let s := (together s g).foldl (fun s h => unhaltOne s h .run) s
  setSpk s (front s g) { spk s (front s g) with req := some .halt }

/-! ## Run control (R326 to R330) -/

/-- The commands of DBG_RUN_CMD. -/
inductive RunCmd where
  | halt | release | run | step | kill
  deriving DecidableEq, Repr

/-- The result codes: done, pending, not applicable. -/
def resDone : Nat := 0
def resPending : Nat := 1
def resNotApplicable : Nat := 5

/-- The result field and what the view needs to tell DONE. -/
def runResult (s : State) (r : Nat) : State :=
  onDbg s fun d => { d with runRes := BitVec.ofNat 3 r, runDone := r == resDone, runBlock := false }

/-- The state before the command is kept for the result (R339). -/
def notePrior (s : State) (g : Nat) : State := onDbg s fun d => { d with runPrior := BitVec.ofNat 3 (stateCode (spk s g).st) }

/-- A command on one spoke or pair whose rules let it pass: the state and the result. -/
def runOne (s : State) (g : Nat) (c : RunCmd) : State × Nat :=
  let st := (spk s g).st
  let parked : Bool := st == .stopped || st == .deferred
  let active : Bool := st == .run || st == .blocked
  match c with
  | .halt =>
    if st = .halted then (s, resDone)
    else
      let s := request s g .halt
      (s, if (spk s g).st = .halted then resDone else resPending)
  | .release => if st = .halted then (releaseHalt s g, resDone) else (s, resNotApplicable)
  | .run =>
    if st = .halted then (runHalted s g, resDone)
    else if parked then (releaseTarget s g, resDone)
    else (s, resNotApplicable)
  | .step => if st = .halted then (stepHalted s g, resPending) else (s, resNotApplicable)
  | .kill =>
    if active ∨ st = .halted then
      let s := request (dbgStat s 12) g (.stop .kill)
      (s, if (spk s g).st = .stopped then resDone else resPending)
    else (s, resNotApplicable)

/-- HALT, STEP and KILL need the maintenance of a pair or a core (R328, R329). -/
def intrusive : RunCmd → Bool
  | .halt | .step | .kill => true
  | _ => false

/-- A command on a spoke or a pair. -/
def runSpoke (s : State) (g : Nat) (c : RunCmd) : State :=
  let s := notePrior s g
  if ¬ (spk s g).listed then runResult s resNotApplicable
  else if intrusive c ∧ ¬ pairInMaint s g then runResult s 2
  else if intrusive c ∧ inReplay s g then runResult (runOne s g c).1 6
  else
    let r := runOne s g c
    runResult r.1 r.2

/-- A command on a logical core: on every spoke of it to which it applies (R328). -/
def runCore (s : State) (l : Nat) (c : RunCmd) : State :=
  let gs := listedSpokes s (· == l)
  let refusal := if intrusive c then coreHaltRefusal s l else 0
  if refusal ≠ 0 then runResult s refusal
  else
    let s := match c with
      | .halt => haltCore s l
      | .release | .run => onDbg s fun d => { d with coreHalts := d.coreHalts.filter (· != l) }
      | _ => s
    let one (a : State × Nat) (g : Nat) : State × Nat :=
      let r := runOne a.1 g c
      (r.1, if r.2 = resPending then resPending else if a.2 = resPending then a.2 else min a.2 r.2)
    let r := gs.foldl one (s, resNotApplicable)
    runResult r.1 r.2

/-- The command on the target of DBG_RUN_SEL. -/
def runTarget (s : State) (c : RunCmd) : State :=
  let n := bits s.dbg.runSel 2 11
  match bits s.dbg.runSel 0 2 with
  | 0 => runSpoke s n c
  | 1 => if n < 52 then runCore s n c else runResult s resNotApplicable
  | 2 => runSpoke s (pairAt s n).leader.toNat c
  | _ => runResult s resNotApplicable

/-- A write of DBG_RUN_CMD: more than one bit is refused with 0x5, and so is KILL under NOKILL. -/
def runCmd (s : State) (v : Nat) : State :=
  match v with
  | 0 => s
  | 1 => runTarget s .halt
  | 2 => runTarget s .release
  | 4 => runTarget s .run
  | 8 => runTarget s .step
  | 16 => if flg s 0x300C 2 then runResult s resNotApplicable else runTarget s .kill
  | _ => runResult s resNotApplicable

/-- The spokes that DBG_RUN_PC and DBG_INSN mean: one spoke, or both of a pair. -/
def selSpokes (s : State) : List Nat :=
  let n := bits s.dbg.runSel 2 11
  match bits s.dbg.runSel 0 2 with
  | 0 => [n]
  | 2 => [(pairAt s n).leader.toNat, (pairAt s n).follower.toNat]
  | _ => []

/-- A write of DBG_RUN_PC (R330). -/
def writeRunPc (s : State) (v : Word) : State :=
  let keep := bit v 31
  (selSpokes s).foldl (fun s g =>
    let sp := spk s g
    if sp.st = .halted then
      setSpk s g { sp with pc := v.setWidth 18, tsw := if keep then sp.tsw else setRepn sp.tsw 0 }
    else s) (onDbg s fun d => { d with keepRep := keep })

/-- The spokes of the target of DBG_RUN_SEL. -/
def targetSpokes (s : State) : List Nat := if bits s.dbg.runSel 0 2 = 1 then listedSpokes s (· == bits s.dbg.runSel 2 11) else selSpokes s

/-- DBG_RUN_STAT: a pending command is done once the target is parked. -/
def runStatWord (s : State) : Word :=
  let parked := (targetSpokes s).all fun g => (spk s g).st == .halted || (spk s g).st == .stopped
  let ended := s.dbg.runRes.toNat == resPending && parked
  orAll [if ended then 0 else s.dbg.runRes.toNat, b2n (s.dbg.runDone || ended) * 8, s.dbg.runPrior.toNat * 16, b2n s.dbg.runBlock * 128]

/-! ## Sessions and authentication (R317, R323, R324) -/

/-- A session starts with its first valid frame. -/
def startSession (s : State) : State :=
  if s.dbg.session then s
  else dbgStat (onDbg s fun d => { d with session := true, level := BitVec.ofNat 2 (fld s 0x3010 0 2) }) 8

/-- A session ends (R324). -/
def endSession (s : State) : State :=
  let halted := (s.spokes.filter fun e => e.2.st == .halted).map (·.1)
  let s' := dbgStat (onDbg (setFreeze s false) fun d =>
    { d with session := false, key1 := false, quiet := 0, level := BitVec.ofNat 2 (fld s 0x3010 0 2) }) 8
  if flg s 0x300C 1 ∧ halted ≠ [] then
    dbgStat (halted.foldl releaseHalt (onDbg s' fun d => { d with coreHalts := [] })) 13
  else s'

/-- DBG_AUTH_CMD.NEW (R323). -/
def newChallenge (s : State) : State :=
  let c := Sys2Proof.Config.entropy s.free
  { s with free := s.free + 1, dbg := { s.dbg with challenge := some c, challengeShown := c } }

/-- The response that a CHECK expects: 16 challenge bytes, BLK_ID, the level as 4 bytes (R323). -/
def expected (s : State) (c : BitVec 128) (key : BitVec 256) (level : Nat) : BitVec 128 :=
  (Sys2Proof.Config.hmacSha384 key (toBytes 16 c.toNat ++ toBytes 4 (viewReg s .host 0).toNat ++ toBytes 4 level)).setWidth 128

/-- The response words as one value. -/
def responseOf (d : Debug) : BitVec 128 := d.response[3] ++ d.response[2] ++ d.response[1] ++ d.response[0]

/-- DBG_AUTH_CMD.CHECK (R323): none where it is refused after a failure. -/
def checkResponse (s : State) (level : Nat) : Option State :=
  if s.dbg.lockLeft ≠ 0 then none
  else
    let good := match s.dbg.challenge, Sys2Proof.Config.otpDebugKey with
      | some c, some k => expected s c k level == responseOf s.dbg
      | _, _ => false
    let s := onDbg s fun d => { d with challenge := none }
    some (if good then onDbg s fun d => { d with level := BitVec.ofNat 2 (min level (fld s 0x3010 2 2)) }
      else dbgStat (satReg (onDbg s fun d => { d with lockLeft := 1000000000 }) 0x3058 16 16) 9)

/-- A write of DBG_AUTH_CMD, its bits in ascending order. -/
def authCmd (s : State) (v : Word) : Option State :=
  let s := if bit v 0 then newChallenge s else s
  match (if bit v 1 then checkResponse s (bits v 2 2) else some s) with
  | none => none
  | some s => some (if bit v 4 then endSession s else s)

/-! ## The terminal (R336) -/

/-- The channel bound to selector n for sending. -/
def termTx (s : State) (n : Nat) : Option Nat := (chansWhere s fun c => c.writer.kind == .terminal)[n]?

/-- A write of DBG_TERM_TX: whether it was taken. -/
def termSend (s : State) (v : Word) : Option State :=
  let n := bits v 8 8
  let ws := tget [] s.dbg.term n ++ [BitVec.ofNat 32 (bits v 0 8)]
  match termTx s n with
  | none => none
  | some ch =>
    if ¬ bit v 16 ∧ ws.length < 4 then some (onDbg s fun d => { d with term := tput d.term n ws })
    else if ws.length ≤ entryRoom s ch then some (pushWords (onDbg s fun d => { d with term := tdel d.term n }) ch (message ws false false))
    else none

/-- The next non-empty channel to the terminal, from the one last served. -/
def termNext (s : State) : Option (Nat × Nat) :=
  let cs := chansWhere s fun c => c.reader.kind == .terminal
  ((List.range 256).map fun i => (s.dbg.termLast + 1 + i) % 256).findSome? fun n =>
    match cs[n]? with
    | some ch => if (chan s ch).fifo ≠ [] then some (n, ch) else none
    | none => none

/-- A read of DBG_TERM_RX, which pops where it consumes. -/
def termReceive (s : State) (consume : Bool) : State × Word :=
  match termNext s with
  | none => (s, 0)
  | some (n, ch) =>
    match popWord s ch with
    | none => (s, 0)
    | some (w, s') =>
      let r := orAll [bits w.word 0 8, n <<< 8, b2n w.last <<< 16, b2n w.trunc <<< 17, 2 ^ 31]
      (if consume then onDbg s' fun d => { d with termLast := n } else s, r)

/-! ## Reset on DRW (R325) -/

/-- A write of DBG_RST_KEY. -/
def resetKey (s : State) (v : Nat) : State :=
  if v = 0xD3B6 ∧ ¬ s.dbg.key1 then onDbg s fun d => { d with key1 := true }
  else if v = 0x6B3D ∧ s.dbg.key1 then onDbg s fun d => { d with key1 := false, keyLeft := 10000000 }
  else onDbg s fun d => { d with key1 := false, keyLeft := 0 }

/-- DRW_RESET: a reset request. -/
def execDrwReset (s : State) : Out :=
  act s.pwr.vdbgGood s
    (if flg s 0x3014 0 ∨ s.dbg.keyLeft ≠ 0 then coreResetNow s 5 else dbgStat s 11)

/-! ## Debug-only registers (R339) -/

/-- A read of a debug-only register. -/
def dbgOnlyRead (s : State) (a : Nat) (consume : Bool) : State × Word :=
  let sel := s.dbg.authSel.toNat
  match a with
  | 0x00 => (s, s.dbg.runSel)
  | 0x08 => (s, runStatWord s)
  | 0x0C =>
    (s, match (selSpokes s).head? with
      | some g =>
        if (spk s g).st = .halted then orAll [(spk s g).pc.toNat, b2n s.dbg.keepRep * 2 ^ 31] else orAll [b2n s.dbg.keepRep * 2 ^ 31]
      | none => orAll [b2n s.dbg.keepRep * 2 ^ 31])
  | 0x14 => (s, s.dbg.insnStat.setWidth 32)
  | 0x1C => termReceive s consume
  | 0x20 => (s, s.dbg.authSel.setWidth 32)
  | 0x24 => (s, s.dbg.challengeShown.extractLsb' (32 * sel) 32)
  | _ => (s, 0)

/-- A write of a debug-only register: none where the frame gets an error, with its status. -/
def dbgOnlyWrite (s : State) (a : Nat) (v : Word) : State ⊕ Nat :=
  match a with
  | 0x00 => .inl (onDbg s fun d => { d with runSel := v &&& 0x1FFF })
  | 0x04 => .inl (runCmd s (bits v 0 5))
  | 0x0C => .inl (writeRunPc s v)
  | 0x10 =>
    .inl (match (selSpokes s).head? with
      | some g => feedInsn s g (v.setWidth 14) (v.extractLsb' 14 14)
      | none => fedRefused s)
  | 0x18 => (match termSend s v with | some s => .inl s | none => .inr 4)
  | 0x20 => .inl (onDbg s fun d => { d with authSel := v.setWidth 2 })
  | 0x24 => .inl (onDbg s fun d => { d with response := d.response.setIfInBounds d.authSel.toNat v })
  | 0x28 => (match authCmd s v with | some s => .inl s | none => .inr 2)
  | 0x2C => .inl (resetKey s (bits v 0 16))
  | _ => .inl s

/-! ## Frames (R318 to R322) -/

/-- The reply to a frame. -/
def frameReply (s : State) (status : Nat) (w : Word) : State :=
  onDbg s fun d => { d with status := BitVec.ofNat 4 status, reply := w }

/-- The registers that are allowed at every level. -/
def authReg (a : Nat) : Bool := decide (0x20000020 ≤ a ∧ a ≤ 0x20000028)

/-- An offset of the host window that the debugger reaches: mapped, and outside the core domains while they are in reset. -/
def debugReaches (s : State) (off : Nat) : Bool :=
  !decide (0x16000 ≤ off ∧ off < 0x30000) && (live s || vaonReg off || decide (0x3000 ≤ off ∧ off < 0x3400))

/-- A read of the debug bus master: the state, the status, the data (R320, R322). -/
def busRead (s : State) (a : Nat) (o : ReadOutcome) (consume : Bool) : State × Nat × Word :=
  if a % 4 ≠ 0 then (s, 4, 0)
  else if a < 0x04000000 then
    if ¬ memReady s then (s, 4, 0)
    else if ¬ mayAccess s reqDBG (bankOf (a / 32)) false then (s, 3, 0)
    else
      match memLoad s reqDBG a 4 (oneRead o) with
      | (s, some n) => (s, 0, BitVec.ofNat 32 n)
      | (s, none) => (s, 4, 0)
  else if 0x10000000 ≤ a ∧ a < 0x10040000 then
    if ¬ debugReaches s (a - 0x10000000) then (s, 4, 0)
    else
      match regRead s .debug (a - 0x10000000) o consume with
      | (s, some w) => (s, 0, w)
      | (s, none) => (s, 4, 0)
  else if 0x20000000 ≤ a ∧ a < 0x20000030 then
    match dbgOnlyRead s (a - 0x20000000) consume with
    | (s, w) => (s, 0, w)
  else (s, 4, 0)

/-- A write of the debug bus master: the state and the status. -/
def busWrite (s : State) (a : Nat) (v : Word) (o : ReadOutcome) : State × Nat :=
  if a % 4 ≠ 0 then (s, 4)
  else if (a < 0x04000000 ∨ (0x10000000 ≤ a ∧ a < 0x10040000)) ∧ flg s 0x300C 0 then (s, 2)
  else if a < 0x04000000 then
    if ¬ memReady s then (s, 4)
    else if ¬ mayAccess s reqDBG (bankOf (a / 32)) true then (s, 3)
    else
      match memStore s reqDBG none a (toBytes 4 v.toNat) (oneRead o) with
      | (s, true) => (s, 0)
      | (s, false) => (s, 4)
  else if 0x10000000 ≤ a ∧ a < 0x10040000 then
    if ¬ debugReaches s (a - 0x10000000) then (s, 4)
    else
      match regWrite s .debug (a - 0x10000000) v with
      | (s, true) => (s, 0)
      | (s, false) => (s, 4)
  else if 0x20000000 ≤ a ∧ a < 0x20000030 then
    match dbgOnlyWrite s (a - 0x20000000) v with
    | .inl s => (s, 0)
    | .inr c => (s, c)
  else (s, 4)

/-- A request frame: its CRC, its session, then its operation. A frame gets no reply while VDBG is off (R316). -/
def frame (s : State) (crcOk : Bool) (f : State → State) : State :=
  if ¬ s.pwr.vdbgGood then s
  else if ¬ crcOk then frameReply (satReg s 0x3058 0 16) 1 0
  else f (bump (onDbg (startSession s) fun d => { d with quiet := 0 }) 0x3054)

/-- RD and RDC. -/
def frameRead (s : State) (a : Word) (o : ReadOutcome) (consume : Bool) : State :=
  if ¬ authReg a.toNat ∧ s.dbg.level.toNat < (if consume then 2 else 1) then frameReply s 2 0
  else
    match busRead s a.toNat o consume with
    | (s, c, w) => frameReply s c w

/-- WR. The two WR frames of the reset key are consecutive ones: another WR frame voids the first (R325; DEDUCED, log entry 27). -/
def frameWrite (s : State) (a v : Word) (o : ReadOutcome) : State :=
  let s := if a = 0x2000002C then s else onDbg s fun d => { d with key1 := false }
  if ¬ authReg a.toNat ∧ s.dbg.level.toNat < 2 then frameReply s 2 0
  else
    match busWrite s a.toNat v o with
    | (s, c) => frameReply s c 0

/-- The gears and the level that ID returns: gear 1.0 both ways, capped by the pin of interface 5 (R310, R319). -/
def idWord (s : State) : Word := orAll [1, 1 <<< 8, s.dbg.level.toNat <<< 24]

/-- DRW_ID; a frame of a reserved OP has status BADOP and no effect (R319). -/
def execDrwId (crcOk reserved : Bool) (s : State) : Out :=
  .next (frame s crcOk fun s => if reserved then frameReply s 5 0 else frameReply s 0 (idWord s))
/-- DRW_RD. -/
def execDrwRd (crcOk : Bool) (addr : Word) (o : ReadOutcome) (s : State) : Out :=
  .next (frame s crcOk fun s => frameRead s addr o false)
/-- DRW_RDC. -/
def execDrwRdc (crcOk : Bool) (addr : Word) (o : ReadOutcome) (s : State) : Out :=
  .next (frame s crcOk fun s => frameRead s addr o true)
/-- DRW_WR. -/
def execDrwWr (crcOk : Bool) (addr data : Word) (o : ReadOutcome) (s : State) : Out :=
  .next (frame s crcOk fun s => frameWrite s addr data o)

/-! ## The commands that a WR frame carries -/

/-- A good WR frame to an address. -/
def wrFrame (s : State) (a v : Word) : State := frame s true fun s => frameWrite s a v ⟨.clean, .clean⟩

/-- DBG_RST_KEY_WRITE. -/
def execDbgRstKeyWrite (v : BitVec 16) (s : State) : Out := .next (wrFrame s 0x2000002C (v.setWidth 32))
/-- AUTH_NEW. -/
def execAuthNew (s : State) : Out := .next (wrFrame s 0x20000028 1)
/-- AUTH_CHECK. -/
def execAuthCheck (level : BitVec 2) (s : State) : Out := .next (wrFrame s 0x20000028 (2 ||| (level.setWidth 32 <<< 2)))
/-- AUTH_DROP. -/
def execAuthDrop (s : State) : Out := .next (wrFrame s 0x20000028 16)
/-- DBG_HALT. -/
def execDbgHalt (s : State) : Out := .next (wrFrame s 0x20000004 1)
/-- DBG_RELEASE. -/
def execDbgRelease (s : State) : Out := .next (wrFrame s 0x20000004 2)
/-- DBG_RUN. -/
def execDbgRun (s : State) : Out := .next (wrFrame s 0x20000004 4)
/-- DBG_STEP. -/
def execDbgStep (s : State) : Out := .next (wrFrame s 0x20000004 8)
/-- DBG_KILL. -/
def execDbgKill (s : State) : Out := .next (wrFrame s 0x20000004 16)
/-- DBG_RUN_PC_WRITE. -/
def execDbgRunPcWrite (v : Word) (s : State) : Out := .next (wrFrame s 0x2000000C v)
/-- DBG_INSN. -/
def execDbgInsn (v : BitVec 28) (s : State) : Out := .next (wrFrame s 0x20000010 (v.setWidth 32))
/-- DBG_TERM_TX. -/
def execDbgTermTx (v : BitVec 17) (s : State) : Out := .next (wrFrame s 0x20000018 (v.setWidth 32))
/-- DBG_TERM_RX: an RDC frame. -/
def execDbgTermRx (s : State) : Out := .next (frame s true fun s => frameRead s 0x2000001C ⟨.clean, .clean⟩ true)
/-- FREEZE_REQUEST. -/
def execFreezeRequest (on : Bool) (s : State) : Out := .next (wrFrame s 0x10003018 (if on then 1 else 0))

/-- SESSION_TIMEOUT (R324): 100 ms without a valid frame. -/
def execSessionTimeout (s : State) : Out :=
  act (s.pwr.vdbgGood && s.dbg.session && decide (100000000 ≤ s.dbg.quiet)) s (endSession s)

/-- VDBG_LOSS (R316): the session ends and the domain's logic is lost. -/
def execVdbgLoss (s : State) : Out :=
  act s.pwr.vdbgGood s
    (let s := if s.dbg.session then endSession s else setFreeze s false
     { s with pwr := { s.pwr with vdbgGood := false } })

/-- VDBG_POWER_GOOD (R316): reset values, and the committed value of DBG_RESET_ARM, whose reset is BS. -/
def execVdbgPowerGood (s : State) : Out :=
  act (!s.pwr.vdbgGood) s
    { s with
      pwr := { s.pwr with vdbgGood := true }
      regs := s.regs.filter fun e => !(decide (0x3000 ≤ e.1 ∧ e.1 < 0x4000) && !(e.1 == 0x3014 && s.cfg.committed))
      avl := { s.avl with pairs := s.avl.pairs.map fun e => (e.1, { e.2 with maint := false, maintDrop := false }) }
      dbg := { ({} : Debug) with coreHalts := s.dbg.coreHalts } }

/-- DBG_ERRS_READ: a consuming read by the host (R338). -/
def execDbgErrsRead (s : State) : Out := act (live s) s (hostRead s 0x3058 ⟨.clean, .clean⟩)

end Sys2Proof.Machine
end

