-- ==== Sys2Proof/Machine/HostPort.lean ====
section
/-! DEFINITION. Accesses that arrive as commands of their own: register writes by any source, the mailbox, and the windows of the host
port (R84, R299 to R314). -/
namespace Sys2Proof.Machine

/-- A clean read. -/
def clean : ReadOutcome := ⟨.clean, .clean⟩

/-- REGISTER_WRITE: a host access, a device store as it is performed, or a write of the debug bus master (R84, R299, R313, R322). -/
def execRegisterWrite (src : Source) (off : BitVec 18) (v : Word) (s : State) : Out :=
  match src with
  | .host => .next (hostWrite s off.toNat v)
  | .spoke g =>
    act (live s && deviceAt (0x10000000 + off.toNat) != .absent) s
      (match deviceWrite s g.val (0x10000000 + off.toNat) v with
       | (s, true) => s
       | (s, false) => errorFlight s g.val true (spk s g.val).pc)
  | .debug => .next (wrFrame s (BitVec.ofNat 32 (0x10000000 + off.toNat)) v)

/-- MBX_TXn_DATA of a slot. -/
def txOff (slot : Fin 8) : Nat := 0x440 + 0x20 * slot.val

/-- MBX_TX_DATA (R308). -/
def execMbxTxData (slot : Fin 8) (v : Word) (s : State) : Out := .next (hostWrite s (txOff slot) v)
/-- MBX_TX_LAST (R308). -/
def execMbxTxLast (slot : Fin 8) (v : Word) (s : State) : Out := .next (hostWrite s (txOff slot + 4) v)

/-- MBX_PENDING_ENTER (R308): the pending message enters once the FIFO has room. -/
def execMbxPendingEnter (slot : Fin 8) (s : State) : Out :=
  let t := s.host.tx[slot]
  match txChan s slot.val with
  | none => .next s
  | some ch =>
    act (live s && t.pend && decide (t.staged.length ≤ entryRoom s ch)) s
      (pushWords (onTx s slot fun _ => {}) ch (txMessage s slot ch t.staged))

/-- MBX_RX_DATA (R309). -/
def execMbxRxData (slot : Fin 8) (s : State) : Out := .next (hostRead s (txOff slot + 0xC) clean)

/-- BLK_GEARS_PIN (R310). -/
def execBlkGearsPin (pin : BitVec 8) (s : State) : Out := .next (hostWrite s 0x20 (pin.setWidth 32 <<< 24))

/-- BLK_RST_CMD (R314). -/
def execBlkRstCmd (v : Word) (s : State) : Out := .next (hostWrite s 0x38 v)

/-- A read of the window by a source that consumes: the host's answer, a spoke's device load as it is performed, or a frame. -/
def readAs (s : State) (src : Source) (off : Nat) (o : ReadOutcome) : State :=
  match src with
  | .host => hostRead s off o
  | .spoke g => if live s ∧ deviceAt (0x10000000 + off) ≠ .absent then (deviceRead s g.val (0x10000000 + off)).1 else s
  | .debug => frame s true fun s => frameRead s (BitVec.ofNat 32 (0x10000000 + off)) o true

/-- BLK_BC_LO_READ (R314). -/
def execBlkBcLoRead (src : Source) (s : State) : Out := .next (readAs s src 0x2C clean)

/-- PMW_READ (R312). -/
def execPmwRead (src : Source) (off : BitVec 16) (o : ReadOutcome) (s : State) : Out := .next (readAs s src (0x30000 + off.toNat) o)

/-- STR_CNT_DATA_READ (R214). -/
def execStrCntDataRead (q : Fin 16) (s : State) : Out := .next (hostRead s (0xE000 + 0x40 * q.val + 0x2C) clean)

end Sys2Proof.Machine
end

