-- ==== Sys2Proof/Machine/SpokeRows.lean ====
section
/-! DEFINITION. The rows of the spoke instructions: each is one instruction issued by a spoke (R56, R57, R85). -/
namespace Sys2Proof.Machine

/-! ## Integer, fixed-point, segment and status instructions -/

/-- MOV issued by a spoke. -/
def execMov (g : SpokeId) (rd rs : GReg) (s : State) : Out := .next (issue s g.val (insMov rd rs))
/-- ADD issued by a spoke. -/
def execAdd (g : SpokeId) (rd rs : GReg) (s : State) : Out := .next (issue s g.val (insAdd rd rs))
/-- SUB issued by a spoke. -/
def execSub (g : SpokeId) (rd rs : GReg) (s : State) : Out := .next (issue s g.val (insSub rd rs))
/-- AND issued by a spoke. -/
def execAndOp (g : SpokeId) (rd rs : GReg) (s : State) : Out := .next (issue s g.val (insAndOp rd rs))
/-- OR issued by a spoke. -/
def execOrOp (g : SpokeId) (rd rs : GReg) (s : State) : Out := .next (issue s g.val (insOrOp rd rs))
/-- XOR issued by a spoke. -/
def execXorOp (g : SpokeId) (rd rs : GReg) (s : State) : Out := .next (issue s g.val (insXorOp rd rs))
/-- CMP issued by a spoke. -/
def execCmp (g : SpokeId) (ra rb : GReg) (s : State) : Out := .next (issue s g.val (insCmp ra rb))
/-- LSL issued by a spoke. -/
def execLsl (g : SpokeId) (rd rc : GReg) (s : State) : Out := .next (issue s g.val (insLsl rd rc))
/-- LSR issued by a spoke. -/
def execLsr (g : SpokeId) (rd rc : GReg) (s : State) : Out := .next (issue s g.val (insLsr rd rc))
/-- ASR issued by a spoke. -/
def execAsr (g : SpokeId) (rd rc : GReg) (s : State) : Out := .next (issue s g.val (insAsr rd rc))
/-- ROT issued by a spoke. -/
def execRot (g : SpokeId) (rd rc : GReg) (s : State) : Out := .next (issue s g.val (insRot rd rc))
/-- SHI issued by a spoke. -/
def execShi (g : SpokeId) (kind : ShiftKind) (rd ra : GReg) (count : BitVec 8) (s : State) : Out := .next (issue s g.val (insShi kind rd ra count))
/-- ALU3 issued by a spoke. -/
def execAlu3 (g : SpokeId) (fn : Alu3Fn) (rd ra rb : GReg) (s : State) : Out := .next (issue s g.val (insAlu3 fn rd ra rb))
/-- ANDN issued by a spoke. -/
def execAndn (g : SpokeId) (rd ra rb : GReg) (s : State) : Out := .next (issue s g.val (insAndn rd ra rb))
/-- ORN issued by a spoke. -/
def execOrn (g : SpokeId) (rd ra rb : GReg) (s : State) : Out := .next (issue s g.val (insOrn rd ra rb))
/-- MIN issued by a spoke. -/
def execMin (g : SpokeId) (rd ra rb : GReg) (s : State) : Out := .next (issue s g.val (insMin rd ra rb))
/-- MAX issued by a spoke. -/
def execMax (g : SpokeId) (rd ra rb : GReg) (s : State) : Out := .next (issue s g.val (insMax rd ra rb))
/-- MINU issued by a spoke. -/
def execMinu (g : SpokeId) (rd ra rb : GReg) (s : State) : Out := .next (issue s g.val (insMinu rd ra rb))
/-- MAXU issued by a spoke. -/
def execMaxu (g : SpokeId) (rd ra rb : GReg) (s : State) : Out := .next (issue s g.val (insMaxu rd ra rb))
/-- ADC issued by a spoke. -/
def execAdc (g : SpokeId) (rd ra rb : GReg) (s : State) : Out := .next (issue s g.val (insAdc rd ra rb))
/-- SBC issued by a spoke. -/
def execSbc (g : SpokeId) (rd ra rb : GReg) (s : State) : Out := .next (issue s g.val (insSbc rd ra rb))
/-- ADDI issued by a spoke. -/
def execAddi (g : SpokeId) (rd ra : GReg) (imm : BitVec 14) (s : State) : Out := .next (issue s g.val (insAddi rd ra imm))
/-- LDI issued by a spoke. -/
def execLdi (g : SpokeId) (rd : GReg) (imm : BitVec 14) (s : State) : Out := .next (issue s g.val (insLdi rd imm))
/-- ORH issued by a spoke. -/
def execOrh (g : SpokeId) (rd ra : GReg) (imm : BitVec 14) (s : State) : Out := .next (issue s g.val (insOrh rd ra imm))
/-- CMPI issued by a spoke. -/
def execCmpi (g : SpokeId) (ra : GReg) (imm : BitVec 14) (s : State) : Out := .next (issue s g.val (insCmpi ra imm))
/-- LOGI issued by a spoke. -/
def execLogi (g : SpokeId) (op : LogiOp) (rd ra : GReg) (imm : BitVec 12) (s : State) : Out := .next (issue s g.val (insLogi op rd ra imm))
/-- SNB issued by a spoke. -/
def execSnb (g : SpokeId) (sd ss : SReg) (r : GReg) (mask : BitVec 3) (s : State) : Out := .next (issue s g.val (insSnb sd ss r mask))
/-- SNL issued by a spoke. -/
def execSnl (g : SpokeId) (sd ss : SReg) (r : GReg) (mask : BitVec 3) (s : State) : Out := .next (issue s g.val (insSnl sd ss r mask))
/-- SMOV issued by a spoke. -/
def execSmov (g : SpokeId) (sd ss : SReg) (mask : BitVec 3) (s : State) : Out := .next (issue s g.val (insSmov sd ss mask))
/-- SRB issued by a spoke. -/
def execSrb (g : SpokeId) (rd : GReg) (ss : SReg) (s : State) : Out := .next (issue s g.val (insSrb rd ss))
/-- SRL issued by a spoke. -/
def execSrl (g : SpokeId) (rd : GReg) (ss : SReg) (s : State) : Out := .next (issue s g.val (insSrl rd ss))
/-- SRR issued by a spoke. -/
def execSrr (g : SpokeId) (rd : GReg) (ss : SReg) (s : State) : Out := .next (issue s g.val (insSrr rd ss))
/-- SINV issued by a spoke. -/
def execSinv (g : SpokeId) (sd : SReg) (s : State) : Out := .next (issue s g.val (insSinv sd))
/-- TSR issued by a spoke. -/
def execTsr (g : SpokeId) (rd : GReg) (s : State) : Out := .next (issue s g.val (insTsr rd))
/-- TSWR issued by a spoke. -/
def execTswr (g : SpokeId) (rs : GReg) (s : State) : Out := .next (issue s g.val (insTswr rs))
/-- TSWM issued by a spoke. -/
def execTswm (g : SpokeId) (dzt sat : Bool) (rnd : BitVec 2) (wDzt wSat wRnd cls : Bool) (s : State) : Out := .next (issue s g.val (insTswm dzt sat rnd wDzt wSat wRnd cls))
/-- MUL issued by a spoke. -/
def execMul (g : SpokeId) (ty : MulType) (rov : Rov) (rd ra rb : GReg) (s : State) : Out := .next (issue s g.val (insMul ty rov rd ra rb))
/-- MAC issued by a spoke. -/
def execMac (g : SpokeId) (ty : MacType) (sub : Bool) (ai : AReg) (ra rb : GReg) (s : State) : Out := .next (issue s g.val (insMac ty sub ai ra rb))
/-- EXT issued by a spoke. -/
def execExt (g : SpokeId) (rov : Rov) (x : GReg) (y : AReg) (sh : BitVec 4) (s : State) : Out := .next (issue s g.val (insExt rov x y sh))
/-- EXT16 issued by a spoke. -/
def execExt16 (g : SpokeId) (rov : Rov) (x : GReg) (y : AReg) (sh : BitVec 4) (s : State) : Out := .next (issue s g.val (insExt16 rov x y sh))
/-- CLRA issued by a spoke. -/
def execClra (g : SpokeId) (x : AReg) (s : State) : Out := .next (issue s g.val (insClra x))
/-- MOVA issued by a spoke. -/
def execMova (g : SpokeId) (x : AReg) (y : GReg) (s : State) : Out := .next (issue s g.val (insMova x y))
/-- ADDA issued by a spoke. -/
def execAdda (g : SpokeId) (x y : AReg) (s : State) : Out := .next (issue s g.val (insAdda x y))
/-- SHRA issued by a spoke. -/
def execShra (g : SpokeId) (rov : Rov) (x : AReg) (sh : BitVec 4) (s : State) : Out := .next (issue s g.val (insShra rov x sh))
/-- RDA issued by a spoke. -/
def execRda (g : SpokeId) (x : GReg) (y : AReg) (part : AccPart) (s : State) : Out := .next (issue s g.val (insRda x y part))
/-- WRA issued by a spoke. -/
def execWra (g : SpokeId) (x : AReg) (y : GReg) (part : AccPart) (s : State) : Out := .next (issue s g.val (insWra x y part))
/-- DIV issued by a spoke. -/
def execDiv (g : SpokeId) (ty : DivType) (rq rr ra rb : GReg) (s : State) : Out := .next (issue s g.val (insDiv ty rq rr ra rb))
/-- NEG issued by a spoke. -/
def execNeg (g : SpokeId) (rd : GReg) (s : State) : Out := .next (issue s g.val (insNeg rd))
/-- ABS issued by a spoke. -/
def execAbs (g : SpokeId) (rd : GReg) (s : State) : Out := .next (issue s g.val (insAbs rd))
/-- NOT issued by a spoke. -/
def execNotOp (g : SpokeId) (rd : GReg) (s : State) : Out := .next (issue s g.val (insNotOp rd))
/-- SXB issued by a spoke. -/
def execSxb (g : SpokeId) (rd : GReg) (s : State) : Out := .next (issue s g.val (insSxb rd))
/-- SXH issued by a spoke. -/
def execSxh (g : SpokeId) (rd : GReg) (s : State) : Out := .next (issue s g.val (insSxh rd))
/-- ZXB issued by a spoke. -/
def execZxb (g : SpokeId) (rd : GReg) (s : State) : Out := .next (issue s g.val (insZxb rd))
/-- ZXH issued by a spoke. -/
def execZxh (g : SpokeId) (rd : GReg) (s : State) : Out := .next (issue s g.val (insZxh rd))
/-- CLZ issued by a spoke. -/
def execClz (g : SpokeId) (rd : GReg) (s : State) : Out := .next (issue s g.val (insClz rd))
/-- CLS issued by a spoke. -/
def execCls (g : SpokeId) (rd : GReg) (s : State) : Out := .next (issue s g.val (insCls rd))
/-- BREV issued by a spoke. -/
def execBrev (g : SpokeId) (rd : GReg) (s : State) : Out := .next (issue s g.val (insBrev rd))
/-- BSWP issued by a spoke. -/
def execBswp (g : SpokeId) (rd : GReg) (s : State) : Out := .next (issue s g.val (insBswp rd))

/-! ## Vector instructions -/

/-- VADD issued by a spoke. -/
def execVadd (g : SpokeId) (t : Bool) (vd va vb : VReg) (s : State) : Out := .next (issue s g.val (insVadd t vd va vb))
/-- VSUB issued by a spoke. -/
def execVsub (g : SpokeId) (t : Bool) (vd va vb : VReg) (s : State) : Out := .next (issue s g.val (insVsub t vd va vb))
/-- VAND issued by a spoke. -/
def execVand (g : SpokeId) (vd va vb : VReg) (s : State) : Out := .next (issue s g.val (insVand vd va vb))
/-- VOR issued by a spoke. -/
def execVor (g : SpokeId) (vd va vb : VReg) (s : State) : Out := .next (issue s g.val (insVor vd va vb))
/-- VXOR issued by a spoke. -/
def execVxor (g : SpokeId) (vd va vb : VReg) (s : State) : Out := .next (issue s g.val (insVxor vd va vb))
/-- VSHL issued by a spoke. -/
def execVshl (g : SpokeId) (t : Bool) (vd va vb : VReg) (s : State) : Out := .next (issue s g.val (insVshl t vd va vb))
/-- VSHR issued by a spoke. -/
def execVshr (g : SpokeId) (t : Bool) (vd va vb : VReg) (s : State) : Out := .next (issue s g.val (insVshr t vd va vb))
/-- VMIN issued by a spoke. -/
def execVmin (g : SpokeId) (t : Bool) (vd va vb : VReg) (s : State) : Out := .next (issue s g.val (insVmin t vd va vb))
/-- VMAX issued by a spoke. -/
def execVmax (g : SpokeId) (t : Bool) (vd va vb : VReg) (s : State) : Out := .next (issue s g.val (insVmax t vd va vb))
/-- VABS issued by a spoke. -/
def execVabs (g : SpokeId) (t : Bool) (vd va : VReg) (s : State) : Out := .next (issue s g.val (insVabs t vd va))
/-- VNEG issued by a spoke. -/
def execVneg (g : SpokeId) (t : Bool) (vd va : VReg) (s : State) : Out := .next (issue s g.val (insVneg t vd va))
/-- VPERM issued by a spoke. -/
def execVperm (g : SpokeId) (t : Bool) (vd va vb : VReg) (s : State) : Out := .next (issue s g.val (insVperm t vd va vb))
/-- VMAC issued by a spoke. -/
def execVmac (g : SpokeId) (t : Bool) (rov : Rov) (vd va vb : VReg) (s : State) : Out := .next (issue s g.val (insVmac t rov vd va vb))
/-- VMSC issued by a spoke. -/
def execVmsc (g : SpokeId) (t : Bool) (rov : Rov) (vd va vb : VReg) (s : State) : Out := .next (issue s g.val (insVmsc t rov vd va vb))
/-- VMUL issued by a spoke. -/
def execVmul (g : SpokeId) (t : Bool) (rov : Rov) (vd va vb : VReg) (s : State) : Out := .next (issue s g.val (insVmul t rov vd va vb))
/-- VDOT issued by a spoke. -/
def execVdot (g : SpokeId) (t : Bool) (x : AReg) (va vb : VReg) (s : State) : Out := .next (issue s g.val (insVdot t x va vb))
/-- VINS issued by a spoke. -/
def execVins (g : SpokeId) (t : Bool) (k : BitVec 4) (x : VReg) (y : GReg) (s : State) : Out := .next (issue s g.val (insVins t k x y))
/-- VEXT issued by a spoke. -/
def execVext (g : SpokeId) (t : Bool) (k : BitVec 4) (x : GReg) (y : VReg) (s : State) : Out := .next (issue s g.val (insVext t k x y))
/-- VSPL issued by a spoke. -/
def execVspl (g : SpokeId) (t : Bool) (x : VReg) (y : GReg) (s : State) : Out := .next (issue s g.val (insVspl t x y))
/-- VMOVV issued by a spoke. -/
def execVmovv (g : SpokeId) (x y : VReg) (s : State) : Out := .next (issue s g.val (insVmovv x y))
/-- VZERO issued by a spoke. -/
def execVzero (g : SpokeId) (x : VReg) (s : State) : Out := .next (issue s g.val (insVzero x))

/-! ## Memory instructions -/

/-- LD issued by a spoke. -/
def execLd (g : SpokeId) (size : Size) (sx : Bool) (rd ro : GReg) (seg : SReg) (imm : BitVec 7) (s : State) : Out := .next (issue s g.val (insLd size sx rd ro seg imm))
/-- VLD issued by a spoke. -/
def execVld (g : SpokeId) (size : VSize) (vd : VReg) (ro : GReg) (seg : SReg) (imm : BitVec 7) (s : State) : Out := .next (issue s g.val (insVld size vd ro seg imm))
/-- LDL issued by a spoke. -/
def execLdl (g : SpokeId) (rd ro : GReg) (seg : SReg) (imm : BitVec 7) (s : State) : Out := .next (issue s g.val (insLdl rd ro seg imm))
/-- LDA issued by a spoke. -/
def execLda (g : SpokeId) (form : LdaForm) (ro : GReg) (seg : SReg) (imm : BitVec 7) (s : State) : Out := .next (issue s g.val (insLda form ro seg imm))
/-- ST issued by a spoke. -/
def execSt (g : SpokeId) (size : Size) (rs ro : GReg) (seg : SReg) (imm : BitVec 7) (o : MemOutcome) (s : State) : Out := .next (issue s g.val (insSt size rs ro seg imm o))
/-- VST issued by a spoke. -/
def execVst (g : SpokeId) (size : VSize) (vs : VReg) (ro : GReg) (seg : SReg) (imm : BitVec 7) (o : MemOutcome) (s : State) : Out := .next (issue s g.val (insVst size vs ro seg imm o))
/-- STC issued by a spoke. -/
def execStc (g : SpokeId) (rs ro rt : GReg) (seg : SReg) (imm : BitVec 7) (o : MemOutcome) (s : State) : Out := .next (issue s g.val (insStc rs ro rt seg imm o))
/-- PST issued by a spoke. -/
def execPst (g : SpokeId) (vs : VReg) (ro : GReg) (seg : SReg) (imm : BitVec 7) (s : State) : Out := .next (issue s g.val (insPst vs ro seg imm))
/-- PSYNC issued by a spoke. -/
def execPsync (g : SpokeId) (s : State) : Out := .next (issue s g.val insPsync)

/-! ## Channel, cadence and lock instructions -/

/-- IN issued by a spoke. -/
def execInOp (g : SpokeId) (rd ri : GReg) (ch : BitVec 14) (s : State) : Out := .next (issue s g.val (insInOp rd ri ch))
/-- OUT issued by a spoke. -/
def execOut (g : SpokeId) (rs ri : GReg) (ch : BitVec 14) (s : State) : Out := .next (issue s g.val (insOut rs ri ch))
/-- POST issued by a spoke. -/
def execPost (g : SpokeId) (rs ri : GReg) (ch : BitVec 14) (s : State) : Out := .next (issue s g.val (insPost rs ri ch))
/-- POSTU issued by a spoke. -/
def execPostu (g : SpokeId) (rs ri : GReg) (ch : BitVec 14) (s : State) : Out := .next (issue s g.val (insPostu rs ri ch))
/-- WAITP issued by a spoke. -/
def execWaitp (g : SpokeId) (rd ri : GReg) (ch : BitVec 14) (s : State) : Out := .next (issue s g.val (insWaitp rd ri ch))
/-- ARMP issued by a spoke. -/
def execArmp (g : SpokeId) (rd ra rb : GReg) (c : Fin 512) (s : State) : Out := .next (issue s g.val (insArmp rd ra rb c))
/-- LCK issued by a spoke. -/
def execLck (g : SpokeId) (rd ro : GReg) (seg : SReg) (imm : BitVec 11) (s : State) : Out := .next (issue s g.val (insLck rd ro seg imm))
/-- TRY issued by a spoke. -/
def execTryOp (g : SpokeId) (rd ro : GReg) (seg : SReg) (imm : BitVec 11) (s : State) : Out := .next (issue s g.val (insTryOp rd ro seg imm))
/-- ULK issued by a spoke. -/
def execUlk (g : SpokeId) (rd ro : GReg) (seg : SReg) (imm : BitVec 11) (s : State) : Out := .next (issue s g.val (insUlk rd ro seg imm))

/-! ## System instructions, REP, branches and breaks -/

/-- SETCTX issued by a spoke. -/
def execSetctx (g : SpokeId) (rd rs : GReg) (core : Fin 4) (spoke : Fin 32) (item : CtxItem) (s : State) : Out := .next (issue s g.val (insSetctx rd rs core spoke item))
/-- SETSEG issued by a spoke. -/
def execSetseg (g : SpokeId) (rd : GReg) (ss : SReg) (core : Fin 4) (spoke : Fin 32) (idx : SReg) (s : State) : Out := .next (issue s g.val (insSetseg rd ss core spoke idx))
/-- RELEASE issued by a spoke. -/
def execRelease (g : SpokeId) (rd : GReg) (core : Fin 4) (spoke : Fin 32) (s : State) : Out := .next (issue s g.val (insRelease rd core spoke))
/-- STOP issued by a spoke. -/
def execStop (g : SpokeId) (self : Bool) (core : Fin 4) (spoke : Fin 32) (s : State) : Out := .next (issue s g.val (insStop self core spoke))
/-- CKPT issued by a spoke. -/
def execCkpt (g : SpokeId) (s : State) : Out := .next (issue s g.val insCkpt)
/-- REP issued by a spoke. -/
def execRep (g : SpokeId) (count : RepCount) (target : NextClass) (s : State) : Out := .next (issue s g.val (insRep count target))
/-- BR issued by a spoke. -/
def execBr (g : SpokeId) (cond : Cond) (annul : Bool) (off : BitVec 17) (slot : NextClass) (s : State) : Out := .next (issue s g.val (insBr cond annul off slot))
/-- JA issued by a spoke. -/
def execJa (g : SpokeId) (link : Bool) (target : BitVec 18) (slot : NextClass) (s : State) : Out := .next (issue s g.val (insJa link target slot))
/-- JR issued by a spoke. -/
def execJr (g : SpokeId) (link : Bool) (rt : GReg) (slot : NextClass) (s : State) : Out := .next (issue s g.val (insJr link rt slot))
/-- BRK issued by a spoke. -/
def execBrk (g : SpokeId) (code : BitVec 8) (s : State) : Out := .next (issue s g.val (insBrk code))
/-- ILL issued by a spoke. -/
def execIll (g : SpokeId) (two : Bool) (cls : NextClass) (s : State) : Out := .next (issue s g.val (insIll two cls))

end Sys2Proof.Machine
end

