-- ==== Sys2Proof/Machine/Startup.lean ====
section
/-! DEFINITION. Power-on, the loss and return of VMEM, and the release of the core domains (R12, R238, R340 to R344). -/
namespace Sys2Proof.Machine

/-- POWER_ON_RESET (R341): every part at its reset value, the straps sampled, and each group whose VIO is good in chrysalis mode with cause
0b001. -/
def execPowerOnReset (straps : Vector Straps 8) (vio : BitVec 8) (s : State) : Out :=
  let s0 : State := { ({} : State) with
    nrg := Vector.ofFn fun g => { straps := straps[g], vioGood := vio.getLsbD g.val }
    free := s.free, pending := s.pending }
  let good := (List.finRange 8).filter fun g => vio.getLsbD g.val
  .next (good.foldl enterVio s0)

/-- What VMEM holds is lost: main memory, program memories, the cocoon, the remap log and the bank map (R12, R348). -/
def loseMemory (s : State) : State :=
  { s with mem := {}, progs := [], cfg := {}, coldStart := true, bootDue := true, pwr := { s.pwr with vmemGood := false } }

/-- VMEM_RESET_LEVEL (R238): treated as power-on (R12). -/
def execVmemResetLevel (s : State) : Out := act s.pwr.vmemGood s (loseMemory (coreResetNow s 0))

/-- VMEM_POWER_UP (R342): a cold start with a boot load. -/
def execVmemPowerUp (s : State) : Out :=
  act (!s.pwr.vmemGood) s
    (bootStart { s with
      pwr := { s.pwr with vmemGood := true }
      host := { s.host with rstCause := 0 }
      mem := {}, progs := [], cfg := {}, coldStart := true, bootDue := true })

/-- CORE_RESET_RELEASE (R343, R344): in a cold start the boot load runs, again where a reset has interrupted it (R342); any other start
chooses an image from the cocoon. -/
def leaveReset (s : State) : State :=
  let s := { s with coreReset := false, resetAge := 0, pwr := { s.pwr with vcoreGood := true } }
  if s.coldStart then (if s.bootDue ∧ 16 ≤ (chry s 0).pc.toNat then bootStart s else s) else warmStart s

/-- CORE_RESET_RELEASE, 1 µs after the reset began at the earliest. -/
def execCoreResetRelease (s : State) : Out :=
  act (s.coreReset && decide (1000 ≤ s.resetAge) && s.pwr.vmemGood && !s.pwr.tripHold) s (leaveReset s)

/-- MEMORY_INIT_DONE (R342): every word of main memory is zero with valid check bytes. -/
def execMemoryInitDone (s : State) : Out :=
  act (live s && !s.mem.initDone) s { s with mem := { s.mem with cells := [], errs := [], due := [], initDone := true } }

end Sys2Proof.Machine
end

