-- ==== Sys2Proof/Machine/Dispatch.lean ====
section
/-! DEFINITION. The dispatch: one arm per command, each one call of its meaning. -/
namespace Sys2Proof.Machine
open Sys2Proof

/-- The effect of one command on everything but the queue. -/
def exec (i : Instr) (s : State) : Host.Outcome State Fault Refusal :=
  match i with
  -- Cadence (R18 to R36)
  | .axisEdge n onSecondary a b => Sys2Proof.Machine.execAxisEdge n onSecondary a b s
  | .zResync n onSecondary => Sys2Proof.Machine.execZResync n onSecondary s
  | .rxFault pin => Sys2Proof.Machine.execRxFault pin s
  | .lossTimeout n => Sys2Proof.Machine.execLossTimeout n s
  | .coastLimit n => Sys2Proof.Machine.execCoastLimit n s
  | .axisDisagree n => Sys2Proof.Machine.execAxisDisagree n s
  | .axisEnable n => Sys2Proof.Machine.execAxisEnable n s
  | .axisDisable n => Sys2Proof.Machine.execAxisDisable n s
  | .comparatorFire c => Sys2Proof.Machine.execComparatorFire c s
  | .comparatorRearm c => Sys2Proof.Machine.execComparatorRearm c s
  | .cadenceTokenDeliver c => Sys2Proof.Machine.execCadenceTokenDeliver c s
  | .engineTrigger x => Sys2Proof.Machine.execEngineTrigger x s
  | .epochLineOpen l => Sys2Proof.Machine.execEpochLineOpen l s
  | .cadCapture n => Sys2Proof.Machine.execCadCapture n s
  | .captureAll mask => Sys2Proof.Machine.execCaptureAll mask s
  | .setPos n => Sys2Proof.Machine.execSetPos n s
  | .clrDis => Sys2Proof.Machine.execClrDis s
  | .cadEvtTgtHiWrite v => Sys2Proof.Machine.execCadEvtTgtHiWrite v s
  | .cadEvtCfgWrite v => Sys2Proof.Machine.execCadEvtCfgWrite v s
  | .cadPtpRateWrite v => Sys2Proof.Machine.execCadPtpRateWrite v s
  -- Spoke instructions (R85 to R119), each issued by spoke g
  | .mov g rd rs => Sys2Proof.Machine.execMov g rd rs s
  | .add g rd rs => Sys2Proof.Machine.execAdd g rd rs s
  | .sub g rd rs => Sys2Proof.Machine.execSub g rd rs s
  | .andOp g rd rs => Sys2Proof.Machine.execAndOp g rd rs s
  | .orOp g rd rs => Sys2Proof.Machine.execOrOp g rd rs s
  | .xorOp g rd rs => Sys2Proof.Machine.execXorOp g rd rs s
  | .cmp g ra rb => Sys2Proof.Machine.execCmp g ra rb s
  | .lsl g rd rc => Sys2Proof.Machine.execLsl g rd rc s
  | .lsr g rd rc => Sys2Proof.Machine.execLsr g rd rc s
  | .asr g rd rc => Sys2Proof.Machine.execAsr g rd rc s
  | .rot g rd rc => Sys2Proof.Machine.execRot g rd rc s
  | .shi g kind rd ra count => Sys2Proof.Machine.execShi g kind rd ra count s
  | .alu3 g fn rd ra rb => Sys2Proof.Machine.execAlu3 g fn rd ra rb s
  | .andn g rd ra rb => Sys2Proof.Machine.execAndn g rd ra rb s
  | .orn g rd ra rb => Sys2Proof.Machine.execOrn g rd ra rb s
  | .min g rd ra rb => Sys2Proof.Machine.execMin g rd ra rb s
  | .max g rd ra rb => Sys2Proof.Machine.execMax g rd ra rb s
  | .minu g rd ra rb => Sys2Proof.Machine.execMinu g rd ra rb s
  | .maxu g rd ra rb => Sys2Proof.Machine.execMaxu g rd ra rb s
  | .adc g rd ra rb => Sys2Proof.Machine.execAdc g rd ra rb s
  | .sbc g rd ra rb => Sys2Proof.Machine.execSbc g rd ra rb s
  | .addi g rd ra imm => Sys2Proof.Machine.execAddi g rd ra imm s
  | .ldi g rd imm => Sys2Proof.Machine.execLdi g rd imm s
  | .orh g rd ra imm => Sys2Proof.Machine.execOrh g rd ra imm s
  | .cmpi g ra imm => Sys2Proof.Machine.execCmpi g ra imm s
  | .logi g op rd ra imm => Sys2Proof.Machine.execLogi g op rd ra imm s
  | .snb g sd ss rg mask => Sys2Proof.Machine.execSnb g sd ss rg mask s
  | .snl g sd ss rg mask => Sys2Proof.Machine.execSnl g sd ss rg mask s
  | .smov g sd ss mask => Sys2Proof.Machine.execSmov g sd ss mask s
  | .srb g rd ss => Sys2Proof.Machine.execSrb g rd ss s
  | .srl g rd ss => Sys2Proof.Machine.execSrl g rd ss s
  | .srr g rd ss => Sys2Proof.Machine.execSrr g rd ss s
  | .sinv g sd => Sys2Proof.Machine.execSinv g sd s
  | .tsr g rd => Sys2Proof.Machine.execTsr g rd s
  | .tswr g rs => Sys2Proof.Machine.execTswr g rs s
  | .tswm g dzt sat rnd wDzt wSat wRnd cls => Sys2Proof.Machine.execTswm g dzt sat rnd wDzt wSat wRnd cls s
  | .mul g ty rov rd ra rb => Sys2Proof.Machine.execMul g ty rov rd ra rb s
  | .mac g ty sub ai ra rb => Sys2Proof.Machine.execMac g ty sub ai ra rb s
  | .ext g rov x y sh => Sys2Proof.Machine.execExt g rov x y sh s
  | .ext16 g rov x y sh => Sys2Proof.Machine.execExt16 g rov x y sh s
  | .clra g x => Sys2Proof.Machine.execClra g x s
  | .mova g x y => Sys2Proof.Machine.execMova g x y s
  | .adda g x y => Sys2Proof.Machine.execAdda g x y s
  | .shra g rov x sh => Sys2Proof.Machine.execShra g rov x sh s
  | .rda g x y part => Sys2Proof.Machine.execRda g x y part s
  | .wra g x y part => Sys2Proof.Machine.execWra g x y part s
  | .div g ty rq rr ra rb => Sys2Proof.Machine.execDiv g ty rq rr ra rb s
  | .vadd g t vd va vb => Sys2Proof.Machine.execVadd g t vd va vb s
  | .vsub g t vd va vb => Sys2Proof.Machine.execVsub g t vd va vb s
  | .vand g vd va vb => Sys2Proof.Machine.execVand g vd va vb s
  | .vor g vd va vb => Sys2Proof.Machine.execVor g vd va vb s
  | .vxor g vd va vb => Sys2Proof.Machine.execVxor g vd va vb s
  | .vshl g t vd va vb => Sys2Proof.Machine.execVshl g t vd va vb s
  | .vshr g t vd va vb => Sys2Proof.Machine.execVshr g t vd va vb s
  | .vmin g t vd va vb => Sys2Proof.Machine.execVmin g t vd va vb s
  | .vmax g t vd va vb => Sys2Proof.Machine.execVmax g t vd va vb s
  | .vabs g t vd va => Sys2Proof.Machine.execVabs g t vd va s
  | .vneg g t vd va => Sys2Proof.Machine.execVneg g t vd va s
  | .vperm g t vd va vb => Sys2Proof.Machine.execVperm g t vd va vb s
  | .vmac g t rov vd va vb => Sys2Proof.Machine.execVmac g t rov vd va vb s
  | .vmsc g t rov vd va vb => Sys2Proof.Machine.execVmsc g t rov vd va vb s
  | .vmul g t rov vd va vb => Sys2Proof.Machine.execVmul g t rov vd va vb s
  | .vdot g t x va vb => Sys2Proof.Machine.execVdot g t x va vb s
  | .vins g t k x y => Sys2Proof.Machine.execVins g t k x y s
  | .vext g t k x y => Sys2Proof.Machine.execVext g t k x y s
  | .vspl g t x y => Sys2Proof.Machine.execVspl g t x y s
  | .vmovv g x y => Sys2Proof.Machine.execVmovv g x y s
  | .vzero g x => Sys2Proof.Machine.execVzero g x s
  | .neg g rd => Sys2Proof.Machine.execNeg g rd s
  | .abs g rd => Sys2Proof.Machine.execAbs g rd s
  | .notOp g rd => Sys2Proof.Machine.execNotOp g rd s
  | .sxb g rd => Sys2Proof.Machine.execSxb g rd s
  | .sxh g rd => Sys2Proof.Machine.execSxh g rd s
  | .zxb g rd => Sys2Proof.Machine.execZxb g rd s
  | .zxh g rd => Sys2Proof.Machine.execZxh g rd s
  | .clz g rd => Sys2Proof.Machine.execClz g rd s
  | .cls g rd => Sys2Proof.Machine.execCls g rd s
  | .brev g rd => Sys2Proof.Machine.execBrev g rd s
  | .bswp g rd => Sys2Proof.Machine.execBswp g rd s
  | .ld g size sx rd ro seg imm => Sys2Proof.Machine.execLd g size sx rd ro seg imm s
  | .st g size rs ro seg imm o => Sys2Proof.Machine.execSt g size rs ro seg imm o s
  | .vld g size vd ro seg imm => Sys2Proof.Machine.execVld g size vd ro seg imm s
  | .vst g size vs ro seg imm o => Sys2Proof.Machine.execVst g size vs ro seg imm o s
  | .ldl g rd ro seg imm => Sys2Proof.Machine.execLdl g rd ro seg imm s
  | .stc g rs ro rt seg imm o => Sys2Proof.Machine.execStc g rs ro rt seg imm o s
  | .lda g form ro seg imm => Sys2Proof.Machine.execLda g form ro seg imm s
  | .pst g vs ro seg imm => Sys2Proof.Machine.execPst g vs ro seg imm s
  | .psync g => Sys2Proof.Machine.execPsync g s
  | .inOp g rd ri ch => Sys2Proof.Machine.execInOp g rd ri ch s
  | .out g rs ri ch => Sys2Proof.Machine.execOut g rs ri ch s
  | .post g rs ri ch => Sys2Proof.Machine.execPost g rs ri ch s
  | .postu g rs ri ch => Sys2Proof.Machine.execPostu g rs ri ch s
  | .waitp g rd ri ch => Sys2Proof.Machine.execWaitp g rd ri ch s
  | .armp g rd ra rb c => Sys2Proof.Machine.execArmp g rd ra rb c s
  | .lck g rd ro seg imm => Sys2Proof.Machine.execLck g rd ro seg imm s
  | .tryOp g rd ro seg imm => Sys2Proof.Machine.execTryOp g rd ro seg imm s
  | .ulk g rd ro seg imm => Sys2Proof.Machine.execUlk g rd ro seg imm s
  | .setctx g rd rs core spoke item => Sys2Proof.Machine.execSetctx g rd rs core spoke item s
  | .setseg g rd ss core spoke idx => Sys2Proof.Machine.execSetseg g rd ss core spoke idx s
  | .release g rd core spoke => Sys2Proof.Machine.execRelease g rd core spoke s
  | .stop g self core spoke => Sys2Proof.Machine.execStop g self core spoke s
  | .ckpt g => Sys2Proof.Machine.execCkpt g s
  | .rep g count target => Sys2Proof.Machine.execRep g count target s
  | .br g cond annul off slot => Sys2Proof.Machine.execBr g cond annul off slot s
  | .ja g link target slot => Sys2Proof.Machine.execJa g link target slot s
  | .jr g link rt slot => Sys2Proof.Machine.execJr g link rt slot s
  | .brk g code => Sys2Proof.Machine.execBrk g code s
  | .ill g two cls => Sys2Proof.Machine.execIll g two cls s
  -- Spoke events (R49 to R73, R257 to R270)
  | .systemReportDeliver cl => Sys2Proof.Machine.execSystemReportDeliver cl s
  | .loadComplete g o => Sys2Proof.Machine.execLoadComplete g o s
  | .deferredFault g => Sys2Proof.Machine.execDeferredFault g s
  | .inWake g => Sys2Proof.Machine.execInWake g s
  | .postWake g => Sys2Proof.Machine.execPostWake g s
  | .truncatedMessageEnter ch => Sys2Proof.Machine.execTruncatedMessageEnter ch s
  | .deadlockDetected cl grp => Sys2Proof.Machine.execDeadlockDetected cl grp s
  | .programRereadComplete g second ok => Sys2Proof.Machine.execProgramRereadComplete g second ok s
  | .programScrub core w err ok => Sys2Proof.Machine.execProgramScrub core w err ok s
  | .forcedCheckpoint p => Sys2Proof.Machine.execForcedCheckpoint p s
  | .pairMismatch p => Sys2Proof.Machine.execPairMismatch p s
  | .replayEnd p r => Sys2Proof.Machine.execReplayEnd p r s
  | .voteEnd p r => Sys2Proof.Machine.execVoteEnd p r s
  | .avlRetire core => Sys2Proof.Machine.execAvlRetire core s
  | .spokeWdgExpiry g => Sys2Proof.Machine.execSpokeWdgExpiry g s
  | .avlSwdgFeed g => Sys2Proof.Machine.execAvlSwdgFeed g s
  | .clusterWdgExpiry cl => Sys2Proof.Machine.execClusterWdgExpiry cl s
  | .avlClFeed src cl => Sys2Proof.Machine.execAvlClFeed src cl s
  | .recoveryComplete cl => Sys2Proof.Machine.execRecoveryComplete cl s
  | .blockWdgExpiry => Sys2Proof.Machine.execBlockWdgExpiry s
  | .avlBwdgFeed v => Sys2Proof.Machine.execAvlBwdgFeed v s
  | .clockFault clk => Sys2Proof.Machine.execClockFault clk s
  -- Memory banks (R155 to R180)
  | .handoverGo bank next atEpoch line => Sys2Proof.Machine.execHandoverGo bank next atEpoch line s
  | .handoverCancel bank => Sys2Proof.Machine.execHandoverCancel bank s
  | .handoverComplete bank => Sys2Proof.Machine.execHandoverComplete bank s
  | .mothScrubVisit word o after => Sys2Proof.Machine.execMothScrubVisit word o after s
  | .marchRegion region save r => Sys2Proof.Machine.execMarchRegion region save r s
  | .rowRemap bank o => Sys2Proof.Machine.execRowRemap bank o s
  | .memCmdRow bank => Sys2Proof.Machine.execMemCmdRow bank s
  | .memCmdSpare bank => Sys2Proof.Machine.execMemCmdSpare bank s
  | .bankSwap o => Sys2Proof.Machine.execBankSwap o s
  | .memCmdClr => Sys2Proof.Machine.execMemCmdClr s
  | .remapAck => Sys2Proof.Machine.execRemapAck s
  | .memHostDataRead o => Sys2Proof.Machine.execMemHostDataRead o s
  | .memHostDataWrite v o => Sys2Proof.Machine.execMemHostDataWrite v o s
  | .penldGo v => Sys2Proof.Machine.execPenldGo v s
  | .penldDone o => Sys2Proof.Machine.execPenldDone o s
  | .memErrcntRead bank => Sys2Proof.Machine.execMemErrcntRead bank s
  | .memNownRead bank => Sys2Proof.Machine.execMemNownRead bank s
  -- Lock unit (R181 to R191)
  | .lockHolderLoss who => Sys2Proof.Machine.execLockHolderLoss who s
  | .penLockRequest x => Sys2Proof.Machine.execPenLockRequest x s
  | .lockReplyDeliver x => Sys2Proof.Machine.execLockReplyDeliver x s
  | .lckHostAcq => Sys2Proof.Machine.execLckHostAcq s
  | .lckHostTry => Sys2Proof.Machine.execLckHostTry s
  | .lckHostRel => Sys2Proof.Machine.execLckHostRel s
  | .lckHostCancel => Sys2Proof.Machine.execLckHostCancel s
  | .lckForce index => Sys2Proof.Machine.execLckForce index s
  | .lckClear index => Sys2Proof.Machine.execLckClear index s
  -- Links and the tandem link (R192 to R203)
  | .gearAnnounce l b => Sys2Proof.Machine.execGearAnnounce l b s
  | .gearConfirm l b => Sys2Proof.Machine.execGearConfirm l b s
  | .gearRetry l => Sys2Proof.Machine.execGearRetry l s
  | .linkDown l => Sys2Proof.Machine.execLinkDown l s
  | .ethFrameReceived l f => Sys2Proof.Machine.execEthFrameReceived l f s
  | .streamFrameReceived l f => Sys2Proof.Machine.execStreamFrameReceived l f s
  | .ack l stream seq => Sys2Proof.Machine.execAck l stream seq s
  | .retry l stream seq o => Sys2Proof.Machine.execRetry l stream seq o s
  | .ackTimeout l stream seq => Sys2Proof.Machine.execAckTimeout l stream seq s
  | .ringTailWrite q v => Sys2Proof.Machine.execRingTailWrite q v s
  | .txFrameSend l d o => Sys2Proof.Machine.execTxFrameSend l d o s
  | .strTokenDeliver l tx => Sys2Proof.Machine.execStrTokenDeliver l tx s
  | .heartbeat l b => Sys2Proof.Machine.execHeartbeat l b s
  | .heartbeatSend => Sys2Proof.Machine.execHeartbeatSend s
  | .peerLost => Sys2Proof.Machine.execPeerLost s
  | .mirror l f => Sys2Proof.Machine.execMirror l f s
  | .mirrorSend n o => Sys2Proof.Machine.execMirrorSend n o s
  | .ckptRecord l f => Sys2Proof.Machine.execCkptRecord l f s
  | .tndResync => Sys2Proof.Machine.execTndResync s
  -- Fabric port (R204 to R215)
  | .fabPortUp => Sys2Proof.Machine.execFabPortUp s
  | .fabPortDown => Sys2Proof.Machine.execFabPortDown s
  | .workDescriptor d => Sys2Proof.Machine.execWorkDescriptor d s
  | .excDescriptor d => Sys2Proof.Machine.execExcDescriptor d s
  | .fabWrite listed head data => Sys2Proof.Machine.execFabWrite listed head data s
  | .fabRead head o => Sys2Proof.Machine.execFabRead head o s
  | .creditReturn rsp => Sys2Proof.Machine.execCreditReturn rsp s
  | .dispatch cl grp => Sys2Proof.Machine.execDispatch cl grp s
  | .workMessageDeliver ch => Sys2Proof.Machine.execWorkMessageDeliver ch s
  | .resultRecord ch => Sys2Proof.Machine.execResultRecord ch s
  | .pelotonRelease => Sys2Proof.Machine.execPelotonRelease s
  | .resultTimeout entry => Sys2Proof.Machine.execResultTimeout entry s
  | .fabPortRestart => Sys2Proof.Machine.execFabPortRestart s
  -- Timers and performance counters (R216 to R232)
  | .timerZero n => Sys2Proof.Machine.execTimerZero n s
  | .timerMatch n => Sys2Proof.Machine.execTimerMatch n s
  | .tmrCapture n => Sys2Proof.Machine.execTmrCapture n s
  | .tmrStop n => Sys2Proof.Machine.execTmrStop n s
  | .tmrReset n => Sys2Proof.Machine.execTmrReset n s
  | .tmrLoadNow n => Sys2Proof.Machine.execTmrLoadNow n s
  | .tmrClamp n => Sys2Proof.Machine.execTmrClamp n s
  | .tmrStart n => Sys2Proof.Machine.execTmrStart n s
  | .tmrReloadHiWrite n v => Sys2Proof.Machine.execTmrReloadHiWrite n v s
  | .tmrMatchHiWrite n v => Sys2Proof.Machine.execTmrMatchHiWrite n v s
  | .timerTokenDeliver n => Sys2Proof.Machine.execTimerTokenDeliver n s
  | .timerCaptureInput n input rising => Sys2Proof.Machine.execTimerCaptureInput n input rising s
  | .tmrCapqRead n => Sys2Proof.Machine.execTmrCapqRead n s
  | .pmcSnap => Sys2Proof.Machine.execPmcSnap s
  | .pmcFreeze => Sys2Proof.Machine.execPmcFreeze s
  | .pmcUnfreeze => Sys2Proof.Machine.execPmcUnfreeze s
  | .pmcClear => Sys2Proof.Machine.execPmcClear s
  | .pmcDataLoRead src => Sys2Proof.Machine.execPmcDataLoRead src s
  -- Power and field energy (R233 to R253)
  | .sag mv => Sys2Proof.Machine.execSag mv s
  | .downshiftExit above => Sys2Proof.Machine.execDownshiftExit above s
  | .pwrForceDs on => Sys2Proof.Machine.execPwrForceDs on s
  | .sagMinRestart => Sys2Proof.Machine.execSagMinRestart s
  | .vcoreReset mv => Sys2Proof.Machine.execVcoreReset mv s
  | .railWarn vsd mv => Sys2Proof.Machine.execRailWarn vsd mv s
  | .tempSample t => Sys2Proof.Machine.execTempSample t s
  | .avsStep r => Sys2Proof.Machine.execAvsStep r s
  | .agingMeasure counts again bad => Sys2Proof.Machine.execAgingMeasure counts again bad s
  | .ledgerHour => Sys2Proof.Machine.execLedgerHour s
  | .pmbUp => Sys2Proof.Machine.execPmbUp s
  | .pmbDown => Sys2Proof.Machine.execPmbDown s
  | .pmbSeqStep r => Sys2Proof.Machine.execPmbSeqStep r s
  | .pmbRaw r => Sys2Proof.Machine.execPmbRaw r s
  | .pmbRawrd r data => Sys2Proof.Machine.execPmbRawrd r data s
  | .pmbPoll r => Sys2Proof.Machine.execPmbPoll r s
  | .vioGood g mv => Sys2Proof.Machine.execVioGood g mv s
  | .vioLost g mv => Sys2Proof.Machine.execVioLost g mv s
  | .nrgLimitWrite g limit v => Sys2Proof.Machine.execNrgLimitWrite g limit v s
  | .governorExceed g => Sys2Proof.Machine.execGovernorExceed g s
  | .nrgMeasPeakRead g energy => Sys2Proof.Machine.execNrgMeasPeakRead g energy s
  | .pwrTempMaxRead => Sys2Proof.Machine.execPwrTempMaxRead s
  -- Chrysalis mode (R144 to R154)
  | .chryHold g on entry40 => Sys2Proof.Machine.execChryHold g on entry40 s
  | .chryRelease g pinOk => Sys2Proof.Machine.execChryRelease g pinOk s
  | .chryFastSelect g fast => Sys2Proof.Machine.execChryFastSelect g fast s
  | .chrysalisReturn g => Sys2Proof.Machine.execChrysalisReturn g s
  | .chryHalt g => Sys2Proof.Machine.execChryHalt g s
  | .chryDrive g pattern first last level => Sys2Proof.Machine.execChryDrive g pattern first last level s
  | .chryFloat g first last => Sys2Proof.Machine.execChryFloat g first last s
  | .chrySample g pin level => Sys2Proof.Machine.execChrySample g pin level s
  | .chryWaitt g n => Sys2Proof.Machine.execChryWaitt g n s
  | .chryWaitp g pin level timeout reads => Sys2Proof.Machine.execChryWaitp g pin level timeout reads s
  | .chryLoopDec g target => Sys2Proof.Machine.execChryLoopDec g target s
  | .chryLoopLoad g v => Sys2Proof.Machine.execChryLoopLoad g v s
  | .chryLoopJumpF0 g target => Sys2Proof.Machine.execChryLoopJumpF0 g target s
  | .chryLoopJump g target => Sys2Proof.Machine.execChryLoopJump g target s
  | .chryShiftSend g final data => Sys2Proof.Machine.execChryShiftSend g final data s
  | .chryShiftDummy g final n => Sys2Proof.Machine.execChryShiftDummy g final n s
  | .chryShiftStream g final words => Sys2Proof.Machine.execChryShiftStream g final words s
  | .chryStoreCocoon g => Sys2Proof.Machine.execChryStoreCocoon g s
  | .chryStoreResult g => Sys2Proof.Machine.execChryStoreResult g s
  | .chryStoreAddr g => Sys2Proof.Machine.execChryStoreAddr g s
  | .chryCmp g levels => Sys2Proof.Machine.execChryCmp g levels s
  -- Pin engines (R120 to R143)
  | .hold x b stretch kind off level => Sys2Proof.Machine.execHold x b stretch kind off level s
  | .auxNop x b stretch => Sys2Proof.Machine.execAuxNop x b stretch s
  | .auxTriggerWait x b stretch => Sys2Proof.Machine.execAuxTriggerWait x b stretch s
  | .auxInboxWait x b stretch => Sys2Proof.Machine.execAuxInboxWait x b stretch s
  | .auxOutboxWait x b stretch => Sys2Proof.Machine.execAuxOutboxWait x b stretch s
  | .auxShift0 x b stretch => Sys2Proof.Machine.execAuxShift0 x b stretch s
  | .auxShift1 x b stretch => Sys2Proof.Machine.execAuxShift1 x b stretch s
  | .auxShiftTa x b stretch => Sys2Proof.Machine.execAuxShiftTa x b stretch s
  | .auxShiftTb x b stretch => Sys2Proof.Machine.execAuxShiftTb x b stretch s
  | .auxEmitDiscard x b stretch => Sys2Proof.Machine.execAuxEmitDiscard x b stretch s
  | .auxEmitTa x b stretch => Sys2Proof.Machine.execAuxEmitTa x b stretch s
  | .auxEmitTb x b stretch => Sys2Proof.Machine.execAuxEmitTb x b stretch s
  | .samp x b stretch off level => Sys2Proof.Machine.execSamp x b stretch off level s
  | .emit x b stretch off => Sys2Proof.Machine.execEmit x b stretch off s
  | .send x b stretch final blk src pins => Sys2Proof.Machine.execSend x b stretch final blk src pins s
  | .take x b stretch blk dst => Sys2Proof.Machine.execTake x b stretch blk dst s
  | .takeMsg x b stretch blk => Sys2Proof.Machine.execTakeMsg x b stretch blk s
  | .copy x b dst src pins => Sys2Proof.Machine.execCopy x b dst src pins s
  | .put x b dst imm => Sys2Proof.Machine.execPut x b dst imm s
  | .bAl x b target => Sys2Proof.Machine.execBAl x b target s
  | .bLa x b target => Sys2Proof.Machine.execBLa x b target s
  | .bLb x b target => Sys2Proof.Machine.execBLb x b target s
  | .bZa x b target => Sys2Proof.Machine.execBZa x b target s
  | .bEq x b target => Sys2Proof.Machine.execBEq x b target s
  | .bPh x b target level => Sys2Proof.Machine.execBPh x b target level s
  | .bEe x b target => Sys2Proof.Machine.execBEe x b target s
  | .bIb x b target => Sys2Proof.Machine.execBIb x b target s
  | .wake x before pins later => Sys2Proof.Machine.execWake x before pins later s
  | .inboxFill x => Sys2Proof.Machine.execInboxFill x s
  | .outboxSend x => Sys2Proof.Machine.execOutboxSend x s
  | .engineStoreReread x ok => Sys2Proof.Machine.execEngineStoreReread x ok s
  | .engineStoreScrub e bank word parityBad ok => Sys2Proof.Machine.execEngineStoreScrub e bank word parityBad ok s
  | .bankSwitch e => Sys2Proof.Machine.execBankSwitch e s
  | .penSwitchAll groups => Sys2Proof.Machine.execPenSwitchAll groups s
  | .forceSwitch e => Sys2Proof.Machine.execForceSwitch e s
  | .penPwDataWrite e v => Sys2Proof.Machine.execPenPwDataWrite e v s
  | .penCtxWrite e v => Sys2Proof.Machine.execPenCtxWrite e v s
  | .readbackMismatch pin again => Sys2Proof.Machine.execReadbackMismatch pin again s
  | .penRbCountRead => Sys2Proof.Machine.execPenRbCountRead s
  -- The bitstream and molt (R276 to R298)
  | .cfgLoad o => Sys2Proof.Machine.execCfgLoad o s
  | .bootImageCheck => Sys2Proof.Machine.execBootImageCheck s
  | .imageApplied u => Sys2Proof.Machine.execImageApplied u s
  | .cfgCommit o => Sys2Proof.Machine.execCfgCommit o s
  | .autoCommit => Sys2Proof.Machine.execAutoCommit s
  | .blockRelease => Sys2Proof.Machine.execBlockRelease s
  | .cfgStage o => Sys2Proof.Machine.execCfgStage o s
  | .moltStaged => Sys2Proof.Machine.execMoltStaged s
  | .cfgArm => Sys2Proof.Machine.execCfgArm s
  | .cfgAbort => Sys2Proof.Machine.execCfgAbort s
  | .regionEnd r => Sys2Proof.Machine.execRegionEnd r s
  | .moltDone => Sys2Proof.Machine.execMoltDone s
  | .cfgResolve => Sys2Proof.Machine.execCfgResolve s
  | .cfgScan => Sys2Proof.Machine.execCfgScan s
  | .cocoonScan u => Sys2Proof.Machine.execCocoonScan u s
  | .recheckPass => Sys2Proof.Machine.execRecheckPass s
  | .cfgEpochOpen lines => Sys2Proof.Machine.execCfgEpochOpen lines s
  | .cocDataRead u => Sys2Proof.Machine.execCocDataRead u s
  -- Host port, mailbox, registers (R299 to R315)
  | .registerWrite src off v => Sys2Proof.Machine.execRegisterWrite src off v s
  | .mbxTxData slot v => Sys2Proof.Machine.execMbxTxData slot v s
  | .mbxTxLast slot v => Sys2Proof.Machine.execMbxTxLast slot v s
  | .mbxPendingEnter slot => Sys2Proof.Machine.execMbxPendingEnter slot s
  | .mbxRxData slot => Sys2Proof.Machine.execMbxRxData slot s
  | .blkGearsPin pin => Sys2Proof.Machine.execBlkGearsPin pin s
  | .blkRstCmd v => Sys2Proof.Machine.execBlkRstCmd v s
  | .blkBcLoRead src => Sys2Proof.Machine.execBlkBcLoRead src s
  | .pmwRead src off o => Sys2Proof.Machine.execPmwRead src off o s
  | .strCntDataRead q => Sys2Proof.Machine.execStrCntDataRead q s
  | .avlPairCntRead => Sys2Proof.Machine.execAvlPairCntRead s
  | .avlTkovTake => Sys2Proof.Machine.execAvlTkovTake s
  | .avlTkovYield => Sys2Proof.Machine.execAvlTkovYield s
  | .takeRequestReceived => Sys2Proof.Machine.execTakeRequestReceived s
  | .yieldConfirmReceived => Sys2Proof.Machine.execYieldConfirmReceived s
  -- Debug wire (R316 to R339)
  | .drwId crcOk reserved => Sys2Proof.Machine.execDrwId crcOk reserved s
  | .drwRd crcOk addr o => Sys2Proof.Machine.execDrwRd crcOk addr o s
  | .drwRdc crcOk addr o => Sys2Proof.Machine.execDrwRdc crcOk addr o s
  | .drwWr crcOk addr data o => Sys2Proof.Machine.execDrwWr crcOk addr data o s
  | .drwReset => Sys2Proof.Machine.execDrwReset s
  | .dbgRstKeyWrite v => Sys2Proof.Machine.execDbgRstKeyWrite v s
  | .sessionTimeout => Sys2Proof.Machine.execSessionTimeout s
  | .vdbgLoss => Sys2Proof.Machine.execVdbgLoss s
  | .authNew => Sys2Proof.Machine.execAuthNew s
  | .authCheck level => Sys2Proof.Machine.execAuthCheck level s
  | .authDrop => Sys2Proof.Machine.execAuthDrop s
  | .dbgHalt => Sys2Proof.Machine.execDbgHalt s
  | .dbgRelease => Sys2Proof.Machine.execDbgRelease s
  | .dbgRun => Sys2Proof.Machine.execDbgRun s
  | .dbgStep => Sys2Proof.Machine.execDbgStep s
  | .dbgKill => Sys2Proof.Machine.execDbgKill s
  | .dbgRunPcWrite v => Sys2Proof.Machine.execDbgRunPcWrite v s
  | .dbgInsn v => Sys2Proof.Machine.execDbgInsn v s
  | .dbgTermTx v => Sys2Proof.Machine.execDbgTermTx v s
  | .dbgTermRx => Sys2Proof.Machine.execDbgTermRx s
  | .freezeRequest on => Sys2Proof.Machine.execFreezeRequest on s
  | .dbgErrsRead => Sys2Proof.Machine.execDbgErrsRead s
  -- Start-up and reset (R340 to R351)
  | .powerOnReset straps vio => Sys2Proof.Machine.execPowerOnReset straps vio s
  | .vmemPowerUp => Sys2Proof.Machine.execVmemPowerUp s
  | .coreResetRelease => Sys2Proof.Machine.execCoreResetRelease s
  | .memoryInitDone => Sys2Proof.Machine.execMemoryInitDone s
  | .vdbgPowerGood => Sys2Proof.Machine.execVdbgPowerGood s
  | .linkUp l => Sys2Proof.Machine.execLinkUp l s
  | .vioBelowOvLevel g => Sys2Proof.Machine.execVioBelowOvLevel g s
  | .vmemResetLevel => Sys2Proof.Machine.execVmemResetLevel s
  | .deviceLoadComplete g => Sys2Proof.Machine.execDeviceLoadComplete g s
  | .engineIllegalWord x => Sys2Proof.Machine.execEngineIllegalWord x s
  | .sequencerIllegalWord g => Sys2Proof.Machine.execSequencerIllegalWord g s

end Sys2Proof.Machine
end

