-- ==== Sys2Proof/Machine/Slots.lean ====
section
/-! DEFINITION. The sc of a bc that has passed, charged to the five top-down counters of each way, and the events that a lost cycle
counts (R39 to R44, R74, R227, R228, R260). What issued in the bc stands in `Core.used`; log entry 69 says how it is matched with the
entries of the chainrings. -/
namespace Sys2Proof.Machine

/-- The five outcomes of a way's sc, in the order of the counters (R74, R227). -/
inductive Outcome where
  | retired | wasted | front | back | idle
  deriving DecidableEq, Repr

/-- The top-down counter of an outcome. -/
def topCtr (wayB : Bool) : Outcome → Fin 18
  | .retired => if wayB then 13 else 8
  | .wasted => if wayB then 14 else 9
  | .front => if wayB then 15 else 10
  | .back => if wayB then 16 else 11
  | .idle => if wayB then 17 else 12

/-- One sc of a way. -/
def charge (x : PmcCore) (wayB : Bool) (o : Outcome) : PmcCore := pmcAdd x (topCtr wayB o) 1

/-- The event of an own cycle lost while BLOCKED (R228). -/
def blockedEvent : Wait → Nat
  | .input _ _ => 0x08
  | .closing _ _ _ => 0x09
  | .position _ _ => 0x0A
  | .lock _ _ => 0x0B

/-- A follower waits for an input or a unit of its leader (R260). -/
def followerWaits (s : State) (g : Nat) : Bool :=
  match member s g with
  | .follower _ => true
  | _ => false

/-- A bubble of a fixed spoke: its outcome, and the event that it counts (R74, R228). -/
def bubble (s : State) (g : Nat) (tandemHalf : Bool) : Outcome × Nat :=
  let sp := spk s g
  if sp.st ≠ .run then (.idle, if sp.st = .blocked then (sp.wait.map blockedEvent).getD 0 else 0)
  else if tandemHalf ∨ followerWaits s g then (.back, 0)
  else
    match nextIns s g with
    | none => (.front, 7)
    | some i => if stalls sp i then (.back, 6) else if i.effect ∧ gateFull s g then (.back, 0x11) else (.front, 7)

/-- What a way has done in one sc: the instructions not yet matched with a cycle, and the counters. -/
abbrev Ledger := List (Nat × Bool) × PmcCore

/-- An instruction that issued takes the cycle. -/
def takeCycle (r : Ledger) (wayB : Bool) (u : Nat × Bool) : Ledger :=
  (r.1.erase u, charge r.2 wayB (if u.2 then .retired else .wasted))

/-- The elastic instruction that takes an offered cycle of a way (R44). -/
def elasticUse (s : State) (l : Nat) (wayB : Bool) (used : List (Nat × Bool)) : Option (Nat × Bool) :=
  used.find? fun u => (spk s (32 * l + u.1)).elastic && (spk s (32 * l + u.1)).poolB == wayB

/-- One sc of one way of a physical core p that serves core l, n sc after its ways stood at entry 0. -/
def chargeSc (s : State) (p l n : Nat) (wayB : Bool) (r : Ledger) : Ledger :=
  let len := ringLen s p wayB
  let e := ringEntry s p wayB (n % len)
  let idle : Ledger := (r.1, charge r.2 wayB .idle)
  if len = 0 then idle
  else if bits e 5 2 = 2 then
    match elasticUse s l wayB r.1 with
    | some u => takeCycle r wayB u
    | none => idle
  else if bits e 5 2 = 0 then
    let k := bits e 0 5
    let half := wayB && ringLen s p false == len && entryNames (ringEntry s p false (n % len)) k
    match r.1.find? (·.1 == k) with
    | some u =>
      let r := takeCycle r wayB u
      if half then (r.1, pmcCount r.2 3 wayB k) else r
    | none =>
      match (if bit e 7 then elasticUse s l wayB r.1 else none) with
      | some u =>
        let r := takeCycle r wayB u
        (r.1, pmcCount r.2 0xF wayB u.1)
      | none =>
        let b := bubble s (32 * l + k) half
        (r.1, pmcCount (charge r.2 wayB b.1) b.2 wayB k)
  else idle

/-- The two sc of the bc at hand, on both ways of a physical core; a core that serves none is idle. -/
def chargeCore (s : State) (p : Nat) (k : Core) : Ledger :=
  let x := pmcCore s p
  if k.role = .service ∨ k.role = .lent then
    [0, 1].foldl (fun r j =>
      let n := 2 * s.bc + j - k.crStart
      chargeSc s p k.logical n true (chargeSc s p k.logical n false r)) (k.used, x)
  else ([], [false, true].foldl (fun x b => charge (charge x b .idle) b .idle) x)

/-- The bc at hand is charged (R74); the counters hold while they are frozen (R229). -/
def tickSlots (s : State) : State :=
  let rs := s.cores.mapIdx fun p k => chargeCore s p k
  { s with
    cores := s.cores.mapFinIdx fun p k h => { k with used := rs[p].1 }
    pmc := if pmcRuns s then { s.pmc with cores := (rs.toList.zipIdx.map fun e => (e.2, e.1.2)) } else s.pmc }

end Sys2Proof.Machine
end

