-- ==== Sys2Proof/Machine/Tick.lean ====
section
/-! DEFINITION. One bc with no command: everything of the block that the passing of time moves by itself (log entry 2). -/
namespace Sys2Proof.Machine

/-- One bc of a timer (R216, R218, R226): a command of this bc replaces its tick, the freeze request stops it or gathers its bc for the
next LFCLK edge. The link actions that have come act before it (R219). -/
def tickOnly (s : State) (n : Fin 32) : State :=
  let s := takeLinks s n
  let t := timer s n
  let t := if s.bc % 1000 = 0 then { t with fwZero := false, fwMatch := false } else t
  let d := tmrDiv s n
  if ¬ t.run ∨ tmrFrozen s n then setTimer s n { t with replaced := false }
  else if t.replaced then setTimer s n { t with replaced := false, pre := (t.pre % d + 1) % d }
  else
    let s := setTimer s n { t with owed := t.owed + 1 }
    if tmrFreewheel s n ∧ (s.bc + 1) % 1000 ≠ 0 then s else runTimer s n

/-- One bc of a timer, with COUNT as its end leaves it (R223). -/
def tickTimer (s : State) (n : Fin 32) : State :=
  let u := tickOnly s n
  onTimer u n fun t => { t with past0 := endCount { u with bc := u.bc + 1 } n, past1 := t.past0 }

/-- Counters that count every sc (R228). -/
def tickPmc (s : State) : State :=
  if pmcRuns s ∧ s.pmc.cores.any (fun e => e.2.evt.toArray.any fun w => bits w 0 6 == 1) then
    mapPmc s fun x => (List.finRange 8).foldl
      (fun y i => if bits x.evt[i] 0 6 = 1 then pmcAdd y ⟨i.val, by omega⟩ 2 else y) x
  else s

/-- One µs of the spoke watchdogs: in RUN and BLOCKED, not through a replay or a vote (R263, R268). -/
def tickSpokeWdg (s : State) : State :=
  let counts (e : Nat × Spoke) : Bool :=
    (e.2.st == .run || e.2.st == .blocked) && e.1 == front s e.1 && bits (item s 0x213C e.1) 0 16 != 0 && !inReplay s e.1
  { s with spokes := s.spokes.map fun e => (e.1, if counts e then { e.2 with wdgLeft := e.2.wdgLeft - 1 } else e.2) }

/-- One µs of the cluster watchdogs: held in maintenance (R269). -/
def tickClusterWdg (s : State) : State :=
  let left (k : Fin 13) : Nat :=
    if fld s (0x2000 + 0x10 * k.val) 0 16 ≠ 0 ∧ ¬ inMaint s k.val then s.avl.clLeft[k] - 1 else s.avl.clLeft[k]
  { s with avl := { s.avl with clLeft := Vector.ofFn left } }

/-- The watchdogs: spoke and cluster by µs, block by ms (R268 to R270). -/
def tickWatchdogs (s : State) : State :=
  let s := if (s.bc + 1) % 1000 = 0 then tickClusterWdg (tickSpokeWdg s) else s
  if (s.bc + 1) % 1000000 = 0 ∧ fld s 0x212C 0 16 ≠ 0 then { s with avl := { s.avl with bwdgLeft := s.avl.bwdgLeft - 1 } } else s

/-- The time since each running pair's last checkpoint, and the storing of a capture (R262). -/
def tickPairs (s : State) : State :=
  { s with avl := { s.avl with
      pairs := s.avl.pairs.map fun e => (e.1, { e.2 with
        since := if e.2.st = .running then e.2.since + 1 else e.2.since, storing := e.2.storing - 1 }) } }

/-- The deadlock groups that spokes are members of, as keys. -/
def dlKeys (s : State) : List Nat :=
  (s.spokes.filterMap fun e => if e.2.listed then e.2.dlgroup.map (fun d => 32 * clusterOf e.1 + d.val) else none).eraseDups

/-- One bc of a deadlock group: the condition is counted up to 1,024 bc without a break (R54). -/
def tickDl (s : State) (k : Nat) : State :=
  let d : DlGroup := tget {} s.dl k
  let holds := dlAllBlocked s (k / 32) (k % 32) && !dlFed s (k / 32) (k % 32)
  { s with dl := tput s.dl k { d with elapsed := if holds then min 1024 (d.elapsed + 1) else 0 } }

/-- What runs once the block is released. -/
def tickReleased (s : State) : State :=
  let s := tickCadence s
  let s := (List.finRange 32).foldl tickTimer s
  let s := tickPort (tickBucket (tickEngines s))
  let s := tickPairs (tickWatchdogs (tickPmc (tickSlots s)))
  let s := (dlKeys s).foldl tickDl s
  { s with bc := s.bc + 1, mem := { s.mem with penldAge := if flg s 0x7844 30 then s.mem.penldAge + 1 else s.mem.penldAge } }

/-- What runs in the debug domain: the wait after a failed CHECK, the time without a valid frame, and the life of the reset key (R323 to
R325). -/
def tickDebug (s : State) : State :=
  onDbg s fun d => { d with
    lockLeft := d.lockLeft - 1, keyLeft := d.keyLeft - 1, quiet := if d.session then d.quiet + 1 else d.quiet }

/-- One bc passes. -/
def tick (s : State) : State :=
  let s := tickDebug (tickPower s)
  let s := if s.coreReset then { s with resetAge := min 1000 (s.resetAge + 1) } else s
  if s.released ∧ ¬ s.coreReset then tickReleased s else s

end Sys2Proof.Machine
end

