-- ==== Sys2Proof/Safety.lean ====
section
/-! DEFINITION. What a safe run of the block is, and the terms in which the statements about the block are made. -/
namespace Sys2Proof
open Sys2Proof.Machine

/-- A step is safe when it ends in a next state: no command of the table stops the block. -/
def SafeStep (s : State) : Prop := ∃ t, step s = .next t

/-- The keys of a sparse table rise, as every update keeps them. -/
def keysRise {α : Type} (t : Tab α) : Prop := (t.map (·.1)).Pairwise (· < ·)

/-! ## Spokes -/

/-- Spoke g is unpaired, may issue (R37, R40), and its next instruction is a whole issue unit of its own: no delay slot due, no
repetition, no halt or stop requested, nothing in flight, no register or effect of bad parity (R258); no comparator is set up, and two
parcels remain in program memory. -/
structure Alone (s : State) (g : Nat) : Prop where
  can : canIssue s g = true
  solo : (spk s g).pair = none
  noSlot : (spk s g).slot = none
  noRep : repn (spk s g).tsw = 0
  noReq : (spk s g).req = none
  noFlight : (spk s g).flight = []
  noStuck : (spk s g).stuck = []
  soundRegs : (spk s g).badRegs = []
  soundCheck : (spk s g).badCheck = false
  noCmp : s.dbg.cmps = []
  room : (spk s g).pc.toNat + 2 ≤ 0x30000

/-- Where spoke g is elastic, no other elastic spoke of its core runs, so that its pool's next grant is its own too (R44). -/
def OnlyOneRuns (s : State) (g : Nat) : Prop :=
  (spk s g).elastic = true → ∀ h, h ≠ g → coreOf h = coreOf g → (spk s h).elastic = true → (spk s h).st ≠ .run

/-- Nothing differs but the performance counters, the slots charged and the pools' last grants (R44, R74). -/
def Counts (s t : State) : Prop :=
  t = { s with pmc := t.pmc, cores := t.cores }
  ∧ ∀ p : Fin 52, ∃ a b u, t.cores[p] = { s.cores[p] with lastA := a, lastB := b, used := u }

/-- Nothing differs but spoke g and what counts. -/
def OnlySpoke (s t : State) (g : Nat) : Prop :=
  t = { s with spokes := t.spokes, pmc := t.pmc, cores := t.cores } ∧ Counts { s with spokes := t.spokes } t
  ∧ ∀ h, h ≠ g → spk t h = spk s h

/-- From s to t, spoke g has completed one instruction of n parcels that leaves its registers as in sp, and nothing else differs. -/
def Completed (s t : State) (g n : Nat) (sp : Spoke) : Prop :=
  OnlySpoke s t g ∧ spk t g = { sp with pc := (spk s g).pc + BitVec.ofNat 18 n }

/-- A word after a result: Z, N and V as given, C as given or kept, SV set where sv holds, every other bit as it was (R78, R88). -/
def FlagsAre (old new : Word) (z n : Bool) (c : Option Bool) (v sv : Bool) : Prop :=
  ∀ i, i < 32 → new.getLsbD i =
    if i = 0 then z else if i = 1 then n else if i = 2 then c.getD (old.getLsbD 2) else if i = 3 then v
    else if i = 4 then old.getLsbD 4 || sv else old.getLsbD i

/-- The value that a 32-bit result takes from its exact value: the low 32 bits, or under TSW.SAT the nearest representable value
(R100). -/
def stored (sat : Bool) (x : Int) : Int :=
  if sat then max (-2147483648) (min x 2147483647) else (x + 2147483648) % 4294967296 - 2147483648

/-- The exact value lies outside the signed 32-bit range. -/
def outside (x : Int) : Bool := decide (x < -2147483648 ∨ 2147483647 < x)

/-- A file of g registers with one written; g0 keeps nothing (R77). -/
def gSet (sp : Spoke) (rd : GReg) (w : Word) : Vector Word 16 := if rd = 0 then sp.g else sp.g.set rd w

/-- What an addition, a subtraction or a comparison is about (R85, R86, R87): spoke, parcels, destination (none for a comparison), its two
operands, whether it subtracts, and the carry or borrow that goes in. -/
structure Sum where
  g : SpokeId
  n : Nat
  rd : Option GReg
  a : Word
  b : Word
  sub : Bool
  cin : Bool

/-- The additions, subtractions and comparisons, with their operands read in state s. -/
def sumForm (s : State) : Instr → Option Sum
  | .add g rd rs => some ⟨g, 1, some rd, rg (spk s g) rd, rg (spk s g) rs, false, false⟩
  | .sub g rd rs => some ⟨g, 1, some rd, rg (spk s g) rd, rg (spk s g) rs, true, false⟩
  | .cmp g ra rb => some ⟨g, 1, none, rg (spk s g) ra, rg (spk s g) rb, true, false⟩
  | .neg g rd => some ⟨g, 1, some rd, 0, rg (spk s g) rd, true, false⟩
  | .addi g rd ra imm => some ⟨g, 2, some rd, rg (spk s g) ra, imm.signExtend 32, false, false⟩
  | .cmpi g ra imm => some ⟨g, 2, none, rg (spk s g) ra, imm.signExtend 32, true, false⟩
  | .adc g rd ra rb => some ⟨g, 2, some rd, rg (spk s g) ra, rg (spk s g) rb, false, (spk s g).tsw.getLsbD 2⟩
  | .sbc g rd ra rb => some ⟨g, 2, some rd, rg (spk s g) ra, rg (spk s g) rb, true, !(spk s g).tsw.getLsbD 2⟩
  | .alu3 g .add rd ra rb => some ⟨g, 2, some rd, rg (spk s g) ra, rg (spk s g) rb, false, false⟩
  | .alu3 g .sub rd ra rb => some ⟨g, 2, some rd, rg (spk s g) ra, rg (spk s g) rb, true, false⟩
  | .alu3 g .cmp 0 ra rb => some ⟨g, 2, none, rg (spk s g) ra, rg (spk s g) rb, true, false⟩
  | _ => none

/-- The exact sum or difference. -/
def Sum.exact (x : Sum) : Int :=
  if x.sub then x.a.toInt - x.b.toInt - (if x.cin then 1 else 0) else x.a.toInt + x.b.toInt + (if x.cin then 1 else 0)

/-- The carry out, or the absence of a borrow, of the operation on unsigned operands. -/
def Sum.carry (x : Sum) : Bool :=
  if x.sub then decide (x.b.toNat + (if x.cin then 1 else 0) ≤ x.a.toNat)
  else decide (2 ^ 32 ≤ x.a.toNat + x.b.toNat + (if x.cin then 1 else 0))

/-- The instructions that write a word and the flags of a logic result (R88): spoke, parcels, destination, the word. -/
def logicForm (s : State) : Instr → Option (SpokeId × Nat × GReg × Word)
  | .andOp g rd rs => some (g, 1, rd, rg (spk s g) rd &&& rg (spk s g) rs)
  | .orOp g rd rs => some (g, 1, rd, rg (spk s g) rd ||| rg (spk s g) rs)
  | .xorOp g rd rs => some (g, 1, rd, rg (spk s g) rd ^^^ rg (spk s g) rs)
  | .notOp g rd => some (g, 1, rd, ~~~rg (spk s g) rd)
  | .andn g rd ra rb => some (g, 2, rd, rg (spk s g) ra &&& ~~~rg (spk s g) rb)
  | .orn g rd ra rb => some (g, 2, rd, rg (spk s g) ra ||| ~~~rg (spk s g) rb)
  | .min g rd ra rb => some (g, 2, rd, if (rg (spk s g) ra).slt (rg (spk s g) rb) then rg (spk s g) ra else rg (spk s g) rb)
  | .max g rd ra rb => some (g, 2, rd, if (rg (spk s g) rb).slt (rg (spk s g) ra) then rg (spk s g) ra else rg (spk s g) rb)
  | .minu g rd ra rb => some (g, 2, rd, if (rg (spk s g) ra).ult (rg (spk s g) rb) then rg (spk s g) ra else rg (spk s g) rb)
  | .maxu g rd ra rb => some (g, 2, rd, if (rg (spk s g) rb).ult (rg (spk s g) ra) then rg (spk s g) ra else rg (spk s g) rb)
  | .logi g .and rd ra imm => some (g, 2, rd, rg (spk s g) ra &&& imm.setWidth 32)
  | .logi g .or rd ra imm => some (g, 2, rd, rg (spk s g) ra ||| imm.setWidth 32)
  | .logi g .xor rd ra imm => some (g, 2, rd, rg (spk s g) ra ^^^ imm.setWidth 32)
  | .logi g .andn rd ra imm => some (g, 2, rd, rg (spk s g) ra &&& ~~~(imm.setWidth 32))
  | .alu3 g .and rd ra rb => some (g, 2, rd, rg (spk s g) ra &&& rg (spk s g) rb)
  | .alu3 g .or rd ra rb => some (g, 2, rd, rg (spk s g) ra ||| rg (spk s g) rb)
  | .alu3 g .xor rd ra rb => some (g, 2, rd, rg (spk s g) ra ^^^ rg (spk s g) rb)
  | _ => none

/-- The shifts (R104): spoke, parcels, destination, kind, operand, signed count. -/
def shiftForm (s : State) : Instr → Option (SpokeId × Nat × GReg × ShiftKind × Word × Int)
  | .lsl g rd rc => some (g, 1, rd, .lsl, rg (spk s g) rd, ((rg (spk s g) rc).setWidth 8).toInt)
  | .lsr g rd rc => some (g, 1, rd, .lsr, rg (spk s g) rd, ((rg (spk s g) rc).setWidth 8).toInt)
  | .asr g rd rc => some (g, 1, rd, .asr, rg (spk s g) rd, ((rg (spk s g) rc).setWidth 8).toInt)
  | .rot g rd rc => some (g, 1, rd, .rot, rg (spk s g) rd, ((rg (spk s g) rc).setWidth 8).toInt)
  | .shi g k rd ra count => some (g, 2, rd, k, rg (spk s g) ra, count.toInt)
  | .alu3 g .lsl rd ra rb => some (g, 2, rd, .lsl, rg (spk s g) ra, ((rg (spk s g) rb).setWidth 8).toInt)
  | .alu3 g .lsr rd ra rb => some (g, 2, rd, .lsr, rg (spk s g) ra, ((rg (spk s g) rb).setWidth 8).toInt)
  | .alu3 g .asr rd ra rb => some (g, 2, rd, .asr, rg (spk s g) ra, ((rg (spk s g) rb).setWidth 8).toInt)
  | .alu3 g .rot rd ra rb => some (g, 2, rd, .rot, rg (spk s g) ra, ((rg (spk s g) rb).setWidth 8).toInt)
  | _ => none

/-- The word of a shift that cannot overflow: the bits, one by one (R104). -/
def shiftedBit (k : ShiftKind) (a : Word) (c : Int) (i : Nat) : Bool :=
  match k with
  | .lsl => if (i : Int) - c < 0 ∨ 31 < (i : Int) - c then false else a.getLsbD (i - c).toNat
  | .lsr => if (i : Int) + c < 0 ∨ 31 < (i : Int) + c then false else a.getLsbD (i + c).toNat
  | .asr => if 31 < (i : Int) + c then a.getLsbD 31 else a.getLsbD (i + c).toNat
  | .rot => a.getLsbD (((i : Int) - c) % 32).toNat

/-- The moves and functions that write one g register and no flag (R85, R107, R110, R114): spoke, parcels, destination, the word. -/
def moveForm (s : State) : Instr → Option (SpokeId × Nat × GReg × Word)
  | .mov g rd rs => some (g, 1, rd, rg (spk s g) rs)
  | .ldi g rd imm => some (g, 2, rd, imm.signExtend 32)
  | .orh g rd ra imm => some (g, 2, rd, (rg (spk s g) ra <<< 14) ||| imm.setWidth 32)
  | .sxb g rd => some (g, 1, rd, ((rg (spk s g) rd).setWidth 8).signExtend 32)
  | .sxh g rd => some (g, 1, rd, ((rg (spk s g) rd).setWidth 16).signExtend 32)
  | .zxb g rd => some (g, 1, rd, rg (spk s g) rd &&& 0xFF)
  | .zxh g rd => some (g, 1, rd, rg (spk s g) rd &&& 0xFFFF)
  | .brev g rd => some (g, 1, rd, (rg (spk s g) rd).reverse)
  | .bswp g rd => some (g, 1, rd,
      (rg (spk s g) rd <<< 24) ||| ((rg (spk s g) rd &&& 0xFF00) <<< 8) ||| ((rg (spk s g) rd >>> 8) &&& 0xFF00)
        ||| (rg (spk s g) rd >>> 24))
  | .tsr g rd => some (g, 1, rd, (spk s g).tsw)
  | .rda g x y .lo => some (g, 2, x, (spk s g).a[y].setWidth 32)
  | .rda g x y .hi => some (g, 2, x, ((spk s g).a[y] >>> 32).setWidth 32)
  | .rda g x y .guard => some (g, 2, x, (((spk s g).a[y] >>> 64).setWidth 8).signExtend 32)
  | _ => none

/-- The condition of a BR, from Z, N, C, V, EOM and CHE (R91). -/
def condTable (t : Word) : Cond → Bool
  | .al => true
  | .eq => t.getLsbD 0
  | .ne => !t.getLsbD 0
  | .lt => t.getLsbD 1 != t.getLsbD 3
  | .ge => t.getLsbD 1 == t.getLsbD 3
  | .le => t.getLsbD 0 || t.getLsbD 1 != t.getLsbD 3
  | .gt => !t.getLsbD 0 && t.getLsbD 1 == t.getLsbD 3
  | .hs => t.getLsbD 2
  | .lo => !t.getLsbD 2
  | .hi => t.getLsbD 2 && !t.getLsbD 0
  | .ls => !t.getLsbD 2 || t.getLsbD 0
  | .mi => t.getLsbD 1
  | .pl => !t.getLsbD 1
  | .vs => t.getLsbD 3
  | .em => t.getLsbD 6
  | .ce => t.getLsbD 7

/-! ## Fixed point and vectors -/

/-- The rounding mode of an instruction as a number (R89, R101): TRN 0, RNU 1, RNE 2, RNZ 3. -/
def roundMode (t : Word) : Rov → Nat
  | .tsw => (t >>> 8).toNat % 4
  | .trn => 0
  | .rnu => 1
  | .rne => 2
  | .rnz => 3

/-- X / 2^k rounded: toward minus infinity, to nearest with halves upward, to nearest even, toward zero (R101). -/
def rounded (mode k : Nat) (x : Int) : Int :=
  match mode with
  | 0 => x / 2 ^ k
  | 1 => (2 * x + 2 ^ k) / 2 ^ (k + 1)
  | 2 =>
    if 2 * (x % 2 ^ k) = 2 ^ k then 2 * ((x / 2 ^ k + 1) / 2) else (2 * x + 2 ^ k) / 2 ^ (k + 1)
  | _ => if 0 ≤ x then x / 2 ^ k else -(-x / 2 ^ k)

/-- The value outside a signed format of w bits. -/
def outsideW (w : Nat) (x : Int) : Bool := decide (x < -(2 ^ (w - 1)) ∨ 2 ^ (w - 1) ≤ x)

/-- The nearest value of a signed format of w bits. -/
def clampW (w : Nat) (x : Int) : Int := max (-(2 ^ (w - 1))) (min x (2 ^ (w - 1) - 1))

/-- The value that a format of w bits takes from an exact value under TSW.SAT (R100). -/
def storedW (w : Nat) (sat : Bool) (x : Int) : Int :=
  if sat then clampW w x else (x + 2 ^ (w - 1)) % 2 ^ w - 2 ^ (w - 1)

/-- The low and the high half of a word as Q15. -/
def lowHalf (a : Word) : Int := (a.setWidth 16).toInt
def highHalf (a : Word) : Int := ((a >>> 16).setWidth 16).toInt

/-- The exact value that MUL stores (R105). -/
def mulExact (t : Word) (ty : MulType) (rov : Rov) (a b : Word) : Int :=
  match ty with
  | .int => a.toInt * b.toInt
  | .inth => a.toInt * b.toInt / 2 ^ 32
  | .q31 => rounded (roundMode t rov) 31 (a.toInt * b.toInt)
  | .q15 => lowHalf a * lowHalf b * 2

/-- The product that MAC adds, at the accumulator's weight (R106). -/
def macExact (ty : MacType) (a b : Word) : Int :=
  match ty with
  | .q31 => a.toInt * b.toInt * 2
  | .q15 => lowHalf a * lowHalf b * 2 ^ 33
  | .int => a.toInt * b.toInt
  | .dual => (lowHalf a * lowHalf b + highHalf a * highHalf b) * 2 ^ 33

/-- Bits of an element and elements of a register: 16 and 16 with T = 0, 32 and 8 with T = 1 (R87). -/
def laneW (t : Bool) : Nat := if t then 32 else 16
def lanes (t : Bool) : Nat := if t then 8 else 16

/-- Element i of a v register, signed (R77). -/
def lane (t : Bool) (v : MemWord) (i : Nat) : Int := ((v >>> (laneW t * i)).setWidth (laneW t)).toInt

/-- The shift count in element i (R112): its low 8 bits, signed. -/
def laneCount (t : Bool) (v : MemWord) (i : Nat) : Int := ((v >>> (laneW t * i)).setWidth 8).toInt

/-- An arithmetic shift left by c, or right by −c with the bits shifted out discarded. -/
def shiftInt (x c : Int) : Int := if 0 ≤ c then x * 2 ^ c.toNat else x / 2 ^ (-c).toNat

/-- A vector instruction: spoke, T, destination, exact element values, and whether the scalar result is stored under TSW.SAT (R111). -/
structure VecOp where
  g : SpokeId
  t : Bool
  vd : VReg
  f : Nat → Int

/-- The element values of the vector instructions, with their operands read in state s (R111 to R114). -/
def vecForm (s : State) : Instr → Option VecOp
  | .vadd g t vd va vb => some ⟨g, t, vd, fun i => lane t (spk s g).v[va] i + lane t (spk s g).v[vb] i⟩
  | .vsub g t vd va vb => some ⟨g, t, vd, fun i => lane t (spk s g).v[va] i - lane t (spk s g).v[vb] i⟩
  | .vand g vd va vb => some ⟨g, false, vd, fun i => lane false ((spk s g).v[va] &&& (spk s g).v[vb]) i⟩
  | .vor g vd va vb => some ⟨g, false, vd, fun i => lane false ((spk s g).v[va] ||| (spk s g).v[vb]) i⟩
  | .vxor g vd va vb => some ⟨g, false, vd, fun i => lane false ((spk s g).v[va] ^^^ (spk s g).v[vb]) i⟩
  | .vshl g t vd va vb => some ⟨g, t, vd, fun i => shiftInt (lane t (spk s g).v[va] i) (laneCount t (spk s g).v[vb] i)⟩
  | .vshr g t vd va vb => some ⟨g, t, vd, fun i => shiftInt (lane t (spk s g).v[va] i) (-laneCount t (spk s g).v[vb] i)⟩
  | .vmin g t vd va vb => some ⟨g, t, vd, fun i => min (lane t (spk s g).v[va] i) (lane t (spk s g).v[vb] i)⟩
  | .vmax g t vd va vb => some ⟨g, t, vd, fun i => max (lane t (spk s g).v[va] i) (lane t (spk s g).v[vb] i)⟩
  | .vabs g t vd va => some ⟨g, t, vd, fun i => (lane t (spk s g).v[va] i).natAbs⟩
  | .vneg g t vd va => some ⟨g, t, vd, fun i => -lane t (spk s g).v[va] i⟩
  | .vperm g t vd va vb => some ⟨g, t, vd, fun i =>
      lane t (spk s g).v[va] (((spk s g).v[vb] >>> (laneW t * i)).toNat % lanes t)⟩
  | .vmul g t rov vd va vb => some ⟨g, t, vd, fun i =>
      rounded (roundMode (spk s g).tsw rov) (laneW t - 1) (lane t (spk s g).v[va] i * lane t (spk s g).v[vb] i)⟩
  | .vmac g t rov vd va vb => some ⟨g, t, vd, fun i => rounded (roundMode (spk s g).tsw rov) (laneW t - 1)
      (lane t (spk s g).v[vd] i * 2 ^ (laneW t - 1) + lane t (spk s g).v[va] i * lane t (spk s g).v[vb] i)⟩
  | .vmsc g t rov vd va vb => some ⟨g, t, vd, fun i => rounded (roundMode (spk s g).tsw rov) (laneW t - 1)
      (lane t (spk s g).v[vd] i * 2 ^ (laneW t - 1) - lane t (spk s g).v[va] i * lane t (spk s g).v[vb] i)⟩
  | _ => none

/-- The sum that VDOT adds, at Q63 (R113). -/
def dotExact (t : Bool) (a b : MemWord) : Int :=
  ((List.range (lanes t)).map fun i => lane t a i * lane t b i).sum * (if t then 2 else 2 ^ 33)

/-! ## Segments and memory -/

/-- A segment descriptor's fields (R79). -/
def descBase (d : BitVec 64) : Nat := d.toNat % 2 ^ 32
def descLimit (d : BitVec 64) : Nat := d.toNat / 2 ^ 32 % 2 ^ 26

/-- A descriptor of a bank segment with its rights (R79, R80): valid, no program segment, no device segment. -/
def bankSegment (d : BitVec 64) : Prop := d.getLsbD 63 = true ∧ d.getLsbD 62 = false ∧ d.getLsbD 61 = false

/-- The offset of an access (R81). -/
def accessOffset (ro : Word) (imm : Nat) : Nat := (ro.toNat + imm) % 2 ^ 32

/-- Every bank that n bytes from an address touch is owned by the cluster of a spoke and not draining (R156, R157, R159). -/
def ownsBytes (s : State) (g a n : Nat) (write : Bool) : Prop := refusing s (clusterOf g) (wordsOf a n) write = []

/-- The little-endian number in n bytes of memory from an address (R77, R155). -/
def bytesAt (s : State) (a n : Nat) : Nat := (List.range n).foldr (fun i x => (getByte s.mem.cells (a + i)).toNat + 256 * x) 0

/-- Every word that n bytes from an address touch has errors in at most one symbol, which every read corrects (R167). -/
def Sound (s : State) (a n : Nat) : Prop := ∀ w, w ∈ wordsOf a n → symbolsIn (errAt s w) ≤ 1

/-- The code finds no upset in any word (R167). -/
def allClean : MemOutcome := ⟨⟨.clean, .clean⟩, ⟨.clean, .clean⟩⟩

/-- From s to t memory holds the n low bytes of w from address a up, lowest first, and every other byte as it was. -/
def Wrote (s t : State) (a n w : Nat) : Prop :=
  ∀ x, getByte t.mem.cells x = if a ≤ x ∧ x < a + n then BitVec.ofNat 8 (w / 2 ^ (8 * (x - a))) else getByte s.mem.cells x

/-- Every byte of memory reads as before. -/
def SameBytes (s t : State) : Prop := ∀ x, getByte t.mem.cells x = getByte s.mem.cells x

/-- Spoke g has stopped with a fault: its code and its PC are recorded and no register has changed (R55, R61). -/
def Faulted (s t : State) (g code : Nat) : Prop :=
  (spk t g).st = .stopped ∧ (spk t g).cause = .fault ∧ (spk t g).fcode = BitVec.ofNat 8 code ∧ (spk t g).pc = (spk s g).pc
  ∧ (spk t g).g = (spk s g).g ∧ (spk t g).a = (spk s g).a ∧ (spk t g).v = (spk s g).v ∧ (spk t g).s = (spk s g).s
  ∧ (spk t g).tsw = (spk s g).tsw ∧ t.mem.cells = s.mem.cells

/-! ## Cadence -/

/-- From s to t axis n loses the input of its primary or of its secondary (R23, R24, R26): the primary of a tracking axis is replaced by a
secondary that is neither lost nor in disagreement, with no jump, else the axis coasts; the secondary's loss is recorded, and the axis coasts
where it runs on it. -/
def InputLost (s t : State) (n : Fin 17) (secondary : Bool) : Prop :=
  let stat := reg t (0x401C + 0x40 * n.val)
  let coasts : Prop := (axis t n).st = .coasting ∧ (axis t n).tLoss = s.bc ∧ stat.getLsbD 10 = true
  (secondary = true → (axis t n).secLost = true
    ∧ ((axis s n).onSec = true → (axis s n).st = .tracking → coasts)
    ∧ ((axis s n).onSec = false → (axis t n).st = (axis s n).st ∧ (axis t n).p = (axis s n).p
        ∧ ((axis s n).secLost = false → stat.getLsbD 15 = true)))
  ∧ (secondary = false → (axis s n).onSec = false → (axis s n).st = .tracking →
    if hasSec s n = true ∧ (axis s n).secLost = false ∧ (axis s n).disAct = false then
      (axis t n).onSec = true ∧ (axis t n).st = .tracking ∧ (axis t n).p = (axis s n).p ∧ stat.getLsbD 14 = true
    else coasts)

/-! ## Pin engines -/

/-- A context behind a word that completes (R124, R125): the branch target, the loop start where the loop bit is set, else the next
word; the turns to skip; running unless turns or PAUSE remain. -/
def wordDone (y : Ctx) (loop : Bool) (skip : Nat) (target : Option (BitVec 8)) : Ctx :=
  { y with
    pc := target.getD (if loop then (if y.bank then y.loop1 else y.loop0) else y.pc + 1)
    delay := skip + y.carry, carry := 0, wait := none
    st := if skip + y.carry = 0 ∧ y.pause = 0 then .run else .delay }

/-- A bit into CAP (R128), and EMT with a bit out (R129). -/
def capIn (x : Ctx) (b : Bool) : Ctx :=
  { x with
    cap := if x.cdir then (x.cap >>> 1) ||| (if b then 0x80000000 else 0) else (x.cap <<< 1) ||| (if b then 1 else 0)
    capn := min 32 (x.capn + 1) }
def emtBit (x : Ctx) : Bool := x.emt.getLsbD (if x.edir then 0 else 31)
def emtOut (x : Ctx) : Ctx := { x with emt := if x.edir then x.emt >>> 1 else x.emt <<< 1, emtl := x.emtl - 1 }

/-- AUTOSEND would act on the next bit into CAP; AUTOFILL on the next bit out of EMT. -/
def sends (x : Ctx) : Bool := x.autosend && decide (x.cfl ≤ min 32 (x.capn + 1))
def fills (x : Ctx) : Bool := x.autofill && x.emtl == 0

/-- What the group's pins show to a context, in the low bits (R130, R132). -/
def pinsSeen (x : Ctx) (pins : BitVec 64) : Word := BitVec.ofNat 32 (pins.toNat / 2 ^ x.base % 2 ^ x.count % 2 ^ 32)

/-- A word of a context: where it stands, its loop bit, the turns it skips, the context's registers after it, its branch target. -/
structure PenWordForm where
  x : CtxId
  loop : Bool
  skip : Nat
  after : Ctx
  target : Option (BitVec 8)

/-- The words that change a context's registers alone, with the registers read in state s (R126 to R133): for each the forms that
complete. -/
def penForm (s : State) : Instr → Option PenWordForm
  | .auxNop x b n => some ⟨x, b.loop, n.toNat, ctxAt s x.engine x.ctx, none⟩
  | .auxTriggerWait x b n => if (ctxAt s x.engine x.ctx).trig then
      some ⟨x, b.loop, n.toNat, { ctxAt s x.engine x.ctx with trig := false }, none⟩ else none
  | .auxInboxWait x b n => if (ctxAt s x.engine x.ctx).inbox.isSome then some ⟨x, b.loop, n.toNat, ctxAt s x.engine x.ctx, none⟩ else none
  | .auxOutboxWait x b n => if (ctxAt s x.engine x.ctx).outbox.isNone then some ⟨x, b.loop, n.toNat, ctxAt s x.engine x.ctx, none⟩ else none
  | .hold x b n .low off level => if !(level && decide (off.toNat < (ctxAt s x.engine x.ctx).count)) then
      some ⟨x, b.loop, n.toNat, ctxAt s x.engine x.ctx, none⟩ else none
  | .hold x b n .high off level => if level && decide (off.toNat < (ctxAt s x.engine x.ctx).count) then
      some ⟨x, b.loop, n.toNat, ctxAt s x.engine x.ctx, none⟩ else none
  | .auxShift0 x b n => if sends (ctxAt s x.engine x.ctx) then none else
      some ⟨x, b.loop, n.toNat, capIn (ctxAt s x.engine x.ctx) false, none⟩
  | .auxShift1 x b n => if sends (ctxAt s x.engine x.ctx) then none else
      some ⟨x, b.loop, n.toNat, capIn (ctxAt s x.engine x.ctx) true, none⟩
  | .auxShiftTa x b n => if sends (ctxAt s x.engine x.ctx) then none else
      some ⟨x, b.loop, n.toNat, capIn (ctxAt s x.engine x.ctx) ((ctxAt s x.engine x.ctx).ta.getLsbD 0), none⟩
  | .auxShiftTb x b n => if sends (ctxAt s x.engine x.ctx) then none else
      some ⟨x, b.loop, n.toNat, capIn (ctxAt s x.engine x.ctx) ((ctxAt s x.engine x.ctx).tb.getLsbD 0), none⟩
  | .samp x b n off level => if sends (ctxAt s x.engine x.ctx) then none else
      some ⟨x, b.loop, n.toNat, capIn (ctxAt s x.engine x.ctx) (level && decide (off.toNat < (ctxAt s x.engine x.ctx).count)), none⟩
  | .auxEmitDiscard x b n => if fills (ctxAt s x.engine x.ctx) then none else
      some ⟨x, b.loop, n.toNat, emtOut (ctxAt s x.engine x.ctx), none⟩
  | .auxEmitTa x b n => if fills (ctxAt s x.engine x.ctx) then none else
      some ⟨x, b.loop, n.toNat, { emtOut (ctxAt s x.engine x.ctx) with
        ta := ((ctxAt s x.engine x.ctx).ta <<< 1) ||| (if emtBit (ctxAt s x.engine x.ctx) then 1 else 0) }, none⟩
  | .auxEmitTb x b n => if fills (ctxAt s x.engine x.ctx) then none else
      some ⟨x, b.loop, n.toNat, { emtOut (ctxAt s x.engine x.ctx) with
        tb := ((ctxAt s x.engine x.ctx).tb <<< 1) ||| (if emtBit (ctxAt s x.engine x.ctx) then 1 else 0) }, none⟩
  | .take x b n _ dst => (ctxAt s x.engine x.ctx).inbox.bind fun w =>
      match dst with
      | .emt => some ⟨x, b.loop, n.toNat, { ctxAt s x.engine x.ctx with
          inbox := none, e := w.2, emt := w.1, emtl := (ctxAt s x.engine x.ctx).efl }, none⟩
      | .ta => some ⟨x, b.loop, n.toNat, { ctxAt s x.engine x.ctx with inbox := none, e := w.2, ta := w.1 }, none⟩
      | .tb => some ⟨x, b.loop, n.toNat, { ctxAt s x.engine x.ctx with inbox := none, e := w.2, tb := w.1 }, none⟩
      | .refill => some ⟨x, b.loop, n.toNat, (if (ctxAt s x.engine x.ctx).emtl = 0 then { ctxAt s x.engine x.ctx with
          inbox := none, e := w.2, emt := w.1, emtl := (ctxAt s x.engine x.ctx).efl } else ctxAt s x.engine x.ctx), none⟩
  | .put x b .ta v => some ⟨x, b.loop, 0, { ctxAt s x.engine x.ctx with ta := v.setWidth 32 }, none⟩
  | .put x b .tb v => some ⟨x, b.loop, 0, { ctxAt s x.engine x.ctx with tb := v.setWidth 32 }, none⟩
  | .bAl x b d => some ⟨x, b.loop, 0, ctxAt s x.engine x.ctx, some d⟩
  | .bLa x b d => some ⟨x, b.loop, 0, { ctxAt s x.engine x.ctx with ta := (ctxAt s x.engine x.ctx).ta - 1 },
      if (ctxAt s x.engine x.ctx).ta = 1 then none else some d⟩
  | .bLb x b d => some ⟨x, b.loop, 0, { ctxAt s x.engine x.ctx with tb := (ctxAt s x.engine x.ctx).tb - 1 },
      if (ctxAt s x.engine x.ctx).tb = 1 then none else some d⟩
  | .bZa x b d => some ⟨x, b.loop, 0, ctxAt s x.engine x.ctx, if (ctxAt s x.engine x.ctx).ta = 0 then some d else none⟩
  | .bEq x b d => some ⟨x, b.loop, 0, ctxAt s x.engine x.ctx,
      if (ctxAt s x.engine x.ctx).ta = (ctxAt s x.engine x.ctx).tb then some d else none⟩
  | .bPh x b d level => some ⟨x, b.loop, 0, ctxAt s x.engine x.ctx,
      if level && decide ((ctxAt s x.engine x.ctx).testPin < (ctxAt s x.engine x.ctx).count) then some d else none⟩
  | .bEe x b d => some ⟨x, b.loop, 0, ctxAt s x.engine x.ctx, if (ctxAt s x.engine x.ctx).emtl = 0 then some d else none⟩
  | .bIb x b d => some ⟨x, b.loop, 0, ctxAt s x.engine x.ctx, if (ctxAt s x.engine x.ctx).inbox.isSome then some d else none⟩
  | _ => none

/-- The word that a COPY takes from its source (R132), but for STATUS and the inbox. -/
def copyValue (x : Ctx) (pins : BitVec 64) : CopySrc → Option Word
  | .pins => some (pinsSeen x pins)
  | .ta => some x.ta
  | .tb => some x.tb
  | .cap => some x.cap
  | .emt => some x.emt
  | .zero => some 0
  | .ones => some 0xFFFFFFFF
  | .notTa => some (~~~x.ta)
  | .notTb => some (~~~x.tb)
  | .revTa => some x.ta.reverse
  | .status | .inbox => none

/-- Context x is at its turn and no bank switch is pending (R122, R138). -/
structure AtTurn (s : State) (x : CtxId) : Prop where
  turn : penTurn s x.engine x.ctx = true
  calm : (eng s x.engine).pending = false

/-- STAT of an engine. -/
def penStat (e : Nat) : Nat := 0xA01C + 0x20 * e

/-- Nothing differs but context x, what its engine keeps of this ECLK (its shifters' use, its wakes) and its STAT, PEN_OVF_COUNT, the pins,
the channels and the triggers under way. -/
def OnlyCtx (s t : State) (x : CtxId) : Prop :=
  (∀ e c, e ≠ x.engine.val ∨ c ≠ x.ctx.val → ctxAt t e c = ctxAt s e c)
  ∧ (∀ e, e ≠ x.engine.val → eng t e = eng s e)
  ∧ (∀ g, g = eng t x.engine → eng s x.engine = { g with
      ctxs := (eng s x.engine).ctxs, capUsed := (eng s x.engine).capUsed, emtUsed := (eng s x.engine).emtUsed
      reflex := (eng s x.engine).reflex, due := (eng s x.engine).due })
  ∧ t = { s with pen := t.pen, regs := t.regs, chans := t.chans, cad := { s.cad with trigQ := t.cad.trigQ } }
  ∧ ∀ k, k ≠ penStat x.engine → k ≠ 0xA834 → reg t k = reg s k

/-- A context that is blocked in a word (R122). -/
def blockedIn (c : Ctx) (b : WordBits) : Ctx := { c with st := .blocked, wait := some .retry, waitBits := b }

/-- The bit that a word shifts into CAP, with the registers read in state s (R127, R128). -/
def capBit (s : State) : Instr → Option (CtxId × WordBits × Nat × Bool)
  | .auxShift0 x b n => some (x, b, n.toNat, false)
  | .auxShift1 x b n => some (x, b, n.toNat, true)
  | .auxShiftTa x b n => some (x, b, n.toNat, (ctxAt s x.engine x.ctx).ta.getLsbD 0)
  | .auxShiftTb x b n => some (x, b, n.toNat, (ctxAt s x.engine x.ctx).tb.getLsbD 0)
  | .samp x b n off level => some (x, b, n.toNat, level && decide (off.toNat < (ctxAt s x.engine x.ctx).count))
  | _ => none

/-- The word that a SEND stages, none for a FULL below its frame length, and the context with CAP cleared where it was staged (R130). -/
def sendWord (s : State) (c : Ctx) (pins : BitVec 64) : SendSrc → Option Word × Ctx
  | .cap => (some c.cap, { c with cap := 0, capn := 0 })
  | .pins => (some (pinsSeen c pins), c)
  | .ta => (some c.ta, c)
  | .tb => (some c.tb, c)
  | .stamp => (some (BitVec.ofNat 32 s.bc), c)
  | .full => if c.cfl ≤ c.capn then (some c.cap, { c with cap := 0, capn := 0 }) else (none, c)

/-! ## Configuration -/

/-- Two cocoon copies are alike in all but the upsets of their cells. -/
def SameCopy (c d : Copy) : Prop := { c with bad := [] } = { d with bad := [] }

/-! ## The debug wire -/

/-- A session of at least a level is under way on a powered debug domain (R316, R317). -/
structure InSession (s : State) (n : Nat) : Prop where
  good : s.pwr.vdbgGood = true
  started : s.dbg.session = true
  level : n ≤ s.dbg.level.toNat

/-- DBG_RUN_SEL names spoke g, which the configuration lists, unpaired and at an issue-unit boundary (R62, R326). -/
structure Selected (s : State) (g : Nat) : Prop where
  sel : s.dbg.runSel.toNat = 4 * g
  listed : (spk s g).listed = true
  solo : (spk s g).pair = none
  noSlot : (spk s g).slot = none

end Sys2Proof
end

