-- ==== Sys2Proof/Certificates/Slice0/Obligations.lean ====
section
/-! DEFINITION. The statements about the block, for the provers. Each name says what it states; the terms are those of Safety.lean. -/
open Sys2Proof Sys2Proof.Machine

/-! ## The machine -/

/-- A step with the command c in front of the queue is exec of c with the queue's rest; with an empty queue it is one bc (log entry
2), which leaves the queue empty. -/
def Obligations.StepRunsTheFrontCommand : Prop :=
  (∀ (s : State) (c : Instr) (rest : List Instr), step { s with pending := c :: rest } = exec c { s with pending := rest })
  ∧ ∀ s : State, s.pending = [] → step s = .next (tick s) ∧ (tick s).pending = []

/-- Main memory keeps its canonical form over every step: addresses rising, no listed byte zero (log entry 5). -/
def Obligations.MemoryStaysCanonical : Prop :=
  ∀ s t : State, s.mem.wf = true → step s = .next t → t.mem.wf = true

/-- Every command is taken from the front of the queue and none is added or lost: first in, first out. -/
def Obligations.QueueIsFirstInFirstOut : Prop :=
  ∀ s t : State, step s = .next t → t.pending = s.pending.tail

/-- Right after reset memory is in canonical form and lists nothing, no command waits, the core domains are in reset and the block
is not released (R340 to R343). Power-on gives the reset state with the straps sampled, and a group whose VIO is good is in
chrysalis mode; VMEM below its level loses main memory, programs and cocoon and resets the core domains, and its return is a
cold start; the core domains leave reset with VMEM good, 1 µs after it began; once the zero writing ends every byte is zero
(R12, R341 to R344). The model’s choices in this: log entries 5, 29, 77, 86. -/
def Obligations.ResetAndStartUp : Prop :=
  (State.reset.mem.wf = true ∧ State.reset.mem.cells = [] ∧ State.reset.pending = [] ∧ State.reset.coreReset = true
   ∧ State.reset.released = false)
  ∧ (∀ (s : State),
       (∀ (straps : Vector Straps 8) (vio : BitVec 8), ∃ t, exec (.powerOnReset straps vio) s = .next t ∧ t.coreReset = true ∧ t.released = false
         ∧ t.mem = {} ∧ t.spokes = [] ∧ t.chans = [] ∧ t.cfg = {} ∧ t.coldStart = true ∧ t.pending = s.pending
         ∧ ∀ g : Fin 8, t.nrg[g].straps = straps[g] ∧ t.nrg[g].vioGood = vio.getLsbD g ∧ (vio.getLsbD g = true → (chry t g).active = true))
       ∧ (s.pwr.vmemGood = true → s.coreReset = false → ∃ t, exec .vmemResetLevel s = .next t ∧ t.pwr.vmemGood = false ∧ t.coreReset = true
         ∧ t.mem = {} ∧ t.progs = [] ∧ t.cfg = {} ∧ t.coldStart = true)
       ∧ (s.pwr.vmemGood = false → ∃ t, exec .vmemPowerUp s = .next t ∧ t.pwr.vmemGood = true ∧ t.mem = {} ∧ t.progs = [] ∧ t.cfg = {}
         ∧ t.coldStart = true ∧ t.host.rstCause = 0)
       ∧ (s.coreReset = true → 1000 ≤ s.resetAge → s.pwr.vmemGood = true → s.pwr.tripHold = false →
         ∃ t, exec .coreResetRelease s = .next t ∧ t.coreReset = false ∧ t.pwr.vcoreGood = true ∧ t.released = s.released ∧ t.mem = s.mem)
       ∧ (s.coreReset = false → s.mem.initDone = false →
         ∃ t, exec .memoryInitDone s = .next t ∧ t.mem.initDone = true ∧ t.mem.wf = true ∧ t.spokes = s.spokes ∧ ∀ a, getByte t.mem.cells a = 0))

/-- Only three commands can stop the block, and only for a channel identifier that names no channel (R50): every other command
answers a next state. The model’s choices in this: log entries 1, 78. -/
def Obligations.OnlyBadChannelsStop : Prop :=
  ∀ (c : Instr) (s : State), (∃ t, exec c s = .next t) ∨
    ((∃ ch : BitVec 14, 13 ≤ ch.toNat / 1024 ∧ (c = .truncatedMessageEnter ch ∨ c = .workMessageDeliver ch ∨ c = .resultRecord ch))
      ∧ exec c s = .fault .noChannel)

/-! ## Integer instructions -/

/-- ADD, SUB, ADDI, ADC, SBC, NEG, CMP, CMPI and their ALU3 forms: the destination takes the exact result stored under TSW.SAT (g0
discards it), C is the unsigned carry or the absence of a borrow, V the signed overflow, Z and N come from the stored value, SV
is set where saturation applied; a comparison stores nothing, never sets SV and takes its flags with no saturation (N as bit 31
of the difference: log entry 36). Nothing else changes. ABS: x where x ≥ 0, with C = 1 and V = 0; else 0 − x, which overflows
for the most negative value alone, with C = 0. -/
def Obligations.IntegerSumsAndAbs : Prop :=
  (∀ (s : State) (i : Instr) (x : Sum), sumForm s i = some x → Alone s x.g →
     ∃ t tsw, exec i s = .next t
       ∧ FlagsAre (spk s x.g).tsw tsw (stored (x.rd.isSome && (spk s x.g).tsw.getLsbD 10) x.exact == 0)
           (decide (stored (x.rd.isSome && (spk s x.g).tsw.getLsbD 10) x.exact < 0)) (some x.carry) (outside x.exact)
           (x.rd.isSome && (spk s x.g).tsw.getLsbD 10 && outside x.exact)
       ∧ Completed s t x.g x.n { spk s x.g with
           tsw := tsw
           g := match x.rd with
             | some rd => gSet (spk s x.g) rd (BitVec.ofInt 32 (stored ((spk s x.g).tsw.getLsbD 10) x.exact))
             | none => (spk s x.g).g })
  ∧ (∀ (s : State) (g : SpokeId) (rd : GReg), Alone s g →
       ∃ t tsw, exec (.abs g rd) s = .next t
         ∧ FlagsAre (spk s g).tsw tsw (rg (spk s g) rd == 0)
             (rg (spk s g) rd == 0x80000000 && !(spk s g).tsw.getLsbD 10) (some !(rg (spk s g) rd).msb) (rg (spk s g) rd == 0x80000000)
             (rg (spk s g) rd == 0x80000000 && (spk s g).tsw.getLsbD 10)
         ∧ Completed s t g 1 { spk s g with
             tsw := tsw
             g := gSet (spk s g) rd
               (if (rg (spk s g) rd).msb then BitVec.ofInt 32 (stored ((spk s g).tsw.getLsbD 10) (-(rg (spk s g) rd).toInt))
                else rg (spk s g) rd) })

/-- AND, OR, XOR, NOT, ANDN, ORN, MIN, MAX, MINU, MAXU, LOGI and their ALU3 forms: the word, Z and N from it, V cleared, C and SV as
they were; g0 discards the word and the flags still change. -/
def Obligations.LogicResult : Prop :=
  ∀ (s : State) (i : Instr) (g : SpokeId) (n : Nat) (rd : GReg) (w : Word), logicForm s i = some (g, n, rd, w) → Alone s g →
    ∃ t tsw, exec i s = .next t
      ∧ FlagsAre (spk s g).tsw tsw (w == 0) w.msb none false false
      ∧ Completed s t g n { spk s g with tsw := tsw, g := gSet (spk s g) rd w }

/-- LSL, LSR, ASR, ROT, SHI and the ALU3 shifts: the bits of a shift that cannot overflow, and an arithmetic left shift as the exact
product stored under TSW.SAT, with V and SV as it overflows; C as it was. -/
def Obligations.ShiftResult : Prop :=
  ∀ (s : State) (i : Instr) (g : SpokeId) (n : Nat) (rd : GReg) (k : ShiftKind) (a : Word) (c : Int),
    shiftForm s i = some (g, n, rd, k, a, c) → Alone s g →
    ∃ t tsw w, exec i s = .next t
      ∧ Completed s t g n { spk s g with tsw := tsw, g := gSet (spk s g) rd w }
      ∧ ((k ≠ .asr ∨ 0 ≤ c) → (∀ j, j < 32 → w.getLsbD j = shiftedBit k a c j)
          ∧ FlagsAre (spk s g).tsw tsw (w == 0) w.msb none false false)
      ∧ (k = .asr ∧ c < 0 → w = BitVec.ofInt 32 (stored ((spk s g).tsw.getLsbD 10) (a.toInt * 2 ^ (-c).toNat))
          ∧ FlagsAre (spk s g).tsw tsw (w == 0) w.msb none (outside (a.toInt * 2 ^ (-c).toNat))
              ((spk s g).tsw.getLsbD 10 && outside (a.toInt * 2 ^ (-c).toNat)))

/-- MOV, LDI, ORH, SXB, SXH, ZXB, ZXH, BREV, BSWP, TSR and RDA write their word and no flag. CLZ counts leading zero bits, 32 for
zero; CLS the bits below bit 31 equal to bit 31 before the first that differs; neither writes a flag. -/
def Obligations.MovesAndBitCounts : Prop :=
  (∀ (s : State) (i : Instr) (g : SpokeId) (n : Nat) (rd : GReg) (w : Word), moveForm s i = some (g, n, rd, w) → Alone s g →
     ∃ t, exec i s = .next t ∧ Completed s t g n { spk s g with g := gSet (spk s g) rd w })
  ∧ (∀ (s : State) (g : SpokeId) (rd : GReg), Alone s g →
       (∃ t n, exec (.clz g rd) s = .next t ∧ n ≤ 32
         ∧ Completed s t g 1 { spk s g with g := gSet (spk s g) rd (BitVec.ofNat 32 n) }
         ∧ (∀ j, j < n → (rg (spk s g) rd).getLsbD (31 - j) = false) ∧ (n < 32 → (rg (spk s g) rd).getLsbD (31 - n) = true))
       ∧ ∃ t n, exec (.cls g rd) s = .next t ∧ n ≤ 31
         ∧ Completed s t g 1 { spk s g with g := gSet (spk s g) rd (BitVec.ofNat 32 n) }
         ∧ (∀ j, j < n → (rg (spk s g) rd).getLsbD (30 - j) = (rg (spk s g) rd).msb)
         ∧ (n < 31 → (rg (spk s g) rd).getLsbD (30 - n) = !(rg (spk s g) rd).msb))

/-! ## Fixed point, division, accumulators, vectors -/

/-- MUL: INT the exact product, INTH its bits 63:32, Q31 the product rounded with k = 31, Q15 the product of the low halves times 2;
stored under TSW.SAT, with Z and N of the stored value, V and SV as it overflows, C as it was. -/
def Obligations.MulResult : Prop :=
  ∀ (s : State) (g : SpokeId) (ty : MulType) (rov : Rov) (rd ra rb : GReg), Alone s g →
    ∃ t tsw, exec (.mul g ty rov rd ra rb) s = .next t
      ∧ FlagsAre (spk s g).tsw tsw
          (stored ((spk s g).tsw.getLsbD 10) (mulExact (spk s g).tsw ty rov (rg (spk s g) ra) (rg (spk s g) rb)) == 0)
          (decide (stored ((spk s g).tsw.getLsbD 10) (mulExact (spk s g).tsw ty rov (rg (spk s g) ra) (rg (spk s g) rb)) < 0)) none
          (outside (mulExact (spk s g).tsw ty rov (rg (spk s g) ra) (rg (spk s g) rb)))
          ((spk s g).tsw.getLsbD 10 && outside (mulExact (spk s g).tsw ty rov (rg (spk s g) ra) (rg (spk s g) rb)))
      ∧ Completed s t g 2 { spk s g with
          tsw := tsw
          g := gSet (spk s g) rd (BitVec.ofInt 32 (stored ((spk s g).tsw.getLsbD 10)
            (mulExact (spk s g).tsw ty rov (rg (spk s g) ra) (rg (spk s g) rb)))) }

/-- DIV by a divisor other than 0, with a remainder register other than the quotient's: quotient truncated toward zero, remainder
from the exact quotient; Z, N and V from the quotient, stored under TSW.SAT except for the unsigned form, which never overflows. -/
def Obligations.DivResult : Prop :=
  ∀ (s : State) (g : SpokeId) (ty : DivType) (rq rr ra rb : GReg) (q r : Int), Alone s g → rq ≠ rr → rg (spk s g) rb ≠ 0 →
    (match ty with
      | .unsigned => q = ((rg (spk s g) ra).toNat / (rg (spk s g) rb).toNat : Nat)
          ∧ r = ((rg (spk s g) ra).toNat % (rg (spk s g) rb).toNat : Nat)
      | .signed => q = (rg (spk s g) ra).toInt.tdiv (rg (spk s g) rb).toInt ∧ r = (rg (spk s g) ra).toInt - q * (rg (spk s g) rb).toInt
      | .q31 => q = ((rg (spk s g) ra).toInt * 2 ^ 31).tdiv (rg (spk s g) rb).toInt
          ∧ r = (rg (spk s g) ra).toInt * 2 ^ 31 - q * (rg (spk s g) rb).toInt) →
    ∃ t tsw w, exec (.div g ty rq rr ra rb) s = .next t
      ∧ w = (if ty = .unsigned then BitVec.ofInt 32 q else BitVec.ofInt 32 (stored ((spk s g).tsw.getLsbD 10) q))
      ∧ FlagsAre (spk s g).tsw tsw (w == 0) w.msb none (ty != .unsigned && outside q)
          (ty != .unsigned && (spk s g).tsw.getLsbD 10 && outside q)
      ∧ Completed s t g 2 { spk s g with
          tsw := tsw
          g := gSet { spk s g with g := gSet (spk s g) rq w } rr (BitVec.ofInt 32 r) }

/-- DIV by 0: with TSW.DZT = 0, q is 0x7FFF_FFFF or 0x8000_0000 by the sign of ra (signed, Q31) or 0xFFFF_FFFF (unsigned), r is ra,
V and DZ are set and SV is not; with TSW.DZT = 1, DIV faults DIV_ZERO (code 0x0C) with nothing changed. -/
def Obligations.DivideByZero : Prop :=
  ∀ (s : State) (g : SpokeId) (ty : DivType) (rq rr ra rb : GReg), Alone s g → rq ≠ rr → rg (spk s g) rb = 0 →
    ((spk s g).tsw.getLsbD 11 = false →
      ∃ t tsw w, exec (.div g ty rq rr ra rb) s = .next t
        ∧ w = (if ty = .unsigned then 0xFFFFFFFF else if 0 ≤ (rg (spk s g) ra).toInt then 0x7FFFFFFF else 0x80000000)
        ∧ FlagsAre ((spk s g).tsw ||| 0x20) tsw (w == 0) w.msb none true false
        ∧ Completed s t g 2 { spk s g with
            tsw := tsw
            g := gSet { spk s g with g := gSet (spk s g) rq w } rr (rg (spk s g) ra) })
    ∧ ((spk s g).tsw.getLsbD 11 = true → ∃ t, exec (.div g ty rq rr ra rb) s = .next t ∧ Faulted s t g 0xC)

/-- MAC, ADDA and VDOT add exactly and saturate at 72 bits with SV; EXT and EXT16 round with k = 32 and 48 and saturate to Q31 and
Q15, with Z, N, V and SV; CLRA, MOVA, SHRA and WRA write the accumulator and no flag. -/
def Obligations.AccumulatorResult : Prop :=
  ∀ (s : State) (g : SpokeId), Alone s g →
    (∀ (c : Instr) (x : AReg) (e : Int),
      ((∃ ty sub ra rb, c = .mac g ty sub x ra rb ∧ e = (spk s g).a[x].toInt
          + (if sub then -macExact ty (rg (spk s g) ra) (rg (spk s g) rb) else macExact ty (rg (spk s g) ra) (rg (spk s g) rb)))
        ∨ (∃ y, c = .adda g x y ∧ e = (spk s g).a[x].toInt + (spk s g).a[y].toInt)
        ∨ (∃ tt va vb, c = .vdot g tt x va vb ∧ e = (spk s g).a[x].toInt + dotExact tt (spk s g).v[va] (spk s g).v[vb])) →
      ∃ t tsw, exec c s = .next t
        ∧ FlagsAre (spk s g).tsw tsw ((spk s g).tsw.getLsbD 0) ((spk s g).tsw.getLsbD 1) none ((spk s g).tsw.getLsbD 3) (outsideW 72 e)
        ∧ Completed s t g 2 { spk s g with tsw := tsw, a := (spk s g).a.set x (BitVec.ofInt 72 (clampW 72 e)) })
    ∧ (∀ (rov : Rov) (x : GReg) (y : AReg) (sh : BitVec 4) (half : Bool),
      ∃ t tsw e, exec (if half then .ext16 g rov x y sh else .ext g rov x y sh) s = .next t
        ∧ e = rounded (roundMode (spk s g).tsw rov) (if half then 48 else 32) ((spk s g).a[y].toInt * 2 ^ sh.toNat)
        ∧ FlagsAre (spk s g).tsw tsw (clampW (if half then 16 else 32) e == 0) (decide (clampW (if half then 16 else 32) e < 0)) none
            (outsideW (if half then 16 else 32) e) (outsideW (if half then 16 else 32) e)
        ∧ Completed s t g 2 { spk s g with
            tsw := tsw, g := gSet (spk s g) x (BitVec.ofInt 32 (clampW (if half then 16 else 32) e)) })
    ∧ (∀ (c : Instr) (x : AReg) (e : Int),
      (c = .clra g x ∧ e = 0
        ∨ (∃ y, c = .mova g x y ∧ e = (rg (spk s g) y).toInt * 2 ^ 32)
        ∨ (∃ rov sh, c = .shra g rov x sh ∧ e = rounded (roundMode (spk s g).tsw rov) sh.toNat (spk s g).a[x].toInt)
        ∨ (∃ y, c = .wra g x y .lo ∧ e = ((spk s g).a[x].toNat / 2 ^ 32 * 2 ^ 32 + (rg (spk s g) y).toNat : Nat))
        ∨ (∃ y, c = .wra g x y .hi ∧ e = ((spk s g).a[x].toNat / 2 ^ 64 * 2 ^ 64 + (rg (spk s g) y).toNat * 2 ^ 32
            + (spk s g).a[x].toNat % 2 ^ 32 : Nat))
        ∨ (∃ y, c = .wra g x y .guard ∧ e = ((rg (spk s g) y).toNat % 256 * 2 ^ 64 + (spk s g).a[x].toNat % 2 ^ 64 : Nat))) →
      ∃ t, exec c s = .next t ∧ Completed s t g 2 { spk s g with a := (spk s g).a.set x (BitVec.ofInt 72 e) })

/-- Every vector instruction of VOP and VMAC but VDOT: element i of the destination is the scalar result of element i of the sources
at the element's width, stored under TSW.SAT; SV is set when an element saturates; Z, N, C and V stay. -/
def Obligations.VectorResult : Prop :=
  ∀ (s : State) (c : Instr) (x : VecOp), vecForm s c = some x → Alone s x.g →
    ∃ t tsw w, exec c s = .next t
      ∧ (∀ i, i < lanes x.t → lane x.t w i = storedW (laneW x.t) ((spk s x.g).tsw.getLsbD 10) (x.f i))
      ∧ FlagsAre (spk s x.g).tsw tsw ((spk s x.g).tsw.getLsbD 0) ((spk s x.g).tsw.getLsbD 1) none ((spk s x.g).tsw.getLsbD 3)
          ((spk s x.g).tsw.getLsbD 10 && (List.range (lanes x.t)).any fun i => outsideW (laneW x.t) (x.f i))
      ∧ Completed s t x.g 2 { spk s x.g with tsw := tsw, v := (spk s x.g).v.set x.vd w }

/-- VINS, VEXT, VSPL, VMOVV and VZERO move elements and write no flags. -/
def Obligations.ElementMoves : Prop :=
  ∀ (s : State) (g : SpokeId) (tt : Bool) (k : BitVec 4) (x y : VReg) (r : GReg), Alone s g → k.toNat < lanes tt →
    (∃ t w, exec (.vins g tt k x r) s = .next t ∧ Completed s t g 2 { spk s g with v := (spk s g).v.set x w }
      ∧ ∀ i, i < lanes tt → lane tt w i =
          if i = k.toNat then ((rg (spk s g) r).setWidth (laneW tt)).toInt else lane tt (spk s g).v[x] i)
    ∧ (∃ t, exec (.vext g tt k r y) s = .next t
      ∧ Completed s t g 2 { spk s g with g := gSet (spk s g) r (BitVec.ofInt 32 (lane tt (spk s g).v[y] k.toNat)) })
    ∧ (∃ t w, exec (.vspl g tt x r) s = .next t ∧ Completed s t g 2 { spk s g with v := (spk s g).v.set x w }
      ∧ ∀ i, i < lanes tt → lane tt w i = ((rg (spk s g) r).setWidth (laneW tt)).toInt)
    ∧ (∃ t, exec (.vmovv g x y) s = .next t ∧ Completed s t g 2 { spk s g with v := (spk s g).v.set x (spk s g).v[y] })
    ∧ ∃ t, exec (.vzero g x) s = .next t ∧ Completed s t g 2 { spk s g with v := (spk s g).v.set x 0 }

/-! ## Segments and TSW -/

/-- SNB, SNL, SMOV, SRB, SRL and SRR of a valid descriptor, and SINV: the new descriptor keeps P, D and V and masks R, W and L, its
BASE and LIMIT are those of the table; an invalid source faults SEG_INVALID (0x04), and SNB past LIMIT faults SEG_LIMIT (0x06). -/
def Obligations.SegmentArithmetic : Prop :=
  ∀ (s : State) (g : SpokeId) (sd ss : SReg) (r : GReg) (m : BitVec 3) (d : BitVec 64), Alone s g → d = (spk s g).s[ss] →
    (∃ t, exec (.sinv g sd) s = .next t ∧ Completed s t g 2 { spk s g with s := (spk s g).s.set sd 0 })
    ∧ (d.getLsbD 63 = true →
      (∃ t, exec (.smov g sd ss m) s = .next t ∧ Completed s t g 2 { spk s g with
          s := (spk s g).s.set sd (d.extractLsb' 61 3 ++ (d.extractLsb' 58 3 &&& m) ++ d.extractLsb' 0 58) })
      ∧ (∃ t, exec (.snl g sd ss r m) s = .next t ∧ Completed s t g 2 { spk s g with
          s := (spk s g).s.set sd (d.extractLsb' 61 3 ++ (d.extractLsb' 58 3 &&& m)
            ++ BitVec.ofNat 26 (min (descLimit d) (rg (spk s g) r).toNat) ++ d.extractLsb' 0 32) })
      ∧ ((rg (spk s g) r).toNat ≤ descLimit d → ∃ t, exec (.snb g sd ss r m) s = .next t
          ∧ Completed s t g 2 { spk s g with
            s := (spk s g).s.set sd (d.extractLsb' 61 3 ++ (d.extractLsb' 58 3 &&& m)
              ++ BitVec.ofNat 26 (descLimit d - (rg (spk s g) r).toNat) ++ (d.extractLsb' 0 32 + rg (spk s g) r)) })
      ∧ (descLimit d < (rg (spk s g) r).toNat → ∃ t, exec (.snb g sd ss r m) s = .next t ∧ Faulted s t g 6)
      ∧ (∃ t, exec (.srb g r ss) s = .next t ∧ Completed s t g 2 { spk s g with g := gSet (spk s g) r (d.setWidth 32) })
      ∧ (∃ t, exec (.srl g r ss) s = .next t
          ∧ Completed s t g 2 { spk s g with g := gSet (spk s g) r (BitVec.ofNat 32 (descLimit d)) })
      ∧ ∃ t, exec (.srr g r ss) s = .next t
          ∧ Completed s t g 2 { spk s g with g := gSet (spk s g) r (BitVec.ofNat 32 (d.toNat / 2 ^ 58)) })
    ∧ (d.getLsbD 63 = false → ∀ c : Instr, (c = .snb g sd ss r m ∨ c = .snl g sd ss r m ∨ c = .smov g sd ss m ∨ c = .srb g r ss
        ∨ c = .srl g r ss ∨ c = .srr g r ss) → ∃ t, exec c s = .next t ∧ Faulted s t g 4)

/-- TSWR writes bits 11:0 and leaves REPN and the reserved bits; TSWM writes the modes whose write bits are set, and CLS clears SV
and DZ; PSYNC and, on an unpaired spoke, CKPT change no register. The illegal forms fault ILLEGAL_OP (code 0x01) with the PC at
the instruction and no register or memory changed: ILL, an ALU3 CMP with a destination, a DIV whose two results name one
register, an element index of 8 or more with T = 1, a STOP of itself that names a target, and every other illegal encoding, of
one parcel or two, of any class. -/
def Obligations.StatusWritesAndIllegalForms : Prop :=
  (∀ (s : State) (g : SpokeId), Alone s g →
     (∀ rs : GReg, ∃ t, exec (.tswr g rs) s = .next t ∧ Completed s t g 1 { spk s g with
         tsw := (spk s g).tsw.extractLsb' 12 20 ++ (rg (spk s g) rs).setWidth 12 })
     ∧ (∀ (dzt sat : Bool) (rnd : BitVec 2) (wd ws wr cls : Bool), ∃ t tsw, exec (.tswm g dzt sat rnd wd ws wr cls) s = .next t
         ∧ Completed s t g 2 { spk s g with tsw := tsw }
         ∧ ∀ i, i < 32 → tsw.getLsbD i =
             if i = 4 ∨ i = 5 then (spk s g).tsw.getLsbD i && !cls
             else if i = 8 then (if wr then rnd.getLsbD 0 else (spk s g).tsw.getLsbD 8)
             else if i = 9 then (if wr then rnd.getLsbD 1 else (spk s g).tsw.getLsbD 9)
             else if i = 10 then (if ws then sat else (spk s g).tsw.getLsbD 10)
             else if i = 11 then (if wd then dzt else (spk s g).tsw.getLsbD 11)
             else (spk s g).tsw.getLsbD i)
     ∧ (∃ t, exec (.psync g) s = .next t ∧ Completed s t g 1 { spk s g with stale := false })
     ∧ ∃ t, exec (.ckpt g) s = .next t ∧ Completed s t g 1 (spk s g))
  ∧ (∀ (s : State) (g : SpokeId) (c : Instr), Alone s g →
       ((∃ two cls, c = .ill g two cls)
         ∨ (∃ rd ra rb, rd ≠ 0 ∧ c = .alu3 g .cmp rd ra rb)
         ∨ (∃ ty rq ra rb, c = .div g ty rq rq ra rb)
         ∨ (∃ k x r, 8 ≤ k.toNat ∧ c = .vins g true k x r)
         ∨ (∃ k x r, 8 ≤ k.toNat ∧ c = .vext g true k r x)
         ∨ (∃ core spoke, (core ≠ 0 ∨ spoke ≠ 0) ∧ c = .stop g true core spoke)) →
       ∃ t, exec c s = .next t ∧ Faulted s t g 1)

/-! ## Memory accesses of a spoke -/

/-- ST and VST through a bank segment with W, inside its LIMIT and on banks of the cluster: exactly the bytes of the access change,
lowest first, and the spoke goes on with its registers unchanged. -/
def Obligations.StoreWritesItsBytes : Prop :=
  ∀ (s : State) (g : SpokeId) (ro : GReg) (seg : SReg) (imm : BitVec 7) (c : Instr) (n w a : Nat), Alone s g → s.mem.wf = true →
    ((∃ size rs, c = .st g size rs ro seg imm allClean ∧ n = (match size with | .b1 => 1 | .b2 => 2 | .b4 => 4)
        ∧ w = (rg (spk s g) rs).toNat)
      ∨ ∃ size vs, c = .vst g size vs ro seg imm allClean ∧ n = (match size with | .b8 => 8 | .b16 => 16 | .b32 => 32)
        ∧ w = ((spk s g).v[vs]).toNat) →
    bankSegment (spk s g).s[seg] → (spk s g).s[seg].getLsbD 59 = true →
    accessOffset (rg (spk s g) ro) (imm.toNat * n) + n - 1 ≤ descLimit (spk s g).s[seg] →
    a = (descBase (spk s g).s[seg] + accessOffset (rg (spk s g) ro) (imm.toNat * n)) % 2 ^ 32 →
    ownsBytes s g a n true → Sound s a n →
    ∃ t, exec c s = .next t ∧ Wrote s t a n w
      ∧ (spk t g).pc = (spk s g).pc + 2 ∧ (spk t g).g = (spk s g).g ∧ (spk t g).a = (spk s g).a ∧ (spk t g).v = (spk s g).v
      ∧ (spk t g).s = (spk s g).s ∧ (spk t g).tsw = (spk s g).tsw ∧ (spk t g).st = .run ∧ t.progs = s.progs ∧ t.chans = s.chans

/-- LD, VLD, LDL and LDA through a bank segment with R (LDL also L, at a multiple of 4), inside its LIMIT, on banks of the cluster:
the destination shows pending until LOAD_COMPLETE brings the bytes, lowest address first, zero- or sign-extended; LDL also takes
the reservation of its word. No byte of memory changes. A device load of the word at SELF + 8 (GEN) gives the committed
configuration generation once DEVICE_LOAD_COMPLETE serves it. The model’s choices in this: log entries 7, 59. -/
def Obligations.LoadsDeliver : Prop :=
  (∀ (s : State) (g : SpokeId) (ro : GReg) (seg : SReg) (imm : BitVec 7) (c : Instr) (n a : Nat) (dest : LoadDest) (sx ll : Bool),
     Alone s g →
     ((∃ size rd, c = .ld g size sx rd ro seg imm ∧ dest = .g rd ∧ ll = false ∧ n = (match size with | .b1 => 1 | .b2 => 2 | .b4 => 4))
       ∨ (∃ size vd, c = .vld g size vd ro seg imm ∧ dest = .v vd ∧ ll = false ∧ sx = false
           ∧ n = (match size with | .b8 => 8 | .b16 => 16 | .b32 => 32))
       ∨ (∃ rd, c = .ldl g rd ro seg imm ∧ dest = .g rd ∧ ll = true ∧ sx = false ∧ n = 4)
       ∨ (∃ size rd, c = .lda g (.scalar size rd) ro seg imm ∧ dest = .g rd ∧ ll = false ∧ sx = false
           ∧ n = (match size with | .b1 => 1 | .b2 => 2 | .b4 => 4))
       ∨ (∃ size vd, c = .lda g (.vectorS size vd) ro seg imm ∧ dest = .v vd ∧ ll = false ∧ sx = false
           ∧ n = (match size with | .b1 => 1 | .b2 => 2 | .b4 => 4))
       ∨ (∃ size vd, c = .lda g (.vectorV size vd) ro seg imm ∧ dest = .v vd ∧ ll = false ∧ sx = false
           ∧ n = (match size with | .b8 => 8 | .b16 => 16 | .b32 => 32))) →
     bankSegment (spk s g).s[seg] → (spk s g).s[seg].getLsbD 58 = true → (ll = true → (spk s g).s[seg].getLsbD 60 = true) →
     accessOffset (rg (spk s g) ro) (imm.toNat * n) + n - 1 ≤ descLimit (spk s g).s[seg] →
     a = (descBase (spk s g).s[seg] + accessOffset (rg (spk s g) ro) (imm.toNat * n)) % 2 ^ 32 → (ll = true → a % 4 = 0) →
     ownsBytes s g a n false → Sound s a n →
     ∃ t u, exec c s = .next t ∧ exec (.loadComplete g allClean) t = .next u
       ∧ (spk t g).g = (spk s g).g ∧ (spk t g).v = (spk s g).v ∧ (dest ≠ .g 0 → pendingBit (spk t g) dest = true)
       ∧ (spk t g).pc = (spk s g).pc + 2 ∧ (spk u g).pc = (spk s g).pc + 2
       ∧ (spk t g).resv = (if ll then some (a / 32) else (spk s g).resv)
       ∧ (match dest with
           | .g rd => (spk u g).v = (spk s g).v ∧ (spk u g).g = gSet (spk s g) rd
               (if sx then BitVec.ofInt 32 (BitVec.ofNat (8 * n) (bytesAt s a n)).toInt else BitVec.ofNat 32 (bytesAt s a n))
           | .v vd => (spk u g).g = (spk s g).g ∧ (spk u g).v = (spk s g).v.set vd (BitVec.ofNat 256 (bytesAt s a n)))
       ∧ (spk u g).flight = [] ∧ (spk u g).tsw = (spk s g).tsw ∧ (spk u g).a = (spk s g).a ∧ (spk u g).s = (spk s g).s
       ∧ u.mem.cells = s.mem.cells)
  ∧ (∀ (s : State) (g : SpokeId) (rd ro : GReg) (seg : SReg) (imm : BitVec 7), Alone s g →
       (spk s g).s[seg].getLsbD 63 = true → (spk s g).s[seg].getLsbD 62 = true → (spk s g).s[seg].getLsbD 61 = false →
       (spk s g).s[seg].getLsbD 58 = true → accessOffset (rg (spk s g) ro) (imm.toNat * 4) + 3 ≤ descLimit (spk s g).s[seg] →
       (descBase (spk s g).s[seg] + accessOffset (rg (spk s g) ro) (imm.toNat * 4)) % 2 ^ 32 = 0x10040108 →
       ∃ t u, exec (.ld g .b4 false rd ro seg imm) s = .next t ∧ exec (.deviceLoadComplete g) t = .next u
         ∧ (spk u g).g = gSet (spk s g) rd s.cfg.gen ∧ (spk u g).pc = (spk s g).pc + 2 ∧ u.mem = s.mem)

/-- An access that fails a segment check faults at EX with nothing changed, and the first failing check gives the code: SEG_INVALID
0x04, SEG_RIGHTS 0x05, SEG_LIMIT 0x06, ALIGN 0x07 (shown for LD, ST, LDL and LCK). A store to a bank that the cluster does not
own changes no byte; the spoke goes on, and DEFERRED_FAULT then stops it with code 0x09 and the PC of the access. The model’s
choices in this: log entry 8. -/
def Obligations.SegmentChecksAndLateFaults : Prop :=
  (∀ (s : State) (g : SpokeId) (ro rd : GReg) (seg : SReg) (imm : BitVec 7) (d : BitVec 64) (o : MemOutcome), Alone s g →
     d = (spk s g).s[seg] →
     (d.getLsbD 63 = false → ∀ c : Instr, (c = .ld g .b4 false rd ro seg imm ∨ c = .st g .b4 rd ro seg imm o ∨ c = .ldl g rd ro seg imm
         ∨ c = .lck g rd ro seg (imm.setWidth 11)) → ∃ t, exec c s = .next t ∧ Faulted s t g 4)
     ∧ (d.getLsbD 63 = true → d.getLsbD 58 = false → ∃ t, exec (.ld g .b4 false rd ro seg imm) s = .next t ∧ Faulted s t g 5)
     ∧ (d.getLsbD 63 = true → d.getLsbD 59 = false → ∃ t, exec (.st g .b4 rd ro seg imm o) s = .next t ∧ Faulted s t g 5)
     ∧ (bankSegment d → d.getLsbD 59 = true → descLimit d < accessOffset (rg (spk s g) ro) (imm.toNat * 4) + 3 →
         ∃ t, exec (.st g .b4 rd ro seg imm o) s = .next t ∧ Faulted s t g 6)
     ∧ (bankSegment d → d.getLsbD 58 = true → d.getLsbD 60 = true →
         accessOffset (rg (spk s g) ro) (imm.toNat * 4) + 3 ≤ descLimit d →
         (descBase d + accessOffset (rg (spk s g) ro) (imm.toNat * 4)) % 4 ≠ 0 →
         ∃ t, exec (.ldl g rd ro seg imm) s = .next t ∧ Faulted s t g 7))
  ∧ (∀ (s : State) (g : SpokeId) (rs ro : GReg) (seg : SReg) (imm : BitVec 7) (o : MemOutcome) (a : Nat), Alone s g →
       bankSegment (spk s g).s[seg] → (spk s g).s[seg].getLsbD 59 = true →
       accessOffset (rg (spk s g) ro) (imm.toNat * 4) + 3 ≤ descLimit (spk s g).s[seg] →
       a = (descBase (spk s g).s[seg] + accessOffset (rg (spk s g) ro) (imm.toNat * 4)) % 2 ^ 32 → ¬ ownsBytes s g a 4 true →
       s.dbg.feed ≠ some g.val →
       ∃ t u, exec (.st g .b4 rs ro seg imm o) s = .next t ∧ exec (.deferredFault g) t = .next u
         ∧ t.mem.cells = s.mem.cells ∧ (spk t g).pc = (spk s g).pc + 2 ∧ (spk t g).st = .run
         ∧ (spk u g).st = .stopped ∧ (spk u g).cause = .fault ∧ (spk u g).fcode = 9 ∧ (spk u g).failPc = some (spk s g).pc
         ∧ (spk u g).g = (spk s g).g ∧ u.mem.cells = s.mem.cells)

/-- STC at a multiple of 4 through a bank segment with W and L, on banks of the cluster: where the spoke holds the reservation of
the word it stores and answers 1, else it stores nothing and answers 0; either way the reservation is gone. PST through a
program segment with P at an offset that is a multiple of 8: the low 56 bits of vs become the program word of the spoke's core
at byte address / 8, and no other program word and no byte of memory changes. The model’s choices in this: log entry 90. -/
def Obligations.ConditionalAndProgramStores : Prop :=
  (∀ (s : State) (g : SpokeId) (rs ro rt : GReg) (seg : SReg) (imm : BitVec 7) (a : Nat), Alone s g → s.mem.wf = true →
     bankSegment (spk s g).s[seg] → (spk s g).s[seg].getLsbD 59 = true → (spk s g).s[seg].getLsbD 60 = true →
     accessOffset (rg (spk s g) ro) (imm.toNat * 4) + 3 ≤ descLimit (spk s g).s[seg] →
     a = (descBase (spk s g).s[seg] + accessOffset (rg (spk s g) ro) (imm.toNat * 4)) % 2 ^ 32 → a % 4 = 0 →
     ownsBytes s g a 4 true → Sound s a 4 →
     ∃ t, exec (.stc g rs ro rt seg imm allClean) s = .next t ∧ (spk t g).resv = none ∧ (spk t g).pc = (spk s g).pc + 2
       ∧ ((spk s g).resv = some (a / 32) → Wrote s t a 4 (rg (spk s g) rs).toNat ∧ (spk t g).g = gSet (spk s g) rt 1)
       ∧ ((spk s g).resv ≠ some (a / 32) → t.mem.cells = s.mem.cells ∧ (spk t g).g = gSet (spk s g) rt 0))
  ∧ (∀ (s : State) (g : SpokeId) (vs : VReg) (ro : GReg) (seg : SReg) (imm : BitVec 7) (w : Nat), Alone s g →
       (spk s g).s[seg].getLsbD 63 = true → (spk s g).s[seg].getLsbD 62 = false → (spk s g).s[seg].getLsbD 61 = true →
       accessOffset (rg (spk s g) ro) (imm.toNat * 8) + 7 ≤ descLimit (spk s g).s[seg] →
       accessOffset (rg (spk s g) ro) (imm.toNat * 8) % 8 = 0 →
       w = (descBase (spk s g).s[seg] + accessOffset (rg (spk s g) ro) (imm.toNat * 8)) % 2 ^ 32 / 8 →
       ∃ t, exec (.pst g vs ro seg imm) s = .next t ∧ t.mem = s.mem ∧ (spk t g).g = (spk s g).g ∧ (spk t g).pc = (spk s g).pc + 2
         ∧ tget 0 t.progs (49152 * physCore s (coreOf g) + w) = (spk s g).v[vs].setWidth 56
         ∧ (keysRise s.progs → ∀ k, k ≠ 49152 * physCore s (coreOf g) + w → tget 0 t.progs k = tget 0 s.progs k))

/-! ## Channels -/

/-- OUT stages a word; POST and POSTU move the staged words and their own into the FIFO as one message with END on its last word,
where it has room and no truncated message waits before it; else the spoke blocks with the channel as it was. Other channels
stay as they were. The model’s choices in this: log entry 79. -/
def Obligations.MessagesEnterWhole : Prop :=
  ∀ (s : State) (g : SpokeId) (rs ri : GReg) (base : BitVec 14) (ch : Nat), Alone s g →
    ch = (base.toNat + (rg (spk s g) ri).toNat % 2 ^ 14) % 2 ^ 14 → ch / 1024 < 13 → (chan s ch).writer = ⟨.spoke, g⟩ →
    (chan s ch).staged.length < 4 → (chan s ch).rdisc = false →
    (∃ t, exec (.out g rs ri base) s = .next t ∧ chan t ch = { chan s ch with staged := (chan s ch).staged ++ [rg (spk s g) rs] }
      ∧ (∀ k, k ≠ ch → chan t k = chan s k) ∧ (spk t g).pc = (spk s g).pc + 2)
    ∧ (∀ c : Instr, (c = .post g rs ri base ∨ c = .postu g rs ri base) →
      ((chan s ch).waiting = [] → (chan s ch).fifo.length + (chan s ch).staged.length + 1 ≤ 8 →
        ∃ t, exec c s = .next t ∧ (chan t ch).staged = []
          ∧ (chan t ch).fifo.map (·.word) = (chan s ch).fifo.map (·.word) ++ (chan s ch).staged ++ [rg (spk s g) rs]
          ∧ ((chan t ch).fifo.getLast?.map (·.last)) = some true ∧ (∀ k, k ≠ ch → chan t k = chan s k)
          ∧ (spk t g).pc = (spk s g).pc + 2)
      ∧ ((chan s ch).waiting ≠ [] ∨ 8 < (chan s ch).fifo.length + (chan s ch).staged.length + 1 →
        ∃ t, exec c s = .next t ∧ chan t ch = chan s ch ∧ (spk t g).st = .blocked ∧ (spk t g).pc = (spk s g).pc))

/-- IN and WAITP take the oldest word into rd with its END flag in EOM and its truncation mark in CHE, which the last word of a
message with a double error shows too (R258); on an empty channel the spoke blocks with its registers as they were. A spoke
blocked in IN, unpaired and with no request: once a word is there IN_WAKE takes it and the spoke runs on behind the IN; a spoke
blocked in a closing write whose message now fits: POST_WAKE moves it and the spoke runs on. The model’s choices in this: log
entries 19, 79, 89. -/
def Obligations.ChannelReadsAndWakes : Prop :=
  (∀ (s : State) (g : SpokeId) (rd ri : GReg) (base : BitVec 14) (ch : Nat) (waitp : Bool), Alone s g →
     ch = (base.toNat + (rg (spk s g) ri).toNat % 2 ^ 14) % 2 ^ 14 → ch / 1024 < 13 → (chan s ch).reader = ⟨.spoke, g⟩ →
     ((chan s ch).writer.kind = .cadence ↔ waitp = true) →
     ∃ t, exec (if waitp then .waitp g rd ri base else .inOp g rd ri base) s = .next t
       ∧ (∀ w rest, (chan s ch).fifo = w :: rest → ∃ tsw, (chan t ch).fifo = rest
           ∧ (∀ i, i < 32 → tsw.getLsbD i = if i = 6 then w.last
               else if i = 7 then w.trunc || (w.last && ((chan s ch).inBad || w.bad)) else (spk s g).tsw.getLsbD i)
           ∧ spk t g = { spk s g with pc := (spk s g).pc + 2, tsw := tsw, g := gSet (spk s g) rd w.word })
       ∧ ((chan s ch).fifo = [] → chan t ch = chan s ch ∧ (spk t g).st = .blocked ∧ (spk t g).pc = (spk s g).pc
           ∧ (spk t g).g = (spk s g).g)
       ∧ (∀ k, k ≠ ch → chan t k = chan s k) ∧ t.mem = s.mem)
  ∧ (∀ (s : State) (g : SpokeId) (ch : Nat), s.coreReset = false → s.avl.recovering.getLsbD (clusterOf g) = false →
       (spk s g).st = .blocked → (spk s g).pair = none → (spk s g).slot = none → (spk s g).req = none → repn (spk s g).tsw = 0 →
       (∀ rd w rest, (spk s g).wait = some (.input ch rd) → (chan s ch).fifo = w :: rest →
         ∃ t, exec (.inWake g) s = .next t ∧ (chan t ch).fifo = rest ∧ (spk t g).st = .run ∧ (spk t g).wait = none
           ∧ (spk t g).pc = (spk s g).pc + 2 ∧ (spk t g).g = gSet (spk s g) rd w.word)
       ∧ (∀ w urgent, (spk s g).wait = some (.closing ch w urgent) → (chan s ch).rdisc = false → (chan s ch).waiting = [] →
         (chan s ch).fifo.length + (chan s ch).staged.length + 1 ≤ 8 →
         ∃ t, exec (.postWake g) s = .next t ∧ (chan t ch).staged = [] ∧ (spk t g).st = .run ∧ (spk t g).wait = none
           ∧ (spk t g).pc = (spk s g).pc + 2
           ∧ (chan t ch).fifo.map (·.word) = (chan s ch).fifo.map (·.word) ++ (chan s ch).staged ++ [w]))

/-! ## Locks and comparators of a spoke -/

/-- LCK and TRY of a free lock take the lowest free entry and answer its index with code 0; TRY of a lock that another holds answers
code 2 and LCK then waits at the tail; ULK by the holder with nobody waiting frees the entry; ULK by anyone else answers code 6.
ARMP by a spoke of the owning cluster writes the whole target and arms the comparator, and answers 1 where the position is at or
behind the target in its direction; by another cluster it faults ARMP_OWNER (0x11) and the comparator stays. -/
def Obligations.LocksAndComparatorsOfSpokes : Prop :=
  (∀ (s : State) (g : SpokeId) (rd ro : GReg) (seg : SReg) (imm : BitVec 11) (a : Nat), Alone s g →
     bankSegment (spk s g).s[seg] → (spk s g).s[seg].getLsbD 60 = true →
     accessOffset (rg (spk s g) ro) (imm.toNat * 4) + 3 ≤ descLimit (spk s g).s[seg] →
     a = (descBase (spk s g).s[seg] + accessOffset (rg (spk s g) ro) (imm.toNat * 4)) % 2 ^ 32 → a % 4 = 0 →
     (∀ i, findLock s a = none → freeLock s = some i → ∀ c : Instr, (c = .lck g rd ro seg imm ∨ c = .tryOp g rd ro seg imm) →
       ∃ t, exec c s = .next t ∧ lockEnt t i = ⟨.held, a, lockIdSpoke s g, []⟩ ∧ (∀ j, j ≠ i → lockEnt t j = lockEnt s j)
         ∧ (spk t g).g = gSet (spk s g) rd (BitVec.ofNat 32 (16 * i)) ∧ (spk t g).pc = (spk s g).pc + 2)
     ∧ (∀ i, findLock s a = some i → (lockEnt s i).st = .held → (lockEnt s i).holder ≠ lockIdSpoke s g →
         (lockEnt s i).waiters.length < 64 →
       (∃ t, exec (.tryOp g rd ro seg imm) s = .next t ∧ t.lck = s.lck
         ∧ (spk t g).g = gSet (spk s g) rd (BitVec.ofNat 32 (2 + 16 * i)) ∧ (spk t g).pc = (spk s g).pc + 2)
       ∧ (∃ t, exec (.lck g rd ro seg imm) s = .next t ∧ (spk t g).st = .blocked ∧ (spk t g).pc = (spk s g).pc
         ∧ lockEnt t i = { lockEnt s i with waiters := (lockEnt s i).waiters ++ [lockIdSpoke s g] })
       ∧ ∃ t, exec (.ulk g rd ro seg imm) s = .next t ∧ t.lck = s.lck
         ∧ (spk t g).g = gSet (spk s g) rd (BitVec.ofNat 32 (6 + 16 * i)))
     ∧ ∀ i, keysRise s.lck.table → findLock s a = some i → (lockEnt s i).st = .held → (lockEnt s i).holder = lockIdSpoke s g →
         (lockEnt s i).waiters = [] →
       ∃ t, exec (.ulk g rd ro seg imm) s = .next t ∧ lockEnt t i = {} ∧ (∀ j, j ≠ i → lockEnt t j = lockEnt s j)
         ∧ (spk t g).g = gSet (spk s g) rd (BitVec.ofNat 32 (16 * i)))
  ∧ (∀ (s : State) (g : SpokeId) (rd ra rb : GReg) (c : Fin 512), Alone s g →
       (((evt s c).act.toNat / 2 ^ 16 = clusterOf g) →
         ∃ t, exec (.armp g rd ra rb c) s = .next t ∧ (evt t c).st = .armed ∧ (evt t c).cfg = (evt s c).cfg
           ∧ (evt t c).target = rg (spk s g) rb ++ rg (spk s g) ra
           ∧ (spk t g).g = gSet (spk s g) rd
               (if (if (evt s c).cfg.getLsbD 5 then (evt t c).dPrev ≤ 0 else 0 ≤ (evt t c).dPrev) then 1 else 0)
           ∧ ∀ k, k ≠ c.val → evt t k = evt s k)
       ∧ ((evt s c).act.toNat / 2 ^ 16 ≠ clusterOf g →
         ∃ t, exec (.armp g rd ra rb c) s = .next t ∧ evt t c = evt s c ∧ Faulted s t g 0x11))

/-! ## System instructions, branches, repetition, breaks -/

/-- The master's SETCTX and SETSEG of a listed, unpaired, fixed, deferred or stopped spoke of its cluster write one item and answer
0; RELEASE sets it running; STOP of a running one stops it with cause "master"; a spoke that is not the master faults NOT_MASTER
(0x10) with the target unchanged. STOP of itself stops the spoke behind the instruction with cause "own" and no register
changed. The model’s choices in this: log entry 58. -/
def Obligations.MasterAndOwnStop : Prop :=
  (∀ (s : State) (g : SpokeId) (rd rs : GReg) (ss idx : SReg) (r : GReg) (core : Fin 4) (spoke : Fin 32) (h : Nat), Alone s g →
     h = 128 * clusterOf g + 32 * core.val + spoke.val → h ≠ g.val → (spk s h).listed = true → (spk s h).pair = none →
     (spk s h).elastic = false → (spk s h).slot = none → (spk s h).flight = [] → (spk s h).req = none →
     (g.val = 128 * clusterOf g → ((spk s h).st = .deferred ∨ (spk s h).st = .stopped) →
       (∃ t, exec (.setctx g rd rs core spoke (.g r)) s = .next t ∧ spk t h = { spk s h with g := gSet (spk s h) r (rg (spk s g) rs) }
         ∧ (spk t g).g = gSet (spk s g) rd 0)
       ∧ (∃ t, exec (.setctx g rd rs core spoke .pc) s = .next t ∧ spk t h = { spk s h with pc := (rg (spk s g) rs).setWidth 18 })
       ∧ (∃ t, exec (.setseg g rd ss core spoke idx) s = .next t ∧ spk t h = { spk s h with s := (spk s h).s.set idx (spk s g).s[ss] })
       ∧ ∃ t, exec (.release g rd core spoke) s = .next t ∧ (spk t h).st = .run ∧ (spk t h).pc = (spk s h).pc
         ∧ (spk t h).g = (spk s h).g ∧ (spk t g).g = gSet (spk s g) rd 0)
     ∧ (g.val = 128 * clusterOf g → (spk s h).st = .run →
       ∃ t, exec (.stop g false core spoke) s = .next t ∧ (spk t h).st = .stopped ∧ (spk t h).cause = .master ∧ (spk t g).st = .run)
     ∧ (g.val ≠ 128 * clusterOf g → ∀ c : Instr, (c = .setctx g rd rs core spoke (.g r) ∨ c = .setseg g rd ss core spoke idx
         ∨ c = .release g rd core spoke ∨ c = .stop g false core spoke) →
       ∃ t, exec c s = .next t ∧ Faulted s t g 0x10 ∧ (spk t h).st = (spk s h).st ∧ (spk t h).g = (spk s h).g
         ∧ (spk t h).s = (spk s h).s))
  ∧ (∀ (s : State) (g : SpokeId), Alone s g → ∃ t, exec (.stop g true 0 0) s = .next t ∧ (spk t g).st = .stopped
       ∧ (spk t g).cause = .own
       ∧ (spk t g).pc = (spk s g).pc + 2 ∧ (spk t g).g = (spk s g).g ∧ t.mem.cells = s.mem.cells)

/-- A branch, a call or a return, and the instruction in its delay slot (a MOV): the slot executes, unless a BR with the annul bit
is not taken, and the PC goes to the target, or past the slot where the BR is not taken; a call leaves the address behind the
slot in g15. A target at or above 0x3_0000 faults PROG_ADDR (0x02), taken or not, and a slot of another class DELAY_SLOT (0x0F),
both at the branch with nothing changed. The model’s choices in this: log entries 20, 57, 58. -/
def Obligations.BranchAndDelaySlot : Prop :=
  ∀ (s : State) (g : SpokeId) (c : NextClass → Instr) (n : Nat) (taken annul lnk : Bool) (target : BitVec 18) (rd rs : GReg),
    Alone s g → OnlyOneRuns s g → (spk s g).pc.toNat + n + 1 ≤ 0x30000 →
    ((∃ cond off, c = (fun k => .br g cond annul off k) ∧ n = 2 ∧ taken = condTable (spk s g).tsw cond ∧ lnk = false
        ∧ target = (spk s g).pc + off.signExtend 18)
      ∨ (c = (fun k => .ja g lnk target k) ∧ n = 2 ∧ taken = true ∧ annul = false)
      ∨ ∃ r, c = (fun k => .jr g lnk r k) ∧ n = 1 ∧ taken = true ∧ annul = false ∧ target = (rg (spk s g) r).setWidth 18) →
    (target.toNat < 0x30000 →
      ∃ t u, exec (c .plain) s = .next t ∧ exec (.mov g rd rs) t = .next u
        ∧ (spk u g).pc = (if taken then target else (spk s g).pc + BitVec.ofNat 18 n + 1) ∧ (spk u g).slot = none
        ∧ ((annul = false ∨ taken = true) → lnk = false → (spk u g).g = gSet (spk s g) rd (rg (spk s g) rs))
        ∧ (lnk = true → rd = 0 → (spk u g).g = gSet (spk s g) 15 (((spk s g).pc + BitVec.ofNat 18 n + 1).setWidth 32))
        ∧ (annul = true → taken = false → (spk u g).g = (spk s g).g)
        ∧ (spk u g).tsw = (spk s g).tsw ∧ u.mem = s.mem)
    ∧ (0x30000 ≤ target.toNat → ∃ t, exec (c .plain) s = .next t ∧ Faulted s t g 2)
    ∧ (∀ k, k ≠ .plain → ∃ t, exec (c k) s = .next t ∧ Faulted s t g 0xF)

/-- REP sets REPN to its count, 1 to 64; each iteration of the next instruction (a MOV) lowers REPN by one as it issues and leaves
the PC there until the last one; a register count outside 1 to 64 faults REP_COUNT (0x0E), and a REP before a branch, a REP,
CKPT or STOP faults REP_TARGET (0x0D). BRK halts its spoke with the PC at the BRK where the debug domain is powered and
DBG_BRK_EN has its core's bit; else it faults BRK (0x12) and the code goes to the context's fault detail. The model’s choices in
this: log entries 20, 64. -/
def Obligations.RepeatAndBreak : Prop :=
  (∀ (s : State) (g : SpokeId) (count : RepCount) (n : Nat) (k : NextClass) (rd rs : GReg), Alone s g → OnlyOneRuns s g →
     n = (match count with | .imm m => m.toNat + 1 | .reg y => (rg (spk s g) y).toNat) →
     (1 ≤ n → n ≤ 64 → k ≠ .branch → k ≠ .repCkptStop →
       ∃ t u, exec (.rep g count k) s = .next t ∧ repn (spk t g).tsw = n ∧ (spk t g).pc = (spk s g).pc + 1
         ∧ (spk t g).g = (spk s g).g
         ∧ exec (.mov g rd rs) t = .next u ∧ repn (spk u g).tsw = n - 1
         ∧ (spk u g).pc = (if n = 1 then (spk s g).pc + 2 else (spk s g).pc + 1)
         ∧ (spk u g).g = gSet (spk s g) rd (rg (spk s g) rs))
     ∧ ((n = 0 ∨ 64 < n) → k ≠ .branch → k ≠ .repCkptStop → ∃ t, exec (.rep g count k) s = .next t ∧ Faulted s t g 0xE)
     ∧ ((k = .branch ∨ k = .repCkptStop) → ∃ t, exec (.rep g count k) s = .next t ∧ Faulted s t g 0xD))
  ∧ (∀ (s : State) (g : SpokeId) (code : BitVec 8), Alone s g →
       (s.pwr.vdbgGood = true ∧ (if coreOf g < 32 then (reg s 0x305C).getLsbD (coreOf g) = true
           else coreOf g < 48 ∧ (reg s 0x3060).getLsbD (coreOf g - 32) = true) →
         ∃ t, exec (.brk g code) s = .next t ∧ (spk t g).st = .halted ∧ (spk t g).pc = (spk s g).pc ∧ (spk t g).g = (spk s g).g
           ∧ (spk t g).tsw = (spk s g).tsw ∧ t.mem = s.mem)
       ∧ (¬ (s.pwr.vdbgGood = true ∧ (if coreOf g < 32 then (reg s 0x305C).getLsbD (coreOf g) = true
           else coreOf g < 48 ∧ (reg s 0x3060).getLsbD (coreOf g - 32) = true)) →
         ∃ t, exec (.brk g code) s = .next t ∧ Faulted s t g 0x12 ∧ (spk t g).fdetail = code))

/-- A pair, of fixed spokes (R259): the leader's store waits in the commit gate and changes no byte; the follower's equal store
releases it, and then exactly its bytes are written; a store of the follower with another word is a mismatch, and no byte
changes. The model’s choices in this: log entry 89. -/
def Obligations.PairStoresCommitOnAgreement : Prop :=
  ∀ (s : State) (l f : SpokeId) (p : Nat) (rs ro : GReg) (seg : SReg) (imm : BitVec 7) (a : Nat), s.mem.wf = true →
    (spk s l).elastic = false → (spk s f).elastic = false → canIssue s l = true →
    canIssue (setPair s p { pairAt s p with nL := (pairAt s p).nL + 1 }) f = true → l ≠ f →
    (spk s l).pair = some (p, true) → (spk s f).pair = some (p, false) → (pairAt s p).leader.toNat = l.val →
    (pairAt s p).follower.toNat = f.val → (pairAt s p).st = .running → (pairAt s p).gate = [] → (pairAt s p).skip = [] →
    (pairAt s p).pend = none → (pairAt s p).mismatch = false → (pairAt s p).nL = (pairAt s p).nF → s.dbg.cmps = [] →
    (∀ h, (h = l ∨ h = f) → (spk s h).slot = none ∧ repn (spk s h).tsw = 0 ∧ (spk s h).req = none ∧ (spk s h).flight = []
      ∧ (spk s h).stuck = [] ∧ (spk s h).badRegs = [] ∧ (spk s h).badCheck = false ∧ (spk s h).pc = (spk s l).pc
      ∧ (spk s h).s = (spk s l).s ∧ rg (spk s h) ro = rg (spk s l) ro) →
    (spk s l).pc.toNat + 2 ≤ 0x30000 → clusterOf l = clusterOf f →
    bankSegment (spk s l).s[seg] → (spk s l).s[seg].getLsbD 59 = true →
    accessOffset (rg (spk s l) ro) (imm.toNat * 4) + 3 ≤ descLimit (spk s l).s[seg] →
    a = (descBase (spk s l).s[seg] + accessOffset (rg (spk s l) ro) (imm.toNat * 4)) % 2 ^ 32 →
    ownsBytes s l a 4 true → Sound s a 4 →
    ∃ t u, exec (.st l .b4 rs ro seg imm allClean) s = .next t ∧ t.mem.cells = s.mem.cells ∧ (pairAt t p).gate.length = 1
      ∧ exec (.st f .b4 rs ro seg imm allClean) t = .next u
      ∧ (rg (spk s f) rs = rg (spk s l) rs → Wrote s u a 4 (rg (spk s l) rs).toNat ∧ (pairAt u p).gate = []
          ∧ (pairAt u p).nF = (pairAt u p).nL)
      ∧ (rg (spk s f) rs ≠ rg (spk s l) rs → (pairAt u p).mismatch = true ∧ u.mem.cells = s.mem.cells)

/-! ## Reports, program memory, pairs, watchdogs, takeover -/

/-- SYSTEM_REPORT_DELIVER moves the oldest buffered report into a system channel with room; TRUNCATED_MESSAGE_ENTER moves the oldest
waiting truncated message whole once it fits; DEADLOCK_DETECTED records a group that has stood blocked and unfed for 1,024 bc
and reports it once. PROGRAM_REREAD_COMPLETE, for the word at the PC or the one behind it that holds the second parcel, and
PROGRAM_SCRUB of a double error restore the program word from the image where the re-read succeeds; a fetch whose re-read fails
faults FETCH (0x03); a scrub that fails, or meets a clean word or a single error, changes no program word. The model’s choices
in this: log entries 7, 56, 79. -/
def Obligations.DeliveriesAndProgramChecks : Prop :=
  (∀ (s : State), s.coreReset = false →
     (∀ (cl : Fin 13) (w : Word) (rest : List Word), s.sysBuf[cl] = w :: rest → (chan s (1024 * cl.val + 1023)).fifo.length < 8 →
       (chan s (1024 * cl.val + 1023)).rdisc = false →
       ∃ t, exec (.systemReportDeliver cl) s = .next t ∧ t.sysBuf[cl] = rest
         ∧ (chan t (1024 * cl.val + 1023)).fifo = (chan s (1024 * cl.val + 1023)).fifo ++ [⟨w, true, false, false, false⟩])
     ∧ (∀ (ch : BitVec 14) (m : List ChanWord) (rest : List (List ChanWord)), ch.toNat / 1024 < 13 →
       (chan s ch.toNat).waiting = m :: rest → (chan s ch.toNat).rdisc = false → (chan s ch.toNat).fifo.length + m.length ≤ 8 →
       ∃ t, exec (.truncatedMessageEnter ch) s = .next t ∧ (chan t ch.toNat).waiting = rest
         ∧ (chan t ch.toNat).fifo = (chan s ch.toNat).fifo ++ m ∧ ∀ k, k ≠ ch.toNat → chan t k = chan s k)
     ∧ ∀ (cl : Fin 13) (grp : Fin 32), 1024 ≤ (tget {} s.dl (32 * cl.val + grp.val)).elapsed →
       (tget {} s.dl (32 * cl.val + grp.val)).reported = false → dlAllBlocked s cl grp = true → dlFed s cl grp = false →
       ∃ t, exec (.deadlockDetected cl grp) s = .next t ∧ (tget {} t.dl (32 * cl.val + grp.val)).deadlock = true
         ∧ exec (.deadlockDetected cl grp) t = .next t)
  ∧ (∀ (s : State), s.coreReset = false → s.released = true →
       (∀ (g : SpokeId) (second ok : Bool) (w : Nat), (spk s g).listed = true → (spk s g).st = .run → (spk s g).pair = none →
         (spk s g).slot = none → (spk s g).flight = [] → (spk s g).req = none → w < 49152 →
         ((second = false ∧ w = (spk s g).pc.toNat / 4)
           ∨ (second = true ∧ (spk s g).pc.toNat % 4 = 3 ∧ w = (spk s g).pc.toNat / 4 + 1)) →
         ∃ t, exec (.programRereadComplete g second ok) s = .next t ∧ t.mem = s.mem
           ∧ (∀ d, ok = true → (imageProg s (physCore s (coreOf g)) w).2 = some d → spk t g = spk s g
               ∧ tget 0 t.progs (49152 * physCore s (coreOf g) + w) = d)
           ∧ (ok = false ∨ (imageProg s (physCore s (coreOf g)) w).2 = none → Faulted s t g 3 ∧ t.progs = s.progs))
       ∧ ∀ (core : Fin 52) (w : Fin 49152) (ok : Bool),
         (∃ t, exec (.programScrub core w .double ok) s = .next t ∧ t.spokes = s.spokes
           ∧ (∀ d, ok = true → (imageProg s core w).2 = some d → tget 0 t.progs (49152 * core.val + w.val) = d)
           ∧ (ok = false ∨ (imageProg s core w).2 = none → t.progs = s.progs))
         ∧ exec (.programScrub core w .none ok) s = .next s ∧ exec (.programScrub core w .single ok) s = .next s)

/-- A running pair: a forced checkpoint captures the leader's context when the period has passed and the previous one is stored; a
mismatch puts both members back to the last agreed checkpoint and starts a replay; a replay that agrees ends it and counts one
transient; one that fails elsewhere starts again; a read of AVL_PAIR_CNT shows the three counts and clears them. A lasting
mismatch: with no spare to vote, or no majority, the pair takes its safe reaction: it stops with fault code 0x20; a vote that
one member wins, and AVL_RETIRE of a serving core, put the idle spare in the place of the retired core. The model’s choices in
this: log entries 53, 54, 55. -/
def Obligations.PairReplayVoteAndRetirement : Prop :=
  (∀ (s : State) (p : Fin 768) (l f : Nat), s.coreReset = false → l ≠ f → (pairAt s p).leader.toNat = l →
     (pairAt s p).follower.toNat = f →
     ((pairAt s p).st = .running → (pairAt s p).mismatch = false → (pairAt s p).pend = none → (pairAt s p).storing = 0 →
       (spk s l).st = .run → (spk s l).slot = none → (spk s l).flight = [] → (spk s l).stuck = [] → 10000 ≤ (pairAt s p).since →
         (pairAt s p).nF ≠ (pairAt s p).nL →
       ∃ t, exec (.forcedCheckpoint p) s = .next t ∧ (pairAt t p).pend = some (contextOf (spk s l)) ∧ (pairAt t p).since = 0
         ∧ (pairAt t p).pendN = (pairAt s p).nL ∧ t.spokes = s.spokes)
     ∧ (∀ c : Context, (pairAt s p).st = .running → (spk s l).st = .run → (spk s f).st = .run → (pairAt s p).ckpt = some c →
       ∃ t, exec (.pairMismatch p) s = .next t ∧ (pairAt t p).st = .replay ∧ (pairAt t p).gate = []
         ∧ (pairAt t p).skip = (pairAt s p).sigs ∧ (pairAt t p).nL = (pairAt s p).ckptN ∧ (pairAt t p).nF = (pairAt s p).ckptN
         ∧ contextOf (spk t l) = c ∧ contextOf (spk t f) = c ∧ (spk t l).st = .run ∧ (spk t f).st = .run ∧ t.mem = s.mem)
     ∧ ((pairAt s p).st = .replay → (pairAt s p).skip = [] → (pairAt s p).mismatch = false → (pairAt s p).req = none →
       ∃ t, exec (.replayEnd p .agree) s = .next t ∧ (pairAt t p).st = .running ∧ t.spokes = s.spokes
         ∧ (pairAt t p).cntTrans.toNat = min 0xFFFF ((pairAt s p).cntTrans.toNat + 1)
         ∧ (t.avl.log.head?.map (·.kind)) = some 1)
     ∧ (∀ c : Context, (pairAt s p).st = .replay → (pairAt s p).ckpt = some c →
       ∃ t, exec (.replayEnd p .elsewhere) s = .next t ∧ (pairAt t p).st = .replay ∧ contextOf (spk t l) = c ∧ contextOf (spk t f) = c)
     ∧ (p.val = fld s 0x2110 0 10 → ∃ t, exec .avlPairCntRead s = .next t ∧ (pairAt t p).cntTrans = 0 ∧ (pairAt t p).cntLast = 0
         ∧ (pairAt t p).cntForced = 0 ∧ t.host.ack = true
         ∧ t.host.rdata = (pairAt s p).cntForced ++ (pairAt s p).cntLast ++ (pairAt s p).cntTrans))
  ∧ (∀ (s : State), s.coreReset = false →
       (∀ (p : Fin 768) (v : Nat), (pairAt s p).leader.toNat ≠ (pairAt s p).follower.toNat →
         (spk s (pairAt s p).leader.toNat).pair = some (p.val, true) → (spk s (pairAt s p).follower.toNat).pair = some (p.val, false) →
         (pairAt s p).react = 0 →
         ((pairAt s p).st = .replay → idleSpares s = [] →
           ∃ t, exec (.replayEnd p .samePoint) s = .next t ∧ (pairAt t p).st = .safe
             ∧ (spk t (pairAt s p).leader.toNat).st = .stopped ∧ (spk t (pairAt s p).leader.toNat).fcode = 0x20
             ∧ (spk t (pairAt s p).follower.toNat).st = .stopped)
         ∧ ((pairAt s p).st = .vote → (pairAt s p).voter = some v →
           (∃ t, exec (.voteEnd p .noMajority) s = .next t ∧ (pairAt t p).st = .safe
             ∧ (spk t (pairAt s p).leader.toNat).st = .stopped ∧ (spk t (pairAt s p).leader.toNat).fcode = 0x20)
           ∧ ∀ (old : Nat) (w : VoteResult), (w = .leaderWins ∧ old = physCore s (coreOf (pairAt s p).follower.toNat)
                 ∨ w = .followerWins ∧ old = physCore s (coreOf (pairAt s p).leader.toNat)) → old < 52 → v < 52 → old ≠ v →
             ∃ t, exec (.voteEnd p w) s = .next t ∧ (t.cores.toArray[old]?.map (·.role)) = some .retired
               ∧ (t.cores.toArray[v]?.map (·.role)) = some .lent
               ∧ (t.cores.toArray[v]?.map (·.logical)) = (s.cores.toArray[old]?.map (·.logical))))
       ∧ ∀ (core : BitVec 6) (v : Nat) (rest : List Nat), idleSpares s = v :: rest → serves s core.toNat = true →
         ∃ t, exec (.avlRetire core) s = .next t ∧ (t.cores.toArray[core.toNat]?.map (·.role)) = some .retired
           ∧ (t.cores.toArray[v]?.map (·.role)) = some .lent ∧ (reg t 0x210C).getLsbD 3 = true
           ∧ (t.cores.toArray[v]?.map (·.logical)) = (s.cores.toArray[core.toNat]?.map (·.logical)))

/-- The watchdogs and clock monitors: a feed restores the full period (the block's takes the key 0xA5A5 and then 0x5A5A); an expired
spoke watchdog stops its spoke with code 0x21; an expired cluster or block watchdog with no reaction is recorded and logged; a
failed core clock resets the core domains; OSC is recorded; a lost quad reference takes its links down; a cluster's recovery
ends. Takeover: TAKE of a standby block in sync whose partner is lost makes it ACTIVE; YIELD, and a take request, make the
active block NONE; a yield confirmation makes the standby block ACTIVE; each is logged with kind 0xA. The model’s choices in
this: log entries 18, 35. -/
def Obligations.WatchdogsAndTakeover : Prop :=
  (∀ (s : State), s.coreReset = false → s.released = true →
     (∀ g : SpokeId, (spk s g).pair = none →
       (∃ t, exec (.avlSwdgFeed g) s = .next t ∧ spk t g = { spk s g with wdgLeft := (item s 0x213C g).toNat % 2 ^ 16 })
       ∧ ((spk s g).listed = true → (item s 0x213C g).toNat % 2 ^ 16 ≠ 0 → (spk s g).wdgLeft = 0 → (spk s g).st = .run →
           (spk s g).slot = none → (spk s g).flight = [] → (spk s g).req = none →
           ∃ t, exec (.spokeWdgExpiry g) s = .next t ∧ Faulted s t g 0x21 ∧ (t.avl.log.head?.map (·.kind)) = some 5))
     ∧ (∀ cl : Fin 13,
       ((reg s (0x2000 + 0x10 * cl.val)).getLsbD 18 = true →
         ∃ t, exec (.avlClFeed .host cl) s = .next t ∧ t.avl.clLeft[cl] = (reg s (0x2000 + 0x10 * cl.val)).toNat % 2 ^ 16)
       ∧ ((reg s (0x2000 + 0x10 * cl.val)).toNat % 2 ^ 16 ≠ 0 → s.avl.clLeft[cl] = 0 → inMaint s cl = false →
           s.avl.recovering.getLsbD cl = false → (reg s (0x2000 + 0x10 * cl.val)).toNat / 2 ^ 16 % 4 = 0 →
           ∃ t, exec (.clusterWdgExpiry cl) s = .next t ∧ (t.avl.log.head?.map (·.kind)) = some 6
             ∧ (reg t (0x2008 + 0x10 * cl.val)).getLsbD 5 = true ∧ t.spokes = s.spokes)
       ∧ (s.avl.recovering.getLsbD cl = true →
           ∃ t, exec (.recoveryComplete cl) s = .next t ∧ t.avl.recovering.getLsbD cl = false))
     ∧ (s.avl.bwdgKey = false → ∃ t u, exec (.avlBwdgFeed 0xA5A5) s = .next t ∧ exec (.avlBwdgFeed 0x5A5A) t = .next u
         ∧ u.avl.bwdgLeft = (reg s 0x212C).toNat % 2 ^ 16 ∧ u.avl.log = s.avl.log)
     ∧ ((reg s 0x212C).toNat % 2 ^ 16 ≠ 0 → s.avl.bwdgLeft = 0 → (reg s 0x212C).toNat / 2 ^ 16 % 4 = 0 →
         ∃ t, exec .blockWdgExpiry s = .next t ∧ (t.avl.log.head?.map (·.kind)) = some 7 ∧ (reg t 0x210C).getLsbD 0 = true)
     ∧ (∃ t, exec (.clockFault .osc) s = .next t ∧ (reg t 0x2160).getLsbD 4 = true ∧ (t.avl.log.head?.map (·.kind)) = some 8
         ∧ t.spokes = s.spokes)
     ∧ (∃ t, exec (.clockFault .sclk) s = .next t ∧ t.coreReset = true ∧ (t.avl.log.head?.map (·.kind)) = some 8)
     ∧ ∀ (q : Fin 16) (i : Fin 4), (link s (4 * q.val + i.val)).up = true →
         ∃ t, exec (.clockFault (.quad q)) s = .next t ∧ (link t (4 * q.val + i.val)).up = false)
  ∧ (∀ (s : State), s.coreReset = false →
       (s.avl.role = 2 → s.str.inSync = true → (reg s 0xE418).getLsbD 1 = true →
         ∃ t, exec .avlTkovTake s = .next t ∧ t.avl.role = 1 ∧ (t.avl.log.head?.map (·.kind)) = some 0xA)
       ∧ (s.avl.role = 1 → ∃ t, exec .avlTkovYield s = .next t ∧ t.avl.role = 3 ∧ (t.avl.log.head?.map (·.kind)) = some 0xA)
       ∧ (s.avl.role = 1 → tandemUp s ≠ [] → ∃ t, exec .takeRequestReceived s = .next t ∧ t.avl.role = 3)
       ∧ (s.avl.role = 2 → tandemUp s ≠ [] → ∃ t, exec .yieldConfirmReceived s = .next t ∧ t.avl.role = 1))

/-! ## Memory banks and the moth -/

/-- A bank handover: GO with a new owner's code leaves it pending (on an epoch line in MODE 1), GO with the present owner completes
at once, GO with one pending or with a code that names no owner is refused with HOREF; CANCEL ends one that waits for its epoch;
HANDOVER_COMPLETE passes a drained bank: NEXT owns it, the old owner's reservations in it end, and only the new owner may then
access it. The moth and repair change no data: a scrub visit that corrects a word counts it in ERRCNT.CORR; a march region moves
the region on; a row remap and a bank swap enter the map and the remap log, and a swap poisons words that were lastingly lost;
MEM_CMD starts what was recorded; ACK counts the entries that are not mirrored. The model’s choices in this: log entries 13, 22,
45, 93. -/
def Obligations.BankHandoverMothAndRepair : Prop :=
  (∀ (s : State) (b : Fin 32) (next : BitVec 5) (epoch : Bool) (line : Fin 32), s.coreReset = false →
     (∃ t, exec (.handoverGo b next epoch line) s = .next t ∧ t.mem.cells = s.mem.cells
       ∧ (∀ b' : Fin 32, b' ≠ b → t.mem.banks[b'] = s.mem.banks[b'])
       ∧ (s.mem.banks[b].pending = none → ownerCode next.toNat = true → next ≠ s.mem.banks[b].owner →
           t.mem.banks[b] = { s.mem.banks[b] with pending := some ⟨next, if epoch then some line.val else none⟩ } ∧ t.spokes = s.spokes)
       ∧ (s.mem.banks[b].pending = none → ownerCode next.toNat = true → next = s.mem.banks[b].owner →
           t.mem.banks[b] = s.mem.banks[b] ∧ (reg t (0x7000 + 0x20 * b.val + 8)).getLsbD 5 = true)
       ∧ ((s.mem.banks[b].pending.isSome = true ∨ ownerCode next.toNat = false) →
           t.mem.banks[b] = s.mem.banks[b] ∧ (reg t (0x7000 + 0x20 * b.val + 8)).getLsbD 6 = true))
     ∧ (∃ t, exec (.handoverCancel b) s = .next t ∧ ∀ n, (∀ l, s.mem.banks[b].pending = some ⟨n, some l⟩ → t.mem.banks[b].pending = none)
       ∧ (s.mem.banks[b].pending = some ⟨n, none⟩ → t = s))
     ∧ (s.mem.banks[b].pending = some ⟨next, none⟩ → bankIdle s b = true →
       ∃ t, exec (.handoverComplete b) s = .next t ∧ t.mem.banks[b] = { s.mem.banks[b] with owner := next, pending := none }
         ∧ t.mem.cells = s.mem.cells
         ∧ (∀ g, (spk t g).resv = if clusterOf g = s.mem.banks[b].owner.toNat ∧ (spk s g).resv.map bankOf = some b.val then none
             else (spk s g).resv)
         ∧ (∀ req w, req ≠ 0x14 → (mayAccess t req b w = true ↔ req = next.toNat))))
  ∧ (∀ (s : State), s.coreReset = false → s.mem.initDone = true → s.pwr.vmemGood = true → s.mem.wf = true → (reg s 0x7808).getLsbD 0 = true →
       (∀ (w : Fin 2097152), errAt s w = 0 →
         (∃ t, exec (.mothScrubVisit w ⟨.clean, .clean⟩ .clean) s = .next t ∧ t.mem.cells = s.mem.cells ∧ t.regs = s.regs)
         ∧ ∃ t, exec (.mothScrubVisit w ⟨.corr1, .clean⟩ .clean) s = .next t ∧ SameBytes s t
           ∧ (reg t (0x7000 + 0x20 * bankOf w + 0xC)).toNat % 65536
             = min 0xFFFF ((reg s (0x7000 + 0x20 * bankOf w + 0xC)).toNat % 65536 + 1)
           ∧ (reg t (0x7000 + 0x20 * bankOf w + 8)).getLsbD 0 = true)
       ∧ (∀ r : Fin 69632, (reg s 0x7808).getLsbD 1 = true → s.mem.copying = none → s.mem.rowCopies = [] → s.mem.errs = [] →
         ∃ t, exec (.marchRegion r [] .pass) s = .next t ∧ SameBytes s t ∧ t.mem.region = (r.val + 1) % 69632
           ∧ t.mem.passes = (if r.val = 69631 then s.mem.passes + 1 else s.mem.passes) ∧ t.spokes = s.spokes)
       ∧ (∀ (b : Fin 32) (r : RowRef) (rest : List RowRef), s.mem.rowCopies = r :: rest → r.phys = s.mem.banks[b].phys →
           remapLen s.mem < 2048 →
         ∃ t, exec (.rowRemap b []) s = .next t ∧ SameBytes s t ∧ r ∉ t.mem.rowCopies ∧ r ∈ t.mem.rows.map (·.1)
           ∧ remapLen t.mem = remapLen s.mem + 1 ∧ (reg t (0x7000 + 0x20 * b.val + 8)).getLsbD 7 = true)
       ∧ (∀ (b : Fin 32) (p : Fin 34), s.mem.copying = some (b.val, p.val) → remapLen s.mem < 2048 → s.mem.spWait = [] →
         ∃ t, exec (.bankSwap []) s = .next t ∧ SameBytes s t ∧ t.mem.banks[b] = { s.mem.banks[b] with phys := p.val }
           ∧ t.mem.copying = none ∧ t.mem.spDone = true ∧ t.mem.roles[p] = .service
           ∧ remapLen t.mem = remapLen s.mem + 1 ∧ (reg t (0x7000 + 0x20 * b.val + 8)).getLsbD 10 = true
           ∧ (keysRise s.mem.errs → ∀ w, bankOf w = b.val → w ∈ s.mem.due → poisoned t w = true))
       ∧ (∀ b : Fin 32,
         (∀ r, s.mem.rowDue = [r] → r.phys = s.mem.banks[b].phys → r ∉ s.mem.rowCopies → rowsUsed s.mem r.phys r.sub < 64 →
           ∃ t, exec (.memCmdRow b) s = .next t ∧ t.mem.rowDue = [] ∧ t.mem.rowCopies = s.mem.rowCopies ++ [r]
             ∧ t.mem.cells = s.mem.cells)
         ∧ ∀ p : Fin 34, s.mem.copying = none → s.mem.roles[p] = .spare → (∀ q : Fin 34, q < p → s.mem.roles[q] ≠ .spare) →
           ∃ t, exec (.memCmdSpare b) s = .next t ∧ t.mem.copying = some (b.val, p.val) ∧ t.mem.cells = s.mem.cells
             ∧ t.mem.banks = s.mem.banks)
       ∧ (∃ t, exec .memCmdClr s = .next t ∧ t.mem.spDone = false ∧ (reg t 0x7820).getLsbD 31 = false ∧ t.mem.cells = s.mem.cells)
       ∧ ∃ t, exec .remapAck s = .next t ∧ t.mem.remap = s.mem.remap
         ∧ t.mem.unmir = min s.mem.unmir (remapLen s.mem - ((reg s 0x782C).toNat % 2048 + 1)))

/-- The host memory window and the counters that clear on read: a read of an owned word with no more than one symbol in error
answers its 4 bytes, a write stores them, and ADDR moves on by 4 with AUTOINC; a bank that HOST does not own refuses with reason
4 and no byte changed; MEM_ERRCNT_READ and MEM_NOWN_READ answer the counts and clear them. The shadow loader: GO starts it, and
a GO while it runs stops it with ERR; where PEN owns the banks and no word of the image has bits in error, its end has written
the 16 words of the image as 256 halfwords into the engine's shadow bank (with RELOC 16 further words into the relocation
table), clears BUSY and keeps ERR; a word that fails sets ERR. -/
def Obligations.HostWindowAndShadowLoader : Prop :=
  (∀ (s : State) (v : Word) (a : Nat), s.coreReset = false → s.mem.initDone = true → s.mem.wf = true →
     a = (reg s 0x783C).toNat / 4 % 2 ^ 24 * 4 → Sound s a 4 →
     (mayAccess s 0x13 (bankOf (a / 32)) true = true →
       (∃ t, exec (.memHostDataWrite v ⟨.clean, .clean⟩) s = .next t ∧ Wrote s t a 4 v.toNat ∧ t.host.ack = true
         ∧ reg t 0x783C = (if (reg s 0x783C).getLsbD 31 then
             (reg s 0x783C &&& ~~~0x03FFFFFF#32) ||| BitVec.ofNat 32 (((reg s 0x783C).toNat % 2 ^ 26 + 4) % 2 ^ 26) else reg s 0x783C))
       ∧ ∃ t, exec (.memHostDataRead ⟨.clean, .clean⟩) s = .next t ∧ t.mem.cells = s.mem.cells ∧ t.host.ack = true
         ∧ t.host.rdata = BitVec.ofNat 32 (bytesAt s a 4))
     ∧ (mayAccess s 0x13 (bankOf (a / 32)) true = false →
       ∃ t, exec (.memHostDataWrite v ⟨.clean, .clean⟩) s = .next t ∧ t.mem.cells = s.mem.cells ∧ t.host.ack = false ∧ t.host.err = true
         ∧ (reg t 0x24).toNat / 2 ^ 20 % 8 = 4)
     ∧ ∀ b : Fin 34,
       (∃ t, exec (.memErrcntRead b) s = .next t ∧ t.host.rdata = reg s (0x7000 + 0x20 * b.val + 0xC)
         ∧ reg t (0x7000 + 0x20 * b.val + 0xC) = 0 ∧ t.mem = s.mem)
       ∧ ∃ t, exec (.memNownRead b) s = .next t ∧ (b.val < 32 → t.host.rdata = reg s (0x7000 + 0x20 * b.val + 0x10)
         ∧ reg t (0x7000 + 0x20 * b.val + 0x10) = reg s (0x7000 + 0x20 * b.val + 0x10) &&& 0xFFFF0000) ∧ t.mem = s.mem)
  ∧ (∀ (s : State), s.coreReset = false → s.mem.initDone = true →
       (∀ v : Word, (reg s 0x7844).getLsbD 30 = false → v.getLsbD 31 = true →
         ∃ t, exec (.penldGo v) s = .next t ∧ t = { s with regs := t.regs, mem := { s.mem with penldAge := 0 } }
           ∧ (reg t 0x7844).getLsbD 30 = true ∧ (reg t 0x7844).toNat % 2 ^ 28 = v.toNat % 2 ^ 28)
       ∧ (∀ v : Word, (reg s 0x7844).getLsbD 30 = true → v.getLsbD 31 = true →
         ∃ t, exec (.penldGo v) s = .next t ∧ (reg t 0x7844).getLsbD 30 = false ∧ (reg t 0x7844).getLsbD 29 = true)
       ∧ ∀ (e n : Nat) (src : Nat → Nat), e = (reg s 0x7844).toNat / 2 ^ 21 % 64 → (reg s 0x7844).getLsbD 30 = true →
           n = (if (reg s 0x7844).getLsbD 27 then 32 else 16) → (∀ i, src i = (reg s 0x7844).toNat % 2 ^ 21 + i) →
           (eng s e).pending = false → (∀ i, i < n → mayAccess s 0x12 (bankOf (src i)) false = true ∧ errAt s (src i) = 0) →
         (∃ t, exec (.penldDone []) s = .next t ∧ (reg t 0x7844).getLsbD 30 = false
           ∧ (reg t 0x7844).getLsbD 29 = (reg s 0x7844).getLsbD 29 ∧ t.mem = s.mem
           ∧ (∀ i j, i < 16 → j < 16 → tget {} (eng t e).store ((if (eng s e).active then 0 else 256) + 16 * i + j)
             = ⟨BitVec.ofNat 12 (bytesAt s (32 * src i + 2 * j) 2), (bytesAt s (32 * src i + 2 * j) 2).testBit 12,
                 (bytesAt s (32 * src i + 2 * j) 2).testBit 13, false⟩)
           ∧ ∀ i j, i + 16 < n → j < 16 → tget (0, false) (eng t e).reloc ((if (eng s e).active then 0 else 256) + 16 * i + j)
             = (BitVec.ofNat 8 (bytesAt s (32 * src (i + 16) + 2 * j) 2), (bytesAt s (32 * src (i + 16) + 2 * j) 2).testBit 8))
         ∧ ∀ f, f < n →
           ∃ t, exec (.penldDone (List.replicate f ⟨.clean, .clean⟩ ++ [⟨.due, .due⟩])) s = .next t ∧ (reg t 0x7844).getLsbD 30 = false
             ∧ (reg t 0x7844).getLsbD 29 = true)

/-! ## The lock unit -/

/-- The host's lock commands and the unit's own: TRY and ACQ of a free lock hold it for HOST with code 0 in LCK_HOST_STAT; an ACQ of
a lock held by another queues, and CANCEL withdraws it; REL frees it; a loss hands a holder's lock on as ABANDONED; a context's
request of a free lock is answered on its input channel; FORCE and CLEAR end a halted holder's and an abandoned entry. The
model’s choices in this: log entry 10. -/
def Obligations.LockUnitCommands : Prop :=
  ∀ (s : State) (a : Nat), s.coreReset = false → a = (reg s 0x6030).toNat / 4 % 2 ^ 24 * 4 →
    (s.lck.hostPend = none →
      (∀ i, findLock s a = none → freeLock s = some i → ∀ c : Instr, (c = .lckHostAcq ∨ c = .lckHostTry) →
        ∃ t, exec c s = .next t ∧ lockEnt t i = ⟨.held, a, 0x5000, []⟩ ∧ (∀ j, j ≠ i → lockEnt t j = lockEnt s j)
          ∧ reg t 0x6038 = BitVec.ofNat 32 (16 * i) &&& 0xFFFF)
      ∧ (∀ i, findLock s a = some i → (lockEnt s i).st = .held → (lockEnt s i).holder ≠ 0x5000 → (lockEnt s i).waiters.length < 64 →
          (∀ w, w ∈ (lockEnt s i).waiters → w ≠ 0x5000) →
        ∃ t u, exec .lckHostAcq s = .next t ∧ lockEnt t i = { lockEnt s i with waiters := (lockEnt s i).waiters ++ [0x5000] }
          ∧ t.lck.hostPend = some a ∧ (reg t 0x6038).getLsbD 16 = true
          ∧ exec .lckHostCancel t = .next u ∧ lockEnt u i = lockEnt s i ∧ u.lck.hostPend = none ∧ (reg u 0x6038).getLsbD 16 = false)
      ∧ ∀ i, findLock s a = some i → (lockEnt s i).st = .held → (lockEnt s i).holder = 0x5000 → (lockEnt s i).waiters = [] →
        ∃ t, exec .lckHostRel s = .next t ∧ lockEnt t i = {} ∧ reg t 0x6038 = BitVec.ofNat 32 (16 * i) &&& 0xFFFF)
    ∧ (∀ (who : BitVec 16) (i : Nat), who ∈ s.lck.losses → who ≠ 0x5000 → keysRise s.lck.table →
        lockEnt s i = ⟨.held, a, who, []⟩ → (∀ j, j ≠ i → (lockEnt s j).holder ≠ who) →
      ∃ t, exec (.lockHolderLoss who) s = .next t ∧ (lockEnt t i).st = .abandoned ∧ (lockEnt t i).addr = a ∧ who ∉ t.lck.losses
        ∧ (reg t 0x600C).getLsbD 0 = true ∧ reg t 0x604C = BitVec.ofNat 32 a ∧ reg t 0x6050 = who.setWidth 32)
    ∧ (∀ (x : CtxId) (i o n : Nat) (w : ChanWord), (ctxAt s x.engine x.ctx).outCh = some o → (ctxAt s x.engine x.ctx).inCh = some n →
        o ≠ n → (chan s o).reader.kind = .lock → (chan s o).fifo = [w] → w.word = BitVec.ofNat 32 a →
        ctxReplies s x.engine x.ctx = [] → ctxLost s x.engine x.ctx = false → findLock s a = none → freeLock s = some i →
        (chan s n).fifo = [] → (chan s n).rdisc = false → (chan s n).waiting = [] →
      ∃ t, exec (.penLockRequest x) s = .next t ∧ lockEnt t i = ⟨.held, a, BitVec.ofNat 16 (0x2000 + 64 * x.engine.val + x.ctx.val), []⟩
        ∧ (chan t o).fifo = [] ∧ (chan t n).fifo = [⟨BitVec.ofNat 32 (16 * i), true, false, false, false⟩])
    ∧ (∀ (x : CtxId) (w : Word) (l : List Word) (n : Nat), ctxReplies s x.engine x.ctx = w :: l →
        (ctxAt s x.engine x.ctx).inCh = some n → (chan s n).fifo.length < 8 → (chan s n).rdisc = false → (chan s n).waiting = [] →
      ∃ t, exec (.lockReplyDeliver x) s = .next t ∧ (chan t n).fifo = (chan s n).fifo ++ [⟨w, true, false, false, false⟩]
        ∧ ctxReplies t x.engine x.ctx = l)
    ∧ ∀ i : Fin 4096,
      ((lockEnt s i).st = .halted → (lockEnt s i).waiters = [] →
        ∃ t, exec (.lckForce i) s = .next t ∧ (lockEnt t i).st = .abandoned ∧ (reg t 0x600C).getLsbD 5 = true
          ∧ (reg t 0x600C).getLsbD 0 = true)
      ∧ ((lockEnt s i).st = .abandoned → ∃ t, exec (.lckClear i) s = .next t ∧ lockEnt t i = {})

/-! ## Links, streams, the tandem link -/

/-- A link that is enabled, with VSD good: sync brings an IEEE 802.3 link up and starts the gear exchange of a Duari link;
GEAR_ANNOUNCE settles on the highest common major or fails; GEAR_CONFIRM of that major brings the link up; GEAR_RETRY announces
again; LINK_DOWN takes it down. The model’s choices in this: log entries 16, 94. -/
def Obligations.LinkBringUp : Prop :=
  ∀ (s : State) (l : Fin 64) (b : GearBlock) (k : Link) (hi : Nat), k = link s l → linkOn s l = true →
    hi = min (pinnedHigh s (if linkMode s l = 7 then 4 else 3)) b.hi.toNat →
    (k.sync = false → s.pwr.vsdGood = true →
      ∃ t, exec (.linkUp l) s = .next t ∧ (link t l).sync = true
        ∧ (linkMode s l < 4 → (link t l).up = true)
        ∧ (4 ≤ linkMode s l → (link t l).up = false ∧ (link t l).gear = .announcing
            ∧ ∃ crc, t.str.sent = (l.val, .block [0x4B, 0, if linkMode s l = 7 then 2 else 1, 1,
                BitVec.ofNat 8 (pinnedHigh s (if linkMode s l = 7 then 4 else 3)), 0, ownCaps s, crc]) :: s.str.sent))
    ∧ (k.sync = true → 4 ≤ linkMode s l → (k.gear = .announcing ∨ k.gear = .confirming) → b.crcOk = true →
        b.tandem = (linkMode s l == 7) →
      ∃ t, exec (.gearAnnounce l b) s = .next t
        ∧ (max 1 b.lo.toNat ≤ hi → link t l = { k with gear := .confirming, major := BitVec.ofNat 8 hi }
            ∧ ∃ crc, t.str.sent = (l.val, .block [0x4B, 1, if linkMode s l = 7 then 2 else 1, 1, BitVec.ofNat 8 hi, 0, ownCaps s, crc])
                :: s.str.sent)
        ∧ (hi < max 1 b.lo.toNat → link t l = { k with gear := .failed }
            ∧ (reg t (0xE008 + 0x40 * (l.val / 4))).getLsbD (8 * (l.val % 4) + 3) = true))
    ∧ (k.sync = true → k.gear = .confirming → b.crcOk = true → b.tandem = (linkMode s l == 7) →
      ∃ t, exec (.gearConfirm l b) s = .next t
        ∧ (b.hi = k.major → (link t l).up = true ∧ (link t l).gear = .done ∧ (link t l).caps = ownCaps s &&& b.caps)
        ∧ (b.hi ≠ k.major → link t l = { k with gear := .failed }))
    ∧ (k.gear = .failed → ∃ t, exec (.gearRetry l) s = .next t ∧ link t l = { k with gear := .announcing, up := false })
    ∧ ((k.sync = true ∨ k.up = true) →
      ∃ t, exec (.linkDown l) s = .next t ∧ (link t l).up = false ∧ (link t l).sync = false ∧ (link t l).gear = .down)

/-- A frame that passes its checks (an IEEE 802.3 frame with a good FCS, a Duari frame in sequence) goes whole into the buffer of
the next RX descriptor, whose completion shows DONE, status OK, the stream and the length, and the ring's HEAD moves on; memory
outside stays. Without a descriptor it is dropped and counted. The frames that fail their checks: a bad FCS is counted and
dropped; a Duari frame with a bad CRC that wants an ACK is asked for again with a RETRY block; nothing reaches memory. The
model’s choices in this: log entries 23, 26, 94. -/
def Obligations.FramesInAndOut : Prop :=
  (∀ (s : State) (l : Fin 64) (c : Instr) (ws : List MemWord) (bytes stream dw w : Nat), s.mem.wf = true → linkUp s l = true →
     s.dbg.frz = false →
     ((∃ f : EthFrame, c = .ethFrameReceived l f ∧ linkMode s l < 4 ∧ f.fcsOk = true ∧ f.bytes.toNat ≤ 9216 ∧ ws = f.words
         ∧ f.desc = ⟨.clean, .clean⟩ ∧ bytes = f.bytes.toNat ∧ stream = 0)
       ∨ ∃ f : StreamFrame, c = .streamFrameReceived l f ∧ 4 ≤ linkMode s l ∧ f.stream.toNat < 0xF0 ∧ f.check = .good
         ∧ f.desc = ⟨.clean, .clean⟩ ∧ (∀ g, (f.stream, f.seq, g) ∉ (link s l).retrySent)
           ∧ (∀ p, (link s l).seqIn.find? (fun e => e.1 == f.stream.toNat) = some p →
             f.seq = p.2 + 1)
         ∧ ws = f.words ∧ bytes = 32 * f.words.length ∧ stream = f.stream.toNat) →
     dw = descWord s l false (link s l).rxHead.toNat → w = (wordAt s dw).toNat % 2 ^ 26 / 32 →
     ((link s l).rxHead = (link s l).rxTail →
       ∃ t, exec c s = .next t ∧ t.mem = s.mem ∧ reg t 0xE430 = reg s 0xE430 + 1 ∧ (link t l).rxHead = (link s l).rxHead)
     ∧ ((link s l).rxHead ≠ (link s l).rxTail → ws.length ≤ (wordAt s dw).toNat / 2 ^ 32 % 2 ^ 16 → symbolsIn (errAt s dw) ≤ 1 →
         refusing s 0x10 [dw] true = [] → refusing s 0x10 (bufWords w ws.length) true = [] → (dw < w ∨ w + ws.length ≤ dw) →
       ∃ t, exec c s = .next t ∧ (∀ i d, ws[i]? = some d → wordAt t (w + i) = d)
         ∧ (wordAt t dw).toNat % 2 ^ 128 = (wordAt s dw).toNat % 2 ^ 128
         ∧ (wordAt t dw).toNat / 2 ^ 128 % 2 ^ 32 = 2 ^ 31 + stream * 2 ^ 16 + bytes % 2 ^ 15
         ∧ (link t l).rxHead = ringNext s l false (link s l).rxHead
         ∧ ∀ a, a / 32 ≠ dw → (a / 32 < w ∨ w + ws.length ≤ a / 32) → getByte t.mem.cells a = getByte s.mem.cells a))
  ∧ (∀ (s : State) (l : Fin 64), linkUp s l = true →
       (∀ f : EthFrame, linkMode s l < 4 → f.fcsOk = false →
         ∃ t, exec (.ethFrameReceived l f) s = .next t ∧ t.mem = s.mem
           ∧ (link t l).cnt[5].toNat = min 0xFFFFFFFF ((link s l).cnt[5].toNat + 1))
       ∧ ∀ f : StreamFrame, 4 ≤ linkMode s l → f.stream.toNat < 0xF0 → f.check = .badCrc →
           f.ackWanted = true → (link s l).caps.getLsbD 0 = true → (∀ g, (f.stream, f.seq, g) ∉ (link s l).retrySent) →
         ∃ t gap, exec (.streamFrameReceived l f) s = .next t ∧ t.mem = s.mem
           ∧ (link t l).retrySent = (f.stream, f.seq, gap) :: (link s l).retrySent
           ∧ t.str.sent = (l.val, .block (0xB4 :: f.stream :: toBytes 2 f.seq.toNat ++ [0, 0, 0, 0])) :: s.str.sent)

/-- TX_FRAME_SEND of a readable descriptor without LOCK puts the buffer's words on the link and moves HEAD on: an IEEE 802.3 frame
goes out padded to 64 bytes with its FCS and completes with DONE and OK; a Duari frame of 1 to 512 words goes out between START
and END and, with RTX, stays open. ACK closes an open descriptor, RETRY sends its buffer once more where it still reads, else
closes it, ACK_TIMEOUT after ACKTMO counts and closes it, and before changes nothing. RING_TAIL_WRITE moves TAIL, but not onto
HEAD; STR_TOKEN_DELIVER brings a waiting token into the completion channel. The tandem link: a heartbeat records the partner's
count and role, and two active blocks set DUAL (within the window after a commit this block becomes STANDBY); a heartbeat goes
out with its count, one period after the last; the partner is lost after the timeout; a STANDBY block writes a MIRROR frame's
words into STR's banks; queued writes go out in order; a mirrored pair keeps its latest checkpoint record; RESYNC takes every
mirrored bank. The model’s choices in this: log entries 26, 94. -/
def Obligations.FramesSentAndTandem : Prop :=
  (∀ (s : State) (l : Fin 64) (dw w n : Nat) (stream : BitVec 8) (bs : List Byte), dw = descWord s l true (link s l).txHead.toNat →
     w = (wordAt s dw).toNat % 2 ^ 26 / 32 → n = ((wordAt s dw).toNat / 2 ^ 32 % 2 ^ 15 + 31) / 32 → s.coreReset = false →
     stream = BitVec.ofNat 8 ((wordAt s dw).toNat / 2 ^ 48) →
     bs = ((bufWords w n).flatMap fun x => toBytes 32 (wordAt s x).toNat).take ((wordAt s dw).toNat / 2 ^ 32 % 2 ^ 15) →
     (linkUp s l = true → s.dbg.frz = false → (link s l).txHead ≠ (link s l).txTail → (link s l).txWait = none → linkMode s l ≠ 7 →
         refusing s 0x10 [dw] true = [] → errAt s dw = 0 → (wordAt s dw).getLsbD 57 = false →
         refusing s 0x10 (bufWords w n) false = [] → (∀ x, x ∈ bufWords w n → errAt s x = 0) → s.mem.wf = true →
         (4 ≤ linkMode s l → 1 ≤ n ∧ n ≤ 512) →
       ∃ t, exec (.txFrameSend l ⟨.clean, .clean⟩ []) s = .next t ∧ (link t l).txHead = ringNext s l true (link s l).txHead
         ∧ (linkMode s l < 4 → t.str.sent = (l.val, .eth (bs ++ List.replicate (60 - bs.length) 0
               ++ toBytes 4 (fcs32 (bs ++ List.replicate (60 - bs.length) 0)).toNat)) :: s.str.sent
             ∧ (wordAt t dw).toNat / 2 ^ 128 % 2 ^ 32 = 2 ^ 31)
         ∧ (4 ≤ linkMode s l → (link s l).caps.getLsbD 0 = true → t.mem = s.mem
             ∧ t.str.sent = (l.val, .frame (startBlock stream (nextSeq s l stream) n ((wordAt s dw).getLsbD 58 || linkAsks s l))
                 ((bufWords w n).map (wordAt s)) (endBlock ((bufWords w n).map (wordAt s)))) :: s.str.sent
             ∧ (link t l).openTx.length = (link s l).openTx.length + 1))
     ∧ (∀ o : OpenTx, linkUp s l = true → openOf s l o.stream o.seq = some o →
       (∃ t, exec (.ack l o.stream o.seq) s = .next t ∧ o ∉ (link t l).openTx)
       ∧ (o.retried = false → o.stream.toNat < 0xF0 → ∃ t, exec (.retry l o.stream o.seq []) s = .next t
           ∧ (refusing s 0x10 (bufWords (bufAt o.desc) (txWords o.desc)) false = [] →
               (∀ x, x ∈ bufWords (bufAt o.desc) (txWords o.desc) → errAt s x = 0) →
               { o with retried := true, since := s.bc } ∈ (link t l).openTx ∧ t.mem = s.mem
               ∧ t.str.sent.length = s.str.sent.length + 1)
           ∧ (refusing s 0x10 (bufWords (bufAt o.desc) (txWords o.desc)) false ≠ [] → o ∉ (link t l).openTx))
       ∧ (o.retried = true → ∃ t, exec (.retry l o.stream o.seq []) s = .next t ∧ o ∉ (link t l).openTx)
       ∧ ((reg s 0xE408).toNat % 2 ^ 12 ≤ s.bc - o.since →
           ∃ t, exec (.ackTimeout l o.stream o.seq) s = .next t ∧ o ∉ (link t l).openTx
             ∧ (link t l).cnt[6].toNat = min 0xFFFFFFFF ((link s l).cnt[6].toNat + 1))
       ∧ (s.bc - o.since < (reg s 0xE408).toNat % 2 ^ 12 → exec (.ackTimeout l o.stream o.seq) s = .next s))
     ∧ (∀ (q : Fin 16) (v : Word) (tx : Bool) (x : Nat), tx = (reg s (0xE010 + 0x40 * q.val)).getLsbD 2 →
         x = 4 * q.val + (reg s (0xE010 + 0x40 * q.val)).toNat % 4 →
       ∃ t, exec (.ringTailWrite q v) s = .next t
         ∧ (BitVec.ofNat 12 (v.toNat % ringSize s x tx) ≠ (if tx then (link s x).txHead else (link s x).rxHead) →
             (if tx then (link t x).txTail else (link t x).rxTail) = BitVec.ofNat 12 (v.toNat % ringSize s x tx) ∧ t.regs = s.regs)
         ∧ (BitVec.ofNat 12 (v.toNat % ringSize s x tx) = (if tx then (link s x).txHead else (link s x).rxHead) →
             t.str = s.str ∧ (reg t (0xE008 + 0x40 * (x / 4))).getLsbD (8 * (x % 4) + 4) = true))
     ∧ ∀ (tx : Bool) (tok : Word), pendTok (link s l) tx = some tok → (chan s (strChan s l tx)).fifo.length < 8 →
         (chan s (strChan s l tx)).waiting = [] →
         (chan s (strChan s l tx)).rdisc = false →
       ∃ t, exec (.strTokenDeliver l tx) s = .next t ∧ pendTok (link t l) tx = none
         ∧ (chan t (strChan s l tx)).fifo = (chan s (strChan s l tx)).fifo ++ [⟨tok, true, false, false, false⟩])
  ∧ (∀ (s : State) (l : Fin 64), s.coreReset = false →
       (linkUp s l = true → l.val ∈ tandemLinks s →
         (∀ b : HeartbeatBlock, b.crcOk = true →
           ∃ t, exec (.heartbeat l b) s = .next t ∧ t.str.peerCount = b.count ∧ t.str.peerRole = b.role.setWidth 2 ∧ t.str.hbLast = s.bc
             ∧ (s.avl.role = 1 → b.role.setWidth 2 = 1#2 → (reg t 0xE418).getLsbD 2 = true
               ∧ (∀ w, s.avl.roleWindow = some w → s.bc - w ≤ 1000 * ((reg s 0xE420).toNat / 2 ^ 16) → t.avl.role = 2)
               ∧ (s.avl.roleWindow = none → t.avl = s.avl)))
         ∧ (∀ (f : StreamFrame) (a : Nat) (d : MemWord), s.avl.role = 2 → f.check = .good →
             f.words = [BitVec.ofNat 256 (a * 32 + 2 ^ 32), d] → a < 2097152 → s.mem.wf = true → refusing s 0x10 [a] true = [] →
           ∃ t, exec (.mirror l f) s = .next t ∧ wordAt t a = d
             ∧ ∀ x, x / 32 ≠ a → getByte t.mem.cells x = getByte s.mem.cells x)
         ∧ ∀ (f : StreamFrame) (p : Nat) (h : MemWord) (rest : List MemWord), f.check = .good → f.words = h :: rest →
             p = h.toNat % 2 ^ 10 → (pairAt s p).mirror = true →
           ∃ t, exec (.ckptRecord l f) s = .next t ∧ (pairAt t p).record = some (h :: rest))
       ∧ (tandemUp s ≠ [] → (reg s 0xE420).toNat % 2 ^ 10 ≤ s.bc - s.str.hbSent → ∃ t, exec .heartbeatSend s = .next t
         ∧ t.str.hbCount = s.str.hbCount + 1
           ∧ t.str.sent.length = s.str.sent.length + (tandemUp s).length)
       ∧ (tandemLinks s ≠ [] → 1000 * ((reg s 0xE420).toNat / 2 ^ 16) ≤ s.bc - s.str.hbLast → s.avl.taking = false →
         ∃ t, exec .peerLost s = .next t ∧ (reg t 0xE418).getLsbD 1 = true ∧ t.avl = s.avl)
       ∧ (∀ (n : BitVec 9) (w m : Nat) (d : MemWord) (rest : List (Nat × MemWord)), tandemUp s = m :: (tandemUp s).tail → s.avl.role = 1 →
           (reg s 0xE418).getLsbD 2 = false → n.toNat = 1 → s.str.mirrorQ = (w, d) :: rest →
         ∃ t, exec (.mirrorSend n []) s = .next t ∧ t.str.mirrorQ = rest
           ∧ t.str.sent = (m, .frame (startBlock 0xF0 (nextSeq s m 0xF0) 2 true) [BitVec.ofNat 256 (w * 32 + 2 ^ 32), d]
               (endBlock [BitVec.ofNat 256 (w * 32 + 2 ^ 32), d])) :: s.str.sent)
       ∧ ∃ t, exec .tndResync s = .next t ∧ t.str.resync = (List.range 32).filter (fun b => (reg s 0xE424).getLsbD b) ∧ t.mem = s.mem)

/-! ## The fabric port -/

/-- The fabric port and memory: the port comes up with the initial credits; down or restarted it drops its entries; a WRITE beat
puts its 1 to 3 words into FAB's banks with their check bytes, a READ beat is answered with the words it names; one that FAB's
banks do not cover is answered with WERR and no byte changes; a count outside 1 to 3 and a beat of an unlisted type are
discarded; returned credits count, and an RSP credit lets the oldest waiting answer go. A descriptor on its way in: it takes the
lowest free peloton entry and joins the dispatch buffer, or is recorded as refused with status 7; DISPATCH gives it to a ready
spoke's work channel, WORK_MESSAGE_DELIVER brings four words of it as one message. The model’s choices in this: log entries 25,
93, 94. -/
def Obligations.FabricPortAndDispatch : Prop :=
  (∀ (s : State) (head : MemWord) (data : Vector CodeWord 3) (w n : Nat), s.coreReset = false → s.mem.initDone = true →
     s.mem.wf = true → w = head.toNat / 32 % 2 ^ 21 → n = head.toNat / 2 ^ 32 % 256 →
     (s.released = true → (reg s 0x12008).getLsbD 0 = true → s.fab.up = false →
       ∃ t, exec .fabPortUp s = .next t ∧ t.fab.up = true ∧ t.fab.crdWork = (reg s 0x12014).toNat % 2 ^ 11
         ∧ t.fab.crdExc = (reg s 0x12014).toNat / 2 ^ 11 % 2 ^ 10 ∧ t.fab.crdData = (reg s 0x12014).toNat / 2 ^ 21 ∧ t.mem = s.mem)
     ∧ (s.fab.up = true →
       (∀ c : Instr, (c = .fabPortDown ∨ c = .fabPortRestart) →
         ∃ t, exec c s = .next t ∧ t.fab.up = false ∧ t.fab.peloton = [] ∧ t.fab.queue = [] ∧ (reg t 0x1200C).getLsbD 1 = true)
       ∧ (s.fab.crdData ≠ 0 → 1 ≤ n → n ≤ 3 → refusing s 0x11 (bufWords w n) true = [] →
         (∃ t, exec (.fabWrite true head data) s = .next t ∧ (∀ i : Fin 3, i.val < n → wordAt t (w + i.val) = data[i].data)
           ∧ (keysRise s.mem.errs → ∀ i : Fin 3, i.val < n → errAt t (w + i.val) = data[i].err)
           ∧ (∀ a, (a / 32 < w ∨ w + n ≤ a / 32) → getByte t.mem.cells a = getByte s.mem.cells a)
           ∧ t.fab.crdRsp = s.fab.crdRsp ∧ (s.dbg.frz = false → t.fab.crdData = s.fab.crdData))
         ∧ (s.fab.crdRsp ≠ 0 → s.fab.rspQ = [] → (∀ x, x ∈ bufWords w n → errAt s x = 0) →
           ∃ t, exec (.fabRead head []) s = .next t ∧ t.mem = s.mem ∧ t.fab.crdRsp = s.fab.crdRsp - 1
             ∧ t.fab.sent = .readRsp head ((bufWords w n).map fun x => ⟨wordAt s x, 0⟩) :: s.fab.sent))
       ∧ (s.fab.crdData ≠ 0 → 1 ≤ n → n ≤ 3 → refusing s 0x11 (bufWords w n) true ≠ [] → s.fab.crdRsp ≠ 0 → s.fab.rspQ = [] →
         ∃ t, exec (.fabWrite true head data) s = .next t ∧ t.mem.cells = s.mem.cells ∧ t.fab.crdRsp = s.fab.crdRsp - 1
           ∧ t.fab.sent = .werr head :: s.fab.sent)
       ∧ ((n = 0 ∨ 3 < n) → ∀ c : Instr, (c = .fabWrite true head data ∨ c = .fabRead head []) →
         ∃ t, exec c s = .next t ∧ t.mem = s.mem ∧ t.fab = { s.fab with crdData := s.fab.crdData - 1 } ∧ (reg t 0x1200C).getLsbD 2 = true)
       ∧ (∃ t, exec (.fabWrite false head data) s = .next t ∧ t.mem = s.mem ∧ t.fab = s.fab ∧ (reg t 0x1200C).getLsbD 2 = true)
       ∧ (∃ t, exec (.creditReturn true) s = .next t ∧ t.fab.crdResult = s.fab.crdResult
           ∧ (s.fab.rspQ = [] → t.fab.crdRsp = s.fab.crdRsp + 1)
           ∧ ∀ b l, s.fab.rspQ = b :: l → t.fab.rspQ = l ∧ t.fab.sent = b :: s.fab.sent ∧ t.fab.crdRsp = s.fab.crdRsp)
       ∧ ∃ t, exec (.creditReturn false) s = .next t ∧ t.fab.crdResult = s.fab.crdResult + 1 ∧ t.fab.crdRsp = s.fab.crdRsp))
  ∧ (∀ (s : State) (d : Vector Word 32) (exc : Bool), s.fab.up = true →
       (∀ i, freePel s = some i →
         ((if exc then s.fab.crdExc else s.fab.crdWork) ≠ 0 →
           ∃ t, exec (if exc then .excDescriptor d else .workDescriptor d) s = .next t ∧ (pel t i).ticket = d[1]
             ∧ (pel t i).flow = d[2].setWidth 20 ∧ (pel t i).order = s.fab.nextOrder ∧ t.fab.nextOrder = s.fab.nextOrder + 1
             ∧ (∀ j, j ≠ i → pel t j = pel s j) ∧ t.mem = s.mem
             ∧ (descRefused s d exc = false → (pel t i).st = .queued ∧ t.fab.queue.getLast?.map (·.2) = some i
                 ∧ t.fab.queue.length = s.fab.queue.length + 1)
             ∧ (descRefused s d exc = true → (pel t i).st = .recorded ∧ (pel t i).status = 7 ∧ t.fab.queue = s.fab.queue
                 ∧ (reg t 0x1200C).getLsbD 6 = true))
         ∧ ((if exc then s.fab.crdExc else s.fab.crdWork) = 0 →
           ∃ t, exec (if exc then .excDescriptor d else .workDescriptor d) s = .next t ∧ t.fab = s.fab
             ∧ (reg t 0x1200C).getLsbD 2 = true))
       ∧ (∀ (cl : Fin 13) (grp : Fin 16) (i g ch : Nat), nextDesc s (16 * cl.val + grp.val) = some i → nextReady s cl grp = some g →
           workChan s g = some ch → s.dbg.frz = false → fabLockAddr (pel s i) = none →
         ∃ t, exec (.dispatch cl grp) s = .next t ∧ (pel t i).st = .dispatched ∧ (pel t i).spoke = some g ∧ (pel t i).since = s.bc
           ∧ (∀ j, j ≠ i → pel t j = pel s j) ∧ (∀ e, e ∈ t.fab.queue ↔ e ∈ s.fab.queue ∧ e.2 ≠ i)
           ∧ (tget none t.fab.deliver ch).map (·.words)
               = some ((pel s i).desc.toList.take (4 * ((classMap s (pel s i).desc).toNat / 256 % 16)))
           ∧ tget 127 t.fab.lastServed (16 * cl.val + grp.val) = g % 128)
       ∧ ∀ (ch : BitVec 14) (v : Delivery), ch.toNat / 1024 < 13 → tget none s.fab.deliver ch.toNat = some v → 4 ≤ v.words.length →
           (chan s ch.toNat).fifo.length ≤ 4 → (chan s ch.toNat).rdisc = false → (chan s ch.toNat).waiting = [] →
         ∃ t, exec (.workMessageDeliver ch) s = .next t
           ∧ (chan t ch.toNat).fifo.map (·.word) = (chan s ch.toNat).fifo.map (·.word) ++ v.words.take 4
           ∧ ((chan t ch.toNat).fifo.getLast?.map (·.last)) = some true
           ∧ (tget none t.fab.deliver ch.toNat).map (·.words) = (if v.words.drop 4 = [] then none else some (v.words.drop 4)))

/-- A result on its way out: a four-word message of the spoke that holds the entry records it, with its status; a result that does
not come in time is recorded with status 2; PELOTON_RELEASE sends the RESULT beat of an entry that no older entry of its flow
precedes, and frees the entry. The model’s choices in this: log entries 24, 71, 72. -/
def Obligations.ResultsLeaveInFlowOrder : Prop :=
  ∀ (s : State), s.fab.up = true →
    (∀ (ch : BitVec 14) (a b c d : Word) (g i : Nat), ch.toNat / 1024 < 13 →
        (chan s ch.toNat).fifo = [⟨a, false, false, false, false⟩, ⟨b, false, false, false, false⟩, ⟨c, false, false, false, false⟩,
          ⟨d, true, false, false, false⟩] →
        (chan s ch.toNat).reader.kind = .fabric → (chan s ch.toNat).writer = ⟨.spoke, g⟩ →
        s.fab.gather.find? (fun e => e.1 == ch.toNat) = none → resultEntry s g [a, b, c, d] = some i → c.toNat / 2 ^ 20 % 8 = 0 →
      ∃ t, exec (.resultRecord ch) s = .next t ∧ (chan t ch.toNat).fifo = [] ∧ (pel t i).st = .recorded ∧ (pel t i).due = 0
        ∧ (pel t i).result = [a, b, c, d] ∧ (∀ j, j ≠ i → pel t j = pel s j)
        ∧ (b.toNat / 2 ^ 28 = 1 → c.toNat / 2 ^ 16 % 8 < 4 → c.toNat % 2 ^ 16 = (pel s i).rver.toNat →
            (pel t i).status = (if (pel s i).exc then 6 else 0) ∧ t.regs = s.regs))
    ∧ (∀ e : Fin 4096, (pel s e).st = .dispatched → (reg s 0x12050).toNat % 2 ^ 24 ≠ 0 →
        (reg s 0x12050).toNat % 2 ^ 24 ≤ s.bc - (pel s e).since →
      ∃ t, exec (.resultTimeout e) s = .next t ∧ (pel t e).st = .recorded ∧ (pel t e).status = 2 ∧ (pel t e).result = []
        ∧ (∀ j, j ≠ e.val → pel t j = pel s j) ∧ (reg t 0x1200C).getLsbD 3 = true)
    ∧ (s.dbg.frz = false → s.fab.crdResult ≠ 0 → bucketOpen s = true → (∃ e, e ∈ s.fab.peloton ∧ flowTurn s e = true) →
      ∃ t i p, exec .pelotonRelease s = .next t ∧ (i, p) ∈ s.fab.peloton ∧ (p.st = .recorded ∨ p.st = .held)
        ∧ (∀ h, h ∈ s.fab.peloton → h.2.st ≠ .free → h.2.exc = p.exc → h.2.flow = p.flow → p.order ≤ h.2.order)
        ∧ t.fab.peloton = s.fab.peloton.filter (fun e => e.1 != i) ∧ t.fab.crdResult = s.fab.crdResult - 1
        ∧ t.fab.sent = resultBeat p (releaseStatus s p) :: s.fab.sent)

/-! ## Timers and performance counters -/

/-- The commands of a timer change that timer alone: CAPTURE latches COUNT; STOP, RESET, LOAD_NOW, CLAMP and START move COUNT and
RUN; the HI writes commit RELOAD and MATCH with COUNT untouched; START of a timer with COUNT and RELOAD zero is refused with
STAT bit 13. The events of a timer that does not freewheel: at zero COUNT takes RELOAD and the timer runs on unless it is a one-
shot or RELOAD is zero, with STAT bit 8; at a match COUNT is MATCH, or MSELF stops or reloads it, with STAT bit 9; a link action
is queued for its timer; a zero event with a token puts it in the channel, and a waiting token goes in later; captures queue
four deep: of a pin edge that EDGE selects with COUNT at the end of its source bc, of a comparator or timer two bc after it. The
model’s choices in this: log entries 2, 96. -/
def Obligations.TimerCommandsAndEvents : Prop :=
  (∀ (s : State) (n : Fin 32) (v : Word) (x : Timer), s.coreReset = false → x = timer s n →
     (∃ t, exec (.tmrCapture n) s = .next t ∧ t = setTimer s n { x with latch := x.count })
     ∧ (∃ t, exec (.tmrStop n) s = .next t ∧ t = setTimer s n { x with run := false, owed := 0 })
     ∧ (∃ t, exec (.tmrReset n) s = .next t ∧ (timer t n).count = x.reload ∧ (timer t n).run = false ∧ (timer t n).pre = 0
         ∧ (timer t n).reload = x.reload ∧ (timer t n).match_ = x.match_ ∧ (∀ m, m ≠ n → timer t m = timer s m) ∧ t.regs = s.regs)
     ∧ (∃ t, exec (.tmrLoadNow n) s = .next t ∧ (timer t n).count = x.reload ∧ (timer t n).run = x.run ∧ (timer t n).pre = x.pre
         ∧ (∀ m, m ≠ n → timer t m = timer s m) ∧ t.regs = s.regs)
     ∧ (∃ t, exec (.tmrClamp n) s = .next t ∧ (timer t n).count.toNat = min x.count.toNat x.reload.toNat ∧ (timer t n).run = x.run
         ∧ (timer t n).reload = x.reload ∧ (∀ m, m ≠ n → timer t m = timer s m))
     ∧ (∃ t, exec (.tmrStart n) s = .next t ∧ (∀ m, m ≠ n → timer t m = timer s m)
         ∧ (timer t n).count = (if x.count = 0 then x.reload else x.count)
         ∧ (timer t n).run = decide (x.count ≠ 0 ∨ x.reload ≠ 0)
         ∧ (x.count = 0 → x.reload = 0 → (reg t (0x8024 + 0x40 * n.val)).getLsbD 13 = true))
     ∧ (∃ t, exec (.tmrReloadHiWrite n v) s = .next t ∧ t = setTimer s n { x with reload := v ++ x.reloadLo })
     ∧ (∃ t, exec (.tmrMatchHiWrite n v) s = .next t ∧ t = setTimer s n { x with match_ := v ++ x.matchLo })
     ∧ ∃ t, exec (.tmrCapqRead n) s = .next t
       ∧ (x.capq = [] → t.host.rdata = 0 ∧ t.timers = s.timers)
       ∧ ∀ c i q, x.capq = (c, i) :: q → q.length < 4 → (timer t n).latch = c ∧ (timer t n).capq = q ∧ (timer t n).count = x.count
           ∧ t.host.rdata = BitVec.ofNat 32 (1 + (if i then 2 else 0) + 4 * q.length))
  ∧ (∀ (s : State) (n k : Fin 32) (x : Timer), s.released = true → s.dbg.frz = false → x = timer s n →
       k.val = (reg s (0x8000 + 0x40 * n.val)).toNat / 2 ^ 8 % 32 →
       (x.run = true → x.owed = 1 → x.pre % tmrDiv s n = tmrDiv s n - 1 →
         (x.count.toNat ≤ 1 →
           ∃ t, exec (.timerZero n) s = .next t ∧ (reg t (0x8024 + 0x40 * n.val)).getLsbD 8 = true ∧ (timer t n).count = x.reload
             ∧ (timer t n).run = (decide (x.reload ≠ 0) && !(reg s (0x8000 + 0x40 * n.val)).getLsbD 6)
             ∧ (∀ a, a = (reg s (0x8000 + 0x40 * n.val)).toNat / 2 ^ 13 % 8 →
                 (timer t k).linkDue = (timer s k).linkDue ++ if a = 0 then [] else [(n.val, a)])
             ∧ (∀ ch, ch = (item s 0x8814 (n.val * 4)).toNat % 2 ^ 14 → (reg s (0x8000 + 0x40 * n.val)).getLsbD 22 = true →
                 (reg s (0x8000 + 0x40 * n.val)).toNat / 2 ^ 24 % 8 = 1 → (chan s ch).writer = ⟨.timer, n⟩ → x.tok = none →
                 (chan s ch).fifo.length < 8 → (chan s ch).rdisc = false → (chan s ch).waiting = [] →
                 (chan t ch).fifo = (chan s ch).fifo ++ [⟨BitVec.ofNat 32 (n.val * 2 ^ 27 + x.seq.toNat), true, false, false, false⟩]
                 ∧ (timer t n).seq = x.seq + 1))
         ∧ ∀ m, m = (reg s (0x8000 + 0x40 * n.val)).toNat / 2 ^ 19 % 8 → (reg s (0x8000 + 0x40 * n.val)).getLsbD 7 = true →
             1 < x.count.toNat → x.count - 1 = x.match_ →
           ∃ t, exec (.timerMatch n) s = .next t ∧ (reg t (0x8024 + 0x40 * n.val)).getLsbD 9 = true
             ∧ (timer t n).count = (if m = 3 ∨ m = 4 then x.reload else x.match_) ∧ (timer t n).run = decide (m ≠ 2 ∧ m ≠ 4))
       ∧ (∀ (w : Word) (ch : Nat), x.tok = some w → ch = (item s 0x8814 (n.val * 4)).toNat % 2 ^ 14 → (chan s ch).fifo.length < 8 →
           (chan s ch).rdisc = false → (chan s ch).waiting = [] →
         ∃ t, exec (.timerTokenDeliver n) s = .next t ∧ (timer t n).tok = none
           ∧ (chan t ch).fifo = (chan s ch).fifo ++ [⟨w, true, false, false, false⟩])
       ∧ ∀ (i : Fin 2) (up : Bool) (w : Word) (c : BitVec 64) (b : Nat), w = item s 0x8814 (n.val * 4 + 1 + i.val) →
         (w.toNat % 4 = 1 ∧ w.getLsbD (if up then 2 else 3) = true ∧ c = x.past1
           ∨ w.toNat % 4 ≠ 1 ∧ (x.capDue.find? fun e => e.1 == i.val) = some (i.val, c, b) ∧ b + 2 ≤ s.bc) →
         ∃ t, exec (.timerCaptureInput n i up) s = .next t ∧ (∀ m, m ≠ n → timer t m = timer s m) ∧ (timer t n).count = x.count
           ∧ (timer t n).capDue = (if w.toNat % 4 = 1 then x.capDue else x.capDue.erase (i.val, c, b))
           ∧ (x.capq.length < 4 → (timer t n).capq = x.capq ++ [(c, decide (i = 1))])
           ∧ (4 ≤ x.capq.length → (reg t (0x8024 + 0x40 * n.val)).getLsbD 10 = true
             ∧ (timer t n).capq = if (reg s (0x8000 + 0x40 * n.val)).getLsbD 5 then x.capq.tail ++ [(c, decide (i = 1))] else x.capq))

/-- The performance counters: SNAP copies every counter to its shadow with the time, CLEAR zeroes all counters, FREEZE and UNFREEZE
stop and start them; a read of the low word answers it to its reader and holds the high half for that reader. -/
def Obligations.PerformanceCounterCommands : Prop :=
  ∀ (s : State), s.coreReset = false →
    (∃ t, exec .pmcSnap s = .next t ∧ (∀ c, (pmcCore t c).shadow = (pmcCore s c).ctr ∧ (pmcCore t c).ctr = (pmcCore s c).ctr)
      ∧ t.pmc.snapValid = true ∧ reg t 0x682C = BitVec.ofNat 32 s.bc ∧ reg t 0x6830 = BitVec.ofNat 32 (s.bc / 2 ^ 32))
    ∧ (∃ t, exec .pmcFreeze s = .next t ∧ t = { s with pmc := { s.pmc with frozen := true } })
    ∧ (∃ t, exec .pmcUnfreeze s = .next t ∧ t = { s with pmc := { s.pmc with frozen := false } })
    ∧ (∃ t, exec .pmcClear s = .next t ∧ (∀ c, (pmcCore t c).ctr = Vector.replicate 18 0 ∧ (pmcCore t c).wrap = 0
        ∧ (pmcCore t c).shadow = (pmcCore s c).shadow ∧ (pmcCore t c).evt = (pmcCore s c).evt)
      ∧ reg t 0x6834 = BitVec.ofNat 32 s.bc)
    ∧ ∀ (c : Nat) (k : Fin 18) (v : BitVec 48), c = (reg s 0x6814).toNat % 64 → k.val = (reg s 0x6814).toNat / 256 % 32 →
      v = (if (reg s 0x6808).getLsbD 0 then (pmcCore s c).shadow[k] else (pmcCore s c).ctr[k]) →
      (∃ t, exec (.pmcDataLoRead .host) s = .next t ∧ t.host.rdata = v.setWidth 32 ∧ t.host.ack = true
        ∧ t.pmc = { s.pmc with holdHost := v.extractLsb' 32 16 })
      ∧ (∃ t, exec (.pmcDataLoRead .debug) s = .next t ∧ t.pmc = { s.pmc with holdDbg := v.extractLsb' 32 16 })
      ∧ ∀ g, ∃ t, exec (.pmcDataLoRead (.spoke g)) s = .next t ∧ (spk t g).pmcHold = v.extractLsb' 32 16 ∧ t.pmc = s.pmc

/-! ## Power and field energy -/

/-- The rails: a sag below −7 % puts the block into downshift and records DEEP below −12 %; DOWNSHIFT_EXIT removes a sag that has
been over for 2,000 bc, and AVS then takes no downward step for 1 s, and the other causes that have cleared; FORCE_DS sets and
clears its own; a VCORE below −12 % resets the core domains; the sag minimum restarts; a rail below −7 % is recorded as a
warning; AVS moves the set point by at most 5 mV within its bounds, once in 10 ms. The set point in a level is the lower of old
and new while it changes. The model’s choices in this: log entries 41, 42, 86, 92. -/
def Obligations.RailsAndDownshift : Prop :=
  ∀ (s : State) (r : Nat), r = (if s.pwr.vsetWait = 0 then s.pwr.vset.toNat else Nat.min s.pwr.vset.toNat s.pwr.vsetOld.toNat) →
    (∀ mv : BitVec 16, mv.toNat * 100 < r * 93 →
      ∃ t, exec (.sag mv) s = .next t ∧ t.pwr.dsSag = true ∧ t.pwr.sagAge = 0 ∧ t.pwr.vset = s.pwr.vset ∧ t.spokes = s.spokes
        ∧ (s.pwr.dsSag = false → (reg t 0x80C).getLsbD 8 = true
            ∧ (reg t 0x820).toNat = min 0xFFFFFFFF ((reg s 0x820).toNat + 1))
        ∧ ((reg t 0x80C).getLsbD 9 = true ↔ mv.toNat * 100 < r * 88 ∨ (reg s 0x80C).getLsbD 9 = true)
        ∧ (mv.toNat < (reg s 0x824).toNat % 2 ^ 16 → reg t 0x824 = mv.setWidth 32))
    ∧ (downshift s = true →
      ∀ n, ∃ t, exec (.downshiftExit n) s = .next t ∧ t.pwr.dsForced = (s.pwr.dsForced && (reg s 0x808).getLsbD 0)
        ∧ (2000 ≤ n → n ≤ s.pwr.sagAge → t.pwr.dsSag = false ∧ (s.pwr.dsSag = true → t.pwr.sagHold = 1000000000))
        ∧ ((n < 2000 ∨ s.pwr.sagAge < n) → t.pwr.dsSag = s.pwr.dsSag ∧ t.pwr.sagHold = s.pwr.sagHold)
        ∧ ((∃ i : Fin 8, (BitVec.ofNat 12 ((reg s 0x830).toNat % 2 ^ 12)).toInt - 8 ≤ s.pwr.temps[i].toInt) → t.pwr.dsTherm = s.pwr.dsTherm)
        ∧ t = { s with pwr := t.pwr })
    ∧ (∀ on : Bool, ∃ t, exec (.pwrForceDs on) s = .next t ∧ t.pwr.dsForced = on ∧ t.pwr.dsSag = s.pwr.dsSag
        ∧ t.pwr.dsTherm = s.pwr.dsTherm ∧ (reg t 0x808).getLsbD 0 = on ∧ t = { s with pwr := t.pwr, regs := t.regs })
    ∧ (∃ t, exec .sagMinRestart s = .next t ∧ reg t 0x824 = 0xFFFF ∧ t = { s with regs := t.regs })
    ∧ (∀ mv : BitVec 10, s.pwr.vcoreGood = true → s.coreReset = false → mv.toNat * 100 < r * 88 →
      ∃ t, exec (.vcoreReset mv) s = .next t ∧ t.coreReset = true ∧ t.released = false ∧ t.pwr.vcoreGood = false
        ∧ (reg t 0x80C).getLsbD 10 = true ∧ t.mem.cells = s.mem.cells ∧ t.spokes = [] ∧ t.chans = [])
    ∧ (∀ mv : BitVec 16, (∃ t, exec (.railWarn false mv) s = .next t ∧ t = { s with regs := t.regs }
          ∧ (mv.toNat * 100 < 800 * 93 → (reg t 0x80C).getLsbD 11 = true))
        ∧ ∃ t, exec (.railWarn true mv) s = .next t ∧ t.spokes = s.spokes
          ∧ (mv.toNat * 100 < 900 * 93 → (reg t 0x80C).getLsbD 11 = true)
          ∧ (mv.toNat * 100 < 900 * 88 → t.pwr.vsdGood = false)
          ∧ (900 * 89 ≤ mv.toNat * 100 → t.pwr.vsdGood = true))
    ∧ (s.pwr.avsWait = 0 → ∀ e : XferEnd, e ≠ .failed → ∃ t, exec (.avsStep e) s = .next t ∧ t.pwr.avsWait = 10000000
        ∧ t.pwr.dsSag = s.pwr.dsSag ∧ t.spokes = s.spokes ∧ (e = .clean → t = { s with pwr := t.pwr, free := t.free })
        ∧ (∀ lo hi, lo = (reg s 0x810).toNat / 2 ^ 12 % 2 ^ 10 → hi = (reg s 0x810).toNat / 2 ^ 22 → lo ≤ s.pwr.vset.toNat →
            s.pwr.vset.toNat ≤ hi → lo ≤ t.pwr.vset.toNat ∧ t.pwr.vset.toNat ≤ hi ∧ t.pwr.vset.toNat ≤ s.pwr.vset.toNat + 5
              ∧ s.pwr.vset.toNat ≤ t.pwr.vset.toNat + 5))
    ∧ (s.pwr.avsWait = 0 → ∃ t, exec (.avsStep .failed) s = .next t ∧ t.pwr = { s.pwr with avsWait := 10000000 }
        ∧ (reg t 0x80C).getLsbD 14 = true)

/-- Temperature, aging and the life ledger: a sample is kept, WARN or more puts the block into downshift and TRIP or more resets the
core domains; an aging measurement gives each monitor that does not fail its margin in 0.01 % over its reference; an hour
counts; the highest reading and the measured peaks answer a read and clear. PMBus: UP and DOWN take the valid entries in
ascending and descending order, and are refused while a sequence runs; a step ends when its waits are over; a failing transfer
ends an up sequence and is recorded, a down sequence goes on, and POWER_GOOD# in time or not at all decides the rest; a raw
transfer is put on its bus, a failed one leaves its record; a poll keeps the values of its entries. The model’s choices in this:
log entries 15, 21, 29, 40, 92. -/
def Obligations.TemperatureLedgerAndPmbus : Prop :=
  (∀ (s : State) (warn trip : Int), warn = (BitVec.ofNat 12 ((reg s 0x830).toNat % 2 ^ 12)).toInt →
     trip = (BitVec.ofNat 12 ((reg s 0x830).toNat / 2 ^ 16 % 2 ^ 12)).toInt →
     (∀ v : Vector (BitVec 12) 8, ∃ t, exec (.tempSample v) s = .next t ∧ t.pwr.temps = v
       ∧ ((∃ i : Fin 8, warn ≤ v[i].toInt) → t.pwr.dsTherm = true ∧ (reg t 0x80C).getLsbD 12 = true)
       ∧ ((∃ i : Fin 8, trip ≤ v[i].toInt) → t.coreReset = true ∧ t.pwr.tripHold = true ∧ (reg t 0x80C).getLsbD 13 = true)
       ∧ ((∀ i : Fin 8, v[i].toInt < trip) → t.coreReset = s.coreReset ∧ t.spokes = s.spokes ∧ t.mem = s.mem))
     ∧ (∀ (counts : Vector (BitVec 32) 16) (again bad : BitVec 16),
       ∃ t, exec (.agingMeasure counts again bad) s = .next t ∧ t.pwr.excluded = bad ∧ t.spokes = s.spokes
       ∧ (bad ≠ 0 → (reg t 0x80C).getLsbD 14 = true)
       ∧ (∀ i : Fin 16, bad.getLsbD i = true → t.pwr.margins[i] = s.pwr.margins[i])
       ∧ ∀ i : Fin 16, bad.getLsbD i = false → s.pwr.ageRef[i] ≠ 0 →
         -32768 ≤ ((counts[i].toNat : Int) - s.pwr.ageRef[i].toNat) * 10000 / s.pwr.ageRef[i].toNat →
         ((counts[i].toNat : Int) - s.pwr.ageRef[i].toNat) * 10000 / s.pwr.ageRef[i].toNat ≤ 32767 →
         t.pwr.margins[i].toInt = ((counts[i].toNat : Int) - s.pwr.ageRef[i].toNat) * 10000 / s.pwr.ageRef[i].toNat)
     ∧ (∃ t, exec .ledgerHour s = .next t ∧ (reg t 0x80C).getLsbD 18 = true ∧ t.pwr.hourN = 0 ∧ t.spokes = s.spokes
       ∧ (s.pwr.vcoreGood = true → (reg t 0x870).toNat = min 0xFFFFFFFF ((reg s 0x870).toNat + 1))
       ∧ (s.pwr.vcoreGood = false → reg t 0x870 = reg s 0x870))
     ∧ (∃ t, exec .pwrTempMaxRead s = .next t ∧ t.host.rdata = (s.pwr.tempMax.getD 0).setWidth 32
       ∧ t.pwr = { s.pwr with tempMax := none })
     ∧ ∀ g : Fin 8,
       (∃ t, exec (.nrgMeasPeakRead g false) s = .next t ∧ t.nrg[g] = { s.nrg[g] with iPeak := 0 }
         ∧ t.host.rdata = BitVec.ofNat 32 (s.nrg[g].iNow.toNat + s.nrg[g].iPeak.toNat * 65536))
       ∧ ∃ t, exec (.nrgMeasPeakRead g true) s = .next t ∧ t.nrg[g] = { s.nrg[g] with ePeak := 0 }
         ∧ t.host.rdata = BitVec.ofNat 32 (s.nrg[g].eNow.toNat + s.nrg[g].ePeak.toNat * 65536))
  ∧ (∀ (s : State),
       (s.pwr.seqRun = none →
         (∃ t, exec .pmbUp s = .next t ∧ t = { s with pwr := t.pwr } ∧ t.pwr.seqRef = false
           ∧ t.pwr.seqRun = (if seqEntries s = [] then none else some (true, seqEntries s)))
         ∧ ∃ t, exec .pmbDown s = .next t ∧ t = { s with pwr := t.pwr } ∧ t.pwr.seqRef = false
           ∧ t.pwr.seqRun = (if seqEntries s = [] then none else some (false, (seqEntries s).reverse)))
       ∧ (∀ x, s.pwr.seqRun = some x → ∀ c : Instr, (c = .pmbUp ∨ c = .pmbDown) →
         ∃ t, exec c s = .next t ∧ t = { s with pwr := { s.pwr with seqRef := true } })
       ∧ (∀ (up : Bool) (i : Nat) (rest : List Nat) (r : SeqResult) (e : Word), s.pwr.seqRun = some (up, i :: rest) → e = seqEntry s i →
           stepTime up e r ≤ s.pwr.seqAge →
         ∃ t, exec (.pmbSeqStep r) s = .next t ∧ t.spokes = s.spokes
           ∧ (stepFailure up e r = none → goodInTime up e r = true → t.pwr.seqRun = if rest = [] then none else some (up, rest))
           ∧ (stepFailure up e r = none → goodInTime up e r = false → t.pwr.seqRun = none ∧ (reg t 0x80C).getLsbD 15 = true)
           ∧ ∀ c, stepFailure up e r = some c → (reg t 0x80C).getLsbD 15 = true
             ∧ reg t 0x868 = BitVec.ofNat 32 (e.toNat % 256 + c.toNat * 256)
             ∧ t.pwr.seqRun = if rest = [] ∨ up = true then none else some (up, rest))
       ∧ (∀ w : Word, w = rawWord s false →
         (∀ b : Fin 2, b.val = w.toNat / 2 ^ 7 % 2 →
           ∃ t, exec (.pmbRaw .clean) s = .next t ∧ t = { s with pwr := t.pwr } ∧ t.pwr.seqRef = false ∧ t.pwr.bus[b] =
             [⟨w.setWidth 7, w.extractLsb' 8 8, w.extractLsb' 16 16, false, (reg s 0x84C).getLsbD 0, (reg s 0x84C).getLsbD 1⟩])
         ∧ ∃ t, exec (.pmbRaw .failed) s = .next t ∧ (reg t 0x80C).getLsbD 15 = true ∧ reg t 0x868 = w &&& 0xFFFF)
       ∧ (∀ d : BitVec 16, (∃ t, exec (.pmbRawrd .clean d) s = .next t ∧ reg t 0x864 = d ++ (reg s 0x864).setWidth 16)
         ∧ ∃ t, exec (.pmbRawrd .failed d) s = .next t ∧ reg t 0x868 = rawWord s true &&& 0xFFFF ∧ reg t 0x864 = reg s 0x864)
       ∧ (s.pwr.rawDue = [] → ∀ b, rawWord s b = reg s 0x864)
       ∧ ∀ rs : List PollResult, (reg s 0x84C).getLsbD 2 = true → rs.map (·.entry) = telEntries s →
         ∃ t, exec (.pmbPoll rs) s = .next t ∧ t.pwr.seqTab = s.pwr.seqTab ∧ t.spokes = s.spokes
           ∧ ∀ p ∈ rs, ∀ k : Fin 4, p.ends[k] ≠ .failed → (tget #v[0, 0, 0, 0] t.pwr.tel p.entry)[k] = p.vals[k])

/-- The governor: a limit never exceeds what the straps allow, with LIMREF where it is cut; an exceed, judged by the samples and
limits, folds its group back into chrysalis mode with its kinds recorded, and an OV exceed floats its pins until VIO is below
the level; VIO lost floats the pins and enters chrysalis mode. The model’s choices in this: log entries 44, 92. -/
def Obligations.GovernorProtectsPins : Prop :=
  ∀ (s : State) (g : Fin 8),
    (∀ (v : Word) (i : Fin 64), i.val = (reg s (0xC18 + 0x40 * g.val)).toNat % 64 →
      (∃ t, exec (.nrgLimitWrite g .pin v) s = .next t
        ∧ t.nrg[g].pinLim[i].toNat = min (v.toNat % 16) (min 16 s.nrg[g].straps.io.toNat - 1)
        ∧ (∀ j : Fin 64, j ≠ i → t.nrg[g].pinLim[j] = s.nrg[g].pinLim[j]) ∧ (∀ h : Fin 8, h ≠ g → t.nrg[h] = s.nrg[h])
        ∧ (min 16 s.nrg[g].straps.io.toNat - 1 < v.toNat % 16 → (reg t (0xC14 + 0x40 * g.val)).getLsbD 4 = true))
      ∧ (∃ t, exec (.nrgLimitWrite g .current v) s = .next t ∧ t.nrg[g].limI.toNat = min (v.toNat % 2 ^ 10) s.nrg[g].straps.io.toNat
        ∧ t.nrg[g].limE = s.nrg[g].limE ∧ t.nrg[g].pinLim = s.nrg[g].pinLim)
      ∧ ∃ t, exec (.nrgLimitWrite g .energy v) s = .next t ∧ t.nrg[g].limE.toNat = min (v.toNat % 2 ^ 16) s.nrg[g].straps.po.toNat
        ∧ t.nrg[g].limI = s.nrg[g].limI ∧ t.nrg[g].pinLim = s.nrg[g].pinLim)
    ∧ (∀ k : ExceedKinds, k = exceeds s g → s.nrg[g].vioGood = true → s.nrg[g].judged = false →
        (k.ov = true ∨ k.pin.isSome = true ∨ k.grp = true ∨ k.nrg = true) →
      ∃ t, exec (.governorExceed g) s = .next t ∧ (chry t g).active = true ∧ (chry t g).causes.getLsbD 3 = true
        ∧ t.nrg[g].fold = true ∧ t.nrg[g].ovFloat = (s.nrg[g].ovFloat || k.ov)
        ∧ (k.ov = true → ∀ i : Fin 64, pinAt t (64 * g.val + i.val) = { level := false, out := false, pull := none })
        ∧ (k.ov = true → (reg t (0xC14 + 0x40 * g.val)).getLsbD 0 = true))
    ∧ (exceeds s g = ⟨decide (ovLevel s g < vioMv s g),
          (List.finRange 64).find? fun i => s.nrg[g].dwell[i] != 0
            && decide ((reg s (0xC10 + 0x40 * g.val)).toNat / 2 % 32 ≤ s.nrg[g].dwell[i].toNat),
          decide (4 * s.nrg[g].limI.toNat < s.nrg[g].iNow.toNat), decide (s.nrg[g].limE.toNat < s.nrg[g].eNow.toNat)⟩)
    ∧ (s.nrg[g].ovFloat = true → s.nrg[g].vioGood = true → vioMv s g ≤ ovLevel s g →
      ∃ t, exec (.vioBelowOvLevel g) s = .next t ∧ t.nrg[g].ovFloat = false
        ∧ ∀ i : Fin 64, pinAt t (64 * g.val + i.val) = pinOfCode (patternCode (chry s g) i))
    ∧ (∀ mv : BitVec 12, s.nrg[g].vioGood = true → 100 * mv.toNat < 89 * vioLevel s g →
      ∃ t, exec (.vioLost g mv) s = .next t ∧ t.nrg[g].vioGood = false ∧ (chry t g).active = true ∧ (chry t g).causes.getLsbD 1 = true
        ∧ (reg t (0xC14 + 0x40 * g.val)).getLsbD 5 = true
        ∧ ∀ i : Fin 64, pinAt t (64 * g.val + i.val) = { level := false, out := false, pull := none })
    ∧ ∀ mv : BitVec 12, s.nrg[g].vioGood = false → 90 * vioLevel s g < 100 * mv.toNat →
      ∃ t, exec (.vioGood g mv) s = .next t ∧ t.nrg[g].vioGood = true ∧ (chry t g).active = true
        ∧ (g ≠ 0 → (chry t g).pc = 16 ∧ (chry t g).s = 0 ∧ (chry t g).halted = false)
        ∧ (((chry s g).active = false ∨ s.released = false ∨ (chry s g).vioLoss = true) → (chry t g).causes.getLsbD 1 = true)

/-! ## Chrysalis mode -/

/-- The sequencer's instructions, where the word at PC spells them: DRIVE and FLOAT move the pins of their range alone (each under
the rail and OV rules), SAMPLE shifts the pin's level into S, WAITT and WAITP move on, jumps and loops, SHIFT puts bytes on the
boot pins of group 0, STORE moves S and A and the cocoon, CMP compares the pattern; an illegal word stops it with STAT bit 13; a
halted one takes no step. The control of chrysalis mode: HOLD enters it with cause 5 and its removal leaves the mode standing;
RELEASE clears the causes of the hold-offs where VIO is good, the ledger is below its limit and the pin that mismatched reads
right, else it is refused; FAST sets the step clock; a group without standing causes returns to imago mode with the pattern on
its pins. The model’s choices in this: log entries 20, 43, 91. -/
def Obligations.SequencerAndChrysalisControl : Prop :=
  (∀ (s : State) (g : Fin 8) (c : Chrysalis) (dead : Bool), c = chry s g → dead = (s.nrg[g].ovFloat || !s.nrg[g].vioGood) →
     (∀ (pattern level : Bool) (a b : Fin 64),
       (chryDoes s g (.drive pattern a b level) = true → ∃ t, exec (.chryDrive g pattern a b level) s = .next t
         ∧ chry t g = { c with pc := c.pc + 1 } ∧ t.regs = s.regs
         ∧ ∀ i : Fin 64, pinAt t (64 * g.val + i.val) = if a ≤ i ∧ i ≤ b then
             (if dead then { level := false, out := false, pull := none }
               else if pattern then pinOfCode (patternCode c i) else { level := level, out := true, pull := none })
           else pinAt s (64 * g.val + i.val))
       ∧ (chryDoes s g (.float a b) = true → ∃ t, exec (.chryFloat g a b) s = .next t ∧ chry t g = { c with pc := c.pc + 1 }
         ∧ ∀ i : Fin 64, pinAt t (64 * g.val + i.val) = if a ≤ i ∧ i ≤ b then { level := false, out := false, pull := none }
           else pinAt s (64 * g.val + i.val)))
     ∧ (∀ (p : Fin 64) (level read : Bool), chryDoes s g (.sample p) = true →
         read = (if (reg s (0xC28 + 0x40 * g.val)).getLsbD 3 = true ∧ (pinAt s (64 * g.val + p.val)).out = true
           then (pinAt s (64 * g.val + p.val)).level else level) →
       ∃ t, exec (.chrySample g p level) s = .next t ∧ t = { s with chry := t.chry }
         ∧ chry t g = { c with pc := c.pc + 1, s := (c.s <<< 1) ||| (if read then 1 else 0) })
     ∧ (∀ n : BitVec 20, chryDoes s g (.waitt n) = true → ∃ t, exec (.chryWaitt g n) s = .next t ∧ t = { s with chry := t.chry }
       ∧ chry t g = { c with pc := c.pc + 1 })
     ∧ (∀ (p : Fin 64) (level reads met : Bool) (n : BitVec 11), chryDoes s g (.waitp p level n) = true →
         met = (chryReads s g p.val reads == level) → (met = true ∨ n ≠ 0) →
       ∃ t, exec (.chryWaitp g p level n reads) s = .next t ∧ t = { s with chry := t.chry } ∧ chry t g = { c with pc := c.pc + 1, f := met })
     ∧ (∀ target : BitVec 6,
       (chryDoes s g (.loopDec target) = true → ∃ t, exec (.chryLoopDec g target) s = .next t
         ∧ chry t g = (if c.k = 0 then { c with pc := c.pc + 1 }
           else { c with pc := target, k := c.k - 1 }))
       ∧ (chryDoes s g (.loopJumpF0 target) = true → ∃ t, exec (.chryLoopJumpF0 g target) s = .next t
         ∧ chry t g = { c with pc := if c.f then c.pc + 1 else target })
       ∧ (chryDoes s g (.loopJump target) = true → ∃ t, exec (.chryLoopJump g target) s = .next t ∧ chry t g = { c with pc := target }))
     ∧ (∀ k : BitVec 18, chryDoes s g (.loopLoad k) = true → ∃ t, exec (.chryLoopLoad g k) s = .next t
       ∧ chry t g = { c with pc := c.pc + 1, k := k })
     ∧ (∀ (final : Bool) (d : BitVec 8) (n : BitVec 6),
       (chryDoes s g (.send final d) = true → ∃ t, exec (.chryShiftSend g final d) s = .next t
         ∧ (chry t g).sent = (if c.cs then c.sent else []) ++ [d]
         ∧ (chry t g).cs = !final ∧ (chry t g).pc = c.pc + 1)
       ∧ (chryDoes s g (.dummy final n) = true → ∃ t, exec (.chryShiftDummy g final n) s = .next t
         ∧ (chry t g).dummies = (if c.cs then c.dummies else 0) + n.toNat + 1
         ∧ (chry t g).cs = !final ∧ (chry t g).pc = c.pc + 1)
       ∧ ∀ (w : Word) (ws : List Word), chryDoes s g (.stream final) = true → ws.length = c.k.toNat →
         ∃ t, exec (.chryShiftStream g final (w :: ws)) s = .next t ∧ (chry t g).pc = c.pc + 1
           ∧ (chry t g).a = c.a + BitVec.ofNat 20 (4 * (c.k.toNat + 1))
           ∧ t.cfg.copies[0].st = .writing ∧ (c.k = 0 → w32 (tget 0 t.cfg.copies[0].words (c.a.toNat / 32)) (c.a.toNat / 4 % 8) = w))
     ∧ (chryDoes s g .storeCocoon = true → ∃ t, exec (.chryStoreCocoon g) s = .next t ∧ (chry t g).a = c.a + 4 ∧ (chry t g).pc = c.pc + 1
         ∧ w32 (tget 0 t.cfg.copies[0].words (c.a.toNat / 32)) (c.a.toNat / 4 % 8) = c.s)
     ∧ (chryDoes s g .storeResult = true → ∃ t, exec (.chryStoreResult g) s = .next t
       ∧ chry t g = { c with pc := c.pc + 1, result := c.s.setWidth 16 })
     ∧ (chryDoes s g .storeAddr = true → ∃ t, exec (.chryStoreAddr g) s = .next t ∧ chry t g = { c with pc := c.pc + 1, a := c.s.setWidth 20 })
     ∧ (∀ levels : BitVec 64, chryDoes s g .cmp = true → ∃ t, exec (.chryCmp g levels) s = .next t ∧ (chry t g).pc = c.pc + 1
       ∧ (lowestMismatch s g levels = none → (chry t g).f = true ∧ (chry t g).s = c.s)
       ∧ ∀ i, lowestMismatch s g levels = some i → (chry t g).f = false ∧ (chry t g).s.toNat % 64 = i % 64
           ∧ (reg t (0xC2C + 0x40 * g.val)).getLsbD 12 = true)
     ∧ (chryDoes s g .illegal = true →
       ∃ t, exec (.sequencerIllegalWord g) s = .next t ∧ chry t g = { c with halted := true }
         ∧ (reg t (0xC2C + 0x40 * g.val)).getLsbD 13 = true
         ∧ t.pen = s.pen)
     ∧ (chryDoes s g .halt = true →
       ∃ t, exec (.chryHalt g) s = .next t ∧ chry t g = { c with halted := true } ∧ t.pen = s.pen
         ∧ ∀ i, chryDoes t g i = false))
  ∧ (∀ (s : State) (g : Fin 8),
       (∀ e : Bool, (∃ t, exec (.chryHold g true e) s = .next t ∧ (chry t g).active = true ∧ (chry t g).causes.getLsbD 5 = true
           ∧ ((chry s g).active = false → (chry t g).pc = (if e then 40 else 16)))
         ∧ ∃ t, exec (.chryHold g false e) s = .next t ∧ (chry t g).active = (chry s g).active ∧ (chry t g).causes.getLsbD 5 = false
           ∧ t.pen = s.pen)
       ∧ (∀ ok : Bool, ∃ t, exec (.chryRelease g ok) s = .next t ∧ t.pen = s.pen
         ∧ (s.nrg[g].vioGood = true → s.nrg[g].eNow.toNat < s.nrg[g].limE.toNat → (ok = true ∨ (chry s g).causes.getLsbD 4 = false) →
             t.nrg[g].fold = false ∧ (chry t g).causes.getLsbD 3 = false ∧ (chry t g).causes.getLsbD 4 = false ∧ t.regs = s.regs)
         ∧ ((s.nrg[g].vioGood = false ∨ s.nrg[g].limE.toNat ≤ s.nrg[g].eNow.toNat
               ∨ ok = false ∧ (chry s g).causes.getLsbD 4 = true) →
             chry t g = chry s g ∧ t.nrg = s.nrg ∧ (reg t (0xC2C + 0x40 * g.val)).getLsbD 14 = true))
       ∧ (∀ f : Bool, ∃ t, exec (.chryFastSelect g f) s = .next t ∧ (chry t g) = { chry s g with fast := f }
         ∧ (reg t (0xC28 + 0x40 * g.val)).getLsbD 2 = f ∧ t.pen = s.pen)
       ∧ ((chry s g).active = true → s.nrg[g].vioGood = true → s.released = true → s.coreReset = false → (chry s g).causes = 0 →
         ∃ t, exec (.chrysalisReturn g) s = .next t ∧ (chry t g).active = false ∧ (chry t g).causes = 0
           ∧ ∀ i : Fin 64, pinAt t (64 * g.val + i.val) =
               if s.nrg[g].ovFloat then { level := false, out := false, pull := none } else pinOfCode (patternCode (chry s g) i)))

/-- The words of a sequencer: every form with every value of its fields, where a range turned round, a jump above 47 and the opcodes
0xA to 0xF are illegal; words 16 to 22 of the mask ROM are the default safe-state program, and words 0 to 7 the boot loader
(R144, R148, R151 to R153). The model’s choices in this: log entry 91. -/
def Obligations.SequencerWords : Prop :=
  ∀ (o level final : Bool) (a b : Fin 64) (d : BitVec 8) (n : BitVec 20) (k : BitVec 18) (m : BitVec 11) (j : BitVec 6) (f l : Nat),
    f = (if final then 2 ^ 17 else 0) → l = (if level then 1 else 0) →
    chryDecode 0 = .halt
    ∧ chryDecode (BitVec.ofNat 24 (0x100000 + (if o then 2 ^ 19 else 0) + 2 ^ 12 * a.val + 2 ^ 6 * b.val + l))
        = (if a ≤ b then .drive o a b level else .illegal)
    ∧ chryDecode (BitVec.ofNat 24 (0x200000 + 2 ^ 12 * a.val + 2 ^ 6 * b.val)) = (if a ≤ b then .float a b else .illegal)
    ∧ chryDecode (BitVec.ofNat 24 (0x300000 + 2 ^ 12 * a.val)) = .sample a
    ∧ chryDecode (BitVec.ofNat 24 (0x400000 + n.toNat)) = .waitt n
    ∧ chryDecode (BitVec.ofNat 24 (0x500000 + 2 ^ 12 * a.val + 2 ^ 11 * l + m.toNat)) = .waitp a level m
    ∧ chryDecode (BitVec.ofNat 24 (0x600000 + j.toNat)) = (if j.toNat ≤ 47 then .loopDec j else .illegal)
    ∧ chryDecode (BitVec.ofNat 24 (0x640000 + k.toNat)) = .loopLoad k
    ∧ chryDecode (BitVec.ofNat 24 (0x680000 + j.toNat)) = (if j.toNat ≤ 47 then .loopJumpF0 j else .illegal)
    ∧ chryDecode (BitVec.ofNat 24 (0x6C0000 + j.toNat)) = (if j.toNat ≤ 47 then .loopJump j else .illegal)
    ∧ chryDecode (BitVec.ofNat 24 (0x700000 + f + d.toNat)) = .send final d
    ∧ chryDecode (BitVec.ofNat 24 (0x780000 + f + j.toNat)) = .dummy final j
    ∧ chryDecode (BitVec.ofNat 24 (0x7C0000 + f)) = .stream final
    ∧ chryDecode 0x800000 = .storeCocoon ∧ chryDecode 0x840000 = .storeResult ∧ chryDecode 0x880000 = .storeAddr
    ∧ chryDecode 0x940000 = .cmp ∧ (∀ w : BitVec 24, 10 ≤ w.toNat / 2 ^ 20 → chryDecode w = .illegal)
    ∧ ∀ c : Chrysalis, (c.pc.toNat < 32 → chryWord c = romWords.getD c.pc.toNat 0)
      ∧ (32 ≤ c.pc.toNat → c.pc.toNat < 48 → ∀ i : Fin 16, i.val + 32 = c.pc.toNat → chryWord c = c.store[i])
      ∧ ((List.range 23).map fun i => chryDecode (romWords.getD i 0)) =
        [.loopLoad 0x3FFFF, .send false 0x6B, .send false 0, .send false 0, .send false 0, .dummy false 7, .stream true, .loopJump 16]
        ++ List.replicate 8 .halt
        ++ [.drive true 0 63 false, .cmp, .loopJumpF0 21, .waitt 95, .loopJump 16, .storeResult, .loopJump 19]

/-! ## Pin engines -/

/-- Words that work on a context's own registers, at its turn: AUX NOP, waits that are met, HOLD of a level that is there, shifts
into CAP with no frame due, shifts out of EMT with no reload due, TAKE of a word that is there, PUT of TA and TB, and the
branches (R125 to R133). The context is behind the word by R124 and R125, and nothing differs but it, its engine's STAT (RANGE)
and the use of its shifters in this ECLK. The model’s choices in this: log entry 20. -/
def Obligations.PenRegisterWords : Prop :=
  ∀ (s : State) (i : Instr) (f : PenWordForm), penForm s i = some f → AtTurn s f.x →
    ∃ t, exec i s = .next t ∧ ctxAt t f.x.engine f.x.ctx = wordDone f.after f.loop f.skip f.target ∧ OnlyCtx s t f.x
      ∧ t.pen.pins = s.pen.pins ∧ t.chans = s.chans ∧ t.cad = s.cad

/-- PUT: PINS writes the level and DIRS the direction of the owned pins at offsets 0 to min(count, 6) − 1 (a level whatever the
direction; a direction takes a safe-state pull off, R154), TA and TB take the immediate zero-extended; a context that owns no
pin changes none and sets NOTOWN. The model’s choices in this: log entry 20. -/
def Obligations.PutWritesOwnedPins : Prop :=
  ∀ (s : State) (x : CtxId) (b : WordBits) (imm : BitVec 6) (c : Ctx) (lo n : Nat), AtTurn s x → c = ctxAt s x.engine x.ctx →
    lo = 64 * (x.engine.val / 8) + c.base → n = min c.count 6 →
    (∀ dst, dst = .pins ∨ dst = .dirs → ∃ t, exec (.put x b dst imm) s = .next t ∧ OnlyCtx s t x
      ∧ ctxAt t x.engine x.ctx = wordDone c b.loop 0 none ∧ (c.own = false → 0 < n → (reg t (penStat x.engine)).getLsbD 7 = true)
      ∧ ∀ p, pinAt t p = if c.own = true ∧ lo ≤ p ∧ p < lo + n then
            (if dst = .pins then { pinAt s p with level := imm.getLsbD (p - lo) }
             else { pinAt s p with out := imm.getLsbD (p - lo), pull := none })
          else pinAt s p)
    ∧ (∃ t, exec (.put x b .ta imm) s = .next t ∧ OnlyCtx s t x ∧ t.pen.pins = s.pen.pins
      ∧ ctxAt t x.engine x.ctx = wordDone { c with ta := imm.setWidth 32 } b.loop 0 none)
    ∧ ∃ t, exec (.put x b .tb imm) s = .next t ∧ OnlyCtx s t x ∧ t.pen.pins = s.pen.pins
      ∧ ctxAt t x.engine x.ctx = wordDone { c with tb := imm.setWidth 32 } b.loop 0 none

/-- EMIT and COPY: EMIT gives its pin the bit that leaves EMT, where the pin is in the range (else RANGE) and owned (else NOTOWN);
COPY moves its source to TA, TB, CAP with CAPN 0, EMT with EMTL = EFL, the PC, PAUSE, or to the levels or directions of the
owned pins; from the inbox it takes the word with its END flag in E, or 0 with E kept; STATUS shows the context. SEND stages its
word; with END or four words the staged message enters the FIFO whole where it fits, blocks with BLK, and is dropped with OVF
and a count without it; a FULL below its frame length stages none. Other channels stay as they were. The model’s choices in
this: log entry 20. -/
def Obligations.EmitCopyAndSend : Prop :=
  (∀ (s : State) (x : CtxId) (b : WordBits) (c : Ctx) (lo : Nat), AtTurn s x → c = ctxAt s x.engine x.ctx →
     lo = 64 * (x.engine.val / 8) + c.base →
     (∀ (n : BitVec 3) (off : BitVec 5), fills c = false →
       ∃ t, exec (.emit x b n off) s = .next t ∧ OnlyCtx s t x ∧ ctxAt t x.engine x.ctx = wordDone (emtOut c) b.loop n.toNat none
         ∧ (c.count ≤ off.toNat → (reg t (penStat x.engine)).getLsbD 6 = true)
         ∧ (off.toNat < c.count → c.own = false → (reg t (penStat x.engine)).getLsbD 7 = true)
         ∧ ∀ p, pinAt t p = if c.own = true ∧ off.toNat < c.count ∧ p = lo + off.toNat then { pinAt s p with level := emtBit c }
             else pinAt s p)
     ∧ (∀ (src : CopySrc) (pins : BitVec 64) (v : Word), copyValue c pins src = some v →
       (∀ dst r, r ∈ [(CopyDst.ta, wordDone { c with ta := v } b.loop 0 none), (.tb, wordDone { c with tb := v } b.loop 0 none),
           (.cap, wordDone { c with cap := v, capn := 0 } b.loop 0 none), (.emt, wordDone { c with emt := v, emtl := c.efl } b.loop 0 none),
           (.pc, wordDone c b.loop 0 (some (v.setWidth 8))), (.pause, wordDone { c with pause := v.setWidth 16 } b.loop 0 none)] →
         dst = r.1 → ∃ t, exec (.copy x b dst src pins) s = .next t ∧ OnlyCtx s t x ∧ t.pen.pins = s.pen.pins
           ∧ ctxAt t x.engine x.ctx = r.2)
       ∧ ∀ dst, dst = .pins ∨ dst = .dirs → ∃ t, exec (.copy x b dst src pins) s = .next t ∧ OnlyCtx s t x
           ∧ ctxAt t x.engine x.ctx = wordDone c b.loop 0 none
           ∧ ∀ p, pinAt t p = if c.own = true ∧ lo ≤ p ∧ p < lo + c.count then
                 (if dst = .pins then { pinAt s p with level := v.getLsbD (p - lo) }
                  else { pinAt s p with out := v.getLsbD (p - lo), pull := none })
               else pinAt s p)
     ∧ (∀ pins : BitVec 64,
       (∀ w last, c.inbox = some (w, last) → ∃ t, exec (.copy x b .ta .inbox pins) s = .next t ∧ OnlyCtx s t x
         ∧ ctxAt t x.engine x.ctx = wordDone { c with ta := w, inbox := none, e := last } b.loop 0 none)
       ∧ (c.inbox = none → ∃ t, exec (.copy x b .ta .inbox pins) s = .next t ∧ OnlyCtx s t x
         ∧ ctxAt t x.engine x.ctx = wordDone { c with ta := 0 } b.loop 0 none)
       ∧ (c.capn ≤ 32 → c.emtl ≤ 32 → ∃ t v, exec (.copy x b .ta .status pins) s = .next t ∧ OnlyCtx s t x
         ∧ ctxAt t x.engine x.ctx = wordDone { c with ta := v } b.loop 0 none
         ∧ v.getLsbD 0 = c.inbox.isSome ∧ v.getLsbD 2 = c.e ∧ v.getLsbD 3 = c.trig ∧ v.getLsbD 16 = c.outbox.isSome
         ∧ v.toNat / 16 % 64 = c.capn ∧ v.toNat / 1024 % 64 = c.emtl ∧ v.toNat < 2 ^ 17
         ∧ ∀ ch, c.outCh = some ch → (chan s ch).waiting = [] →
             (v.getLsbD 1 = true ↔ (chan s ch).fifo.length + (chan s ch).staged.length + 1 ≤ 8))))
  ∧ (∀ (s : State) (x : CtxId) (b : WordBits) (n : BitVec 3) (final blk : Bool) (src : SendSrc) (pins : BitVec 64) (c : Ctx) (ch : Nat)
       (ws : List Word), AtTurn s x → c = ctxAt s x.engine x.ctx → c.outCh = some ch → (chan s ch).rdisc = false →
       (chan s ch).waiting = [] →
       (chan s ch).staged.length < 4 → ws = (chan s ch).staged ++ (sendWord s c pins src).1.toList →
       ∃ t, exec (.send x b n final blk src pins) s = .next t ∧ OnlyCtx s t x ∧ t.pen.pins = s.pen.pins
         ∧ (∀ k, k ≠ ch → chan t k = chan s k)
         ∧ (final = false → ws.length < 4 → chan t ch = { chan s ch with staged := ws }
             ∧ ctxAt t x.engine x.ctx = wordDone (sendWord s c pins src).2 b.loop n.toNat none)
         ∧ (ws = [] → chan t ch = chan s ch ∧ ctxAt t x.engine x.ctx = wordDone c b.loop n.toNat none)
         ∧ (ws ≠ [] → (final = true ∨ ws.length = 4) →
             ((chan s ch).fifo.length + ws.length ≤ 8 → (chan t ch).staged = []
               ∧ (chan t ch).fifo.map (·.word) = (chan s ch).fifo.map (·.word) ++ ws
               ∧ ((chan t ch).fifo.getLast?.map (·.last)) = some true
               ∧ ctxAt t x.engine x.ctx = wordDone (sendWord s c pins src).2 b.loop n.toNat none)
             ∧ (8 < (chan s ch).fifo.length + ws.length → blk = true →
               chan t ch = chan s ch ∧ ctxAt t x.engine x.ctx = blockedIn c b)
             ∧ (8 < (chan s ch).fifo.length + ws.length → blk = false → chan t ch = { chan s ch with staged := [] }
               ∧ ctxAt t x.engine x.ctx = wordDone (sendWord s c pins src).2 b.loop n.toNat none
               ∧ (reg t (penStat x.engine)).getLsbD 8 = true ∧ reg t 0xA834 = countUp (reg s 0xA834))))

/-- TAKE of an empty inbox blocks with BLK and completes with nothing taken without it; with MSG it takes one whole message, its
words by place in TA, TB, CAP and EMT, and before the last word is there it does the same. AUTOSEND moves a frame to the outbox,
blocks with ABLOCK while one stands there, else drops it with OVF; AUTOFILL reloads EMT from the inbox, blocks with ABLOCK while
it is empty, else emits 0. The inbox takes the oldest word of its channel, and the outbox leaves as a one-word message. A wait
that is not met leaves the context WAITING in its word; once it is met WAKE moves on from it and executes the word behind it,
here a PUT TA of imm, with both stretches still to skip; a blocked word that can go on executes again, here a TAKE TA; a wait
for the outbox completes alone. A wake instruction behind another of its ECLK waits, its trigger taken. A trigger sets the
latch, and a second one or one to a held context is lost with TRGLOST (R127, R135). The model’s choices in this: log entries 2,
20. -/
def Obligations.EngineChannelsWaitsAndWakes : Prop :=
  (∀ (s : State) (x : CtxId) (b : WordBits) (n : BitVec 3) (c : Ctx), c = ctxAt s x.engine x.ctx →
     (AtTurn s x →
       (∀ dst, c.inbox = none → (dst ≠ .refill ∨ c.emtl = 0) →
         (∃ t, exec (.take x b n true dst) s = .next t ∧ OnlyCtx s t x ∧ ctxAt t x.engine x.ctx = blockedIn c b)
         ∧ ∃ t, exec (.take x b n false dst) s = .next t ∧ OnlyCtx s t x ∧ ctxAt t x.engine x.ctx = wordDone c b.loop n.toNat none)
       ∧ (∀ blk w, c.inbox = some (w, true) → ∃ t, exec (.takeMsg x b n blk) s = .next t ∧ OnlyCtx s t x ∧ t.chans = s.chans
         ∧ ctxAt t x.engine x.ctx = wordDone { c with inbox := none, e := true, emt := w, emtl := c.efl } b.loop n.toNat none)
       ∧ (∀ blk w ch ws last rest, c.inbox = some (w, false) → c.inCh = some ch → (chan s ch).fifo = ws ++ last :: rest →
           (∀ y ∈ ws, y.last = false) → last.last = true → ws.length ≤ 2 →
         ∃ t, exec (.takeMsg x b n blk) s = .next t ∧ OnlyCtx s t x ∧ (chan t ch).fifo = rest
           ∧ ctxAt t x.engine x.ctx = wordDone { c with
               inbox := none, e := true, emt := last.word, emtl := c.efl, ta := w, tb := (ws.head?.map (·.word)).getD c.tb
               cap := if ws.length = 2 then (ws.getLast?.map (·.word)).getD 0 else c.cap
               capn := if ws.length = 2 then 32 else c.capn } b.loop n.toNat none)
       ∧ (∀ w ch, c.inbox = some (w, false) → c.inCh = some ch → (∀ y ∈ (chan s ch).fifo, y.last = false) →
         (∃ t, exec (.takeMsg x b n false) s = .next t ∧ OnlyCtx s t x ∧ t.chans = s.chans
           ∧ ctxAt t x.engine x.ctx = wordDone c b.loop n.toNat none)
         ∧ ∃ t, exec (.takeMsg x b n true) s = .next t ∧ OnlyCtx s t x ∧ t.chans = s.chans ∧ ctxAt t x.engine x.ctx = blockedIn c b)
       ∧ (∀ i a m v, capBit s i = some (x, a, m, v) → sends c = true →
         ∃ t, exec i s = .next t ∧ OnlyCtx s t x
           ∧ (c.outbox = none → ctxAt t x.engine x.ctx = wordDone { c with outbox := some (capIn c v).cap, cap := 0, capn := 0 } a.loop m none)
           ∧ (c.outbox.isSome = true → c.ablock = true → ctxAt t x.engine x.ctx = blockedIn c a)
           ∧ (c.outbox.isSome = true → c.ablock = false → ctxAt t x.engine x.ctx = wordDone { c with cap := 0, capn := 0 } a.loop m none
             ∧ (reg t (penStat x.engine)).getLsbD 8 = true ∧ reg t 0xA834 = countUp (reg s 0xA834)))
       ∧ (fills c = true → ∃ t, exec (.auxEmitTa x b n) s = .next t ∧ OnlyCtx s t x
         ∧ (∀ w last, c.inbox = some (w, last) → ∃ y, y = { c with emt := w, emtl := c.efl, e := last, inbox := none }
           ∧ ctxAt t x.engine x.ctx = wordDone { emtOut y with ta := (c.ta <<< 1) ||| (if emtBit y then 1 else 0) } b.loop n.toNat none)
         ∧ (c.inbox = none → c.ablock = true → ctxAt t x.engine x.ctx = blockedIn c b)
         ∧ (c.inbox = none → c.ablock = false → ctxAt t x.engine x.ctx = wordDone { emtOut c with ta := c.ta <<< 1 } b.loop n.toNat none)))
     ∧ (∀ ch w rest, s.released = true → c.inbox = none → penFrozen s x.engine = false → c.inCh = some ch → (chan s ch).fifo = w :: rest →
       ∃ t, exec (.inboxFill x) s = .next t ∧ OnlyCtx s t x ∧ ctxAt t x.engine x.ctx = { c with inbox := some (w.word, w.last) }
         ∧ (chan t ch).fifo = rest ∧ ∀ k, k ≠ ch → chan t k = chan s k)
     ∧ ∀ ch w, s.released = true → (chry s (groupOfEng x.engine)).active = false → c.outbox = some w → c.outCh = some ch →
         (chan s ch).fifo.length < 8 → (chan s ch).rdisc = false → (chan s ch).waiting = [] →
       ∃ t, exec (.outboxSend x) s = .next t ∧ OnlyCtx s t x ∧ ctxAt t x.engine x.ctx = { c with outbox := none }
         ∧ (chan t ch).fifo = (chan s ch).fifo ++ [⟨w, true, false, false, false⟩] ∧ ∀ k, k ≠ ch → chan t k = chan s k)
  ∧ (∀ (s : State) (x : CtxId) (b : WordBits) (n : BitVec 3) (c : Ctx) (w : PenWord) (imm : BitVec 6), c = ctxAt s x.engine x.ctx →
       (AtTurn s x → ∀ i k, (i, k) ∈ [(Instr.auxTriggerWait x b n, CtxWait.trigger n.toNat), (.auxInboxWait x b n, .inbox n.toNat),
           (.auxOutboxWait x b n, .outbox n.toNat), (.hold x b n .rise 0 true, .pin .rise 0 n.toNat), (.hold x b n .fall 0 false,
             .pin .fall 0 n.toNat),
           (.hold x b n .low 0 true, .pin .low 0 n.toNat), (.hold x b n .high 0 false, .pin .high 0 n.toNat)] →
         c.trig = false → c.inbox = none → c.outbox.isSome = true → 0 < c.count →
         ∃ t, exec i s = .next t ∧ OnlyCtx s t x ∧ ctxAt t x.engine x.ctx = { c with st := .waiting, wait := some k, waitBits := b })
       ∧ (penServes s x.engine x.ctx = true → (eng s x.engine).pending = false → (eng s x.engine).due = [] →
         (∀ k (before pins later : BitVec 64), c.st = .waiting → c.wait = some k →
           (k = .trigger n.toNat ∨ k = .inbox n.toNat ∨ k = .pin .high 0 n.toNat ∨ k = .pin .rise 0 n.toNat) →
           c.trig = true → c.inbox.isSome = true → 0 < c.count → pins.getLsbD c.base = true →
             before.getLsbD c.base = false → ∀ p, p = (if c.waitBits.loop then (if c.bank then c.loop1 else c.loop0) else c.pc + 1) →
             w = penWord (eng s x.engine) c.bank p.toNat → w.insn = 0x780 + imm.setWidth 12 →
             w.bad = false →
           ((eng s x.engine).reflex = none → ∃ t, exec (.wake x before pins later) s = .next t ∧ OnlyCtx s t x ∧ t.pen.pins = s.pen.pins
             ∧ (eng t x.engine).reflex = some x.ctx.val ∧ ctxAt t x.engine x.ctx = wordDone { c with
                 pc := p, ta := imm.setWidth 32, carry := c.carry + n.toNat
                 trig := if k = .trigger n.toNat then false else c.trig } w.loop 0 none)
           ∧ ∀ r, (eng s x.engine).reflex = some r → r < x.ctx.val →
             ∃ t, exec (.wake x before pins later) s = .next t ∧ OnlyCtx s t x ∧ t.pen.pins = s.pen.pins ∧ (eng t x.engine).due = [x.ctx.val]
               ∧ ctxAt t x.engine x.ctx = { c with wait := some (.met n.toNat), trig := if k = .trigger n.toNat then false else c.trig })
         ∧ (∀ (before pins later : BitVec 64) (v : Word) (last : Bool), (eng s x.engine).reflex = none → c.st = .blocked →
           c.inbox = some (v, last) → w = penWord (eng s x.engine) c.bank c.pc.toNat →
             w.insn = 0x509 → w.bad = false →
           ∃ t, exec (.wake x before pins later) s = .next t ∧ OnlyCtx s t x
             ∧ ctxAt t x.engine x.ctx = wordDone { c with inbox := none, e := last, ta := v } w.loop 0 none)
         ∧ (∀ before pins later : BitVec 64, c.st = .waiting → c.wait = some (.outbox n.toNat) → c.outbox = none →
           ∃ t, exec (.wake x before pins later) s = .next t ∧ OnlyCtx s t x
             ∧ ctxAt t x.engine x.ctx = wordDone c c.waitBits.loop n.toNat none))
       ∧ (s.released = true → (∃ q ∈ s.cad.trigQ, q.eng = x.engine.val ∧ q.ctx = x.ctx.val) →
         ∃ t, exec (.engineTrigger x) s = .next t ∧ OnlyCtx s t x
           ∧ t.cad.trigQ = s.cad.trigQ.eraseP (fun q => q.eng == x.engine.val && q.ctx == x.ctx.val)
           ∧ (c.trig = false → c.st ≠ .held → (chry s (groupOfEng x.engine)).active = false →
               ctxAt t x.engine x.ctx = { c with trig := true } ∧ t.regs = s.regs)
           ∧ (c.trig = true ∨ c.st = .held → ctxAt t x.engine x.ctx = c ∧ (reg t (penStat x.engine)).getLsbD 9 = true)))

/-- Program banks: a switch moves the contexts that are off or held at once and is complete when none is left in the old bank; one
that is pending refuses another, but MODE = 1 turns it into FORCE; PEN_SWITCH_ALL asks each engine of the groups as BANK.SWITCH
does; at a seam a context moves on in the new bank; FORCE takes every context left to its relocated PC, or holds it where it has
none; the shadow store and the relocation table take a written word, and refuse it while a switch is pending (R137 to R140).
What an engine reports: a store word that a re-read corrects is put in the store and counted, one that stays bad holds its
context, and so does an illegal word; a readback mismatch that passes is counted, one that lasts is recorded, and a folded group
takes neither; the counts read and clear; the context window writes a context that is off, and no running one. The model’s
choices in this: log entries 70, 93. -/
def Obligations.EngineBanksAndFaults : Prop :=
  (∀ (s : State) (e : Fin 64) (g : Engine), g = eng s e → s.coreReset = false →
     (g.pending = false → ∃ t, exec (.bankSwitch e) s = .next t ∧ t = { s with pen := t.pen, regs := t.regs }
       ∧ (eng t e).ctxs = g.ctxs.map (fun y => (y.1, if y.2.st = .off ∨ y.2.st = .held then { y.2 with bank := !g.active } else y.2))
       ∧ ((∀ y ∈ g.ctxs, y.2.st = .off ∨ y.2.st = .held ∨ y.2.bank ≠ g.active) →
           (eng t e).active = !g.active ∧ (eng t e).pending = false ∧ (reg t (penStat e)).getLsbD 0 = true)
       ∧ ((∃ y ∈ g.ctxs, y.2.st ≠ .off ∧ y.2.st ≠ .held ∧ y.2.bank = g.active) →
           (eng t e).active = g.active ∧ (eng t e).pending = true ∧ (eng t e).forcing = (reg s (0xA008 + 0x20 * e.val)).getLsbD 2))
     ∧ (g.pending = true → ∃ t, exec (.bankSwitch e) s = .next t
       ∧ ((reg s (0xA008 + 0x20 * e.val)).getLsbD 2 = false → t.pen = s.pen ∧ (reg t (penStat e)).getLsbD 3 = true)
       ∧ ((reg s (0xA008 + 0x20 * e.val)).getLsbD 2 = true → eng t e = { g with forcing := true }))
     ∧ (∀ groups : BitVec 8, ∃ t, exec (.penSwitchAll groups) s = .next t
       ∧ (groups.getLsbD (e.val / 8) = false → eng t e = g)
       ∧ (groups.getLsbD (e.val / 8) = true → ∃ u, exec (.bankSwitch e) s = .next u ∧ eng t e = eng u e))
     ∧ (∀ (c : Fin 64) (x : Ctx) (b : WordBits), x = ctxAt s e c → penTurn s e c = true → g.pending = true → g.forcing = false →
         x.bank = g.active → b.seam = true → x.carry = 0 →
       ∃ t, exec (.auxNop ⟨e, c⟩ b 0) s = .next t
         ∧ ctxAt t e c = { x with
             pc := if b.loop then (if x.bank then x.loop1 else x.loop0) else x.pc + 1, bank := !g.active, st := .run
             wait := none, delay := 0 })
     ∧ (s.released = true → g.pending = true → g.forcing = true → keysRise g.ctxs → (reg s (0xA000 + 0x20 * e.val)).getLsbD 0 = true →
         (chry s (groupOfEng e)).active = false → penFrozen s e = false →
       ∃ t, exec (.forceSwitch e) s = .next t ∧ (eng t e).active = !g.active ∧ (eng t e).pending = false ∧ (reg t (penStat e)).getLsbD 1 = true
         ∧ ∀ (c : Nat) (x : Ctx), (c, x) ∈ g.ctxs → x.st ≠ .off → x.st ≠ .held → x.bank = g.active →
           ∀ r, r = tget (0, false) g.reloc ((if g.active then 0 else 256) + x.pc.toNat) →
           (ctxAt t e c).bank = (!g.active) ∧ (ctxAt t e c).ta = x.ta ∧ (ctxAt t e c).tb = x.tb ∧ (ctxAt t e c).cap = x.cap
             ∧ (ctxAt t e c).emt = x.emt ∧ (ctxAt t e c).inbox = x.inbox ∧ (ctxAt t e c).outbox = x.outbox
             ∧ (r.2 = true → (ctxAt t e c).pc = r.1 ∧ (ctxAt t e c).st ≠ .held)
             ∧ (r.2 = false → (ctxAt t e c).pc = x.pc ∧ (ctxAt t e c).st = .held ∧ (ctxAt t e c).hold = .unmapped
                 ∧ (reg t (penStat e)).getLsbD 2 = true))
     ∧ ∀ (v a : Word) (k : Nat), a = reg s (0xA00C + 0x20 * e.val) → k = (if g.active then 0 else 256) + a.toNat % 256 →
       ∃ t, exec (.penPwDataWrite e v) s = .next t
         ∧ (g.pending = true → t.pen = s.pen ∧ (reg t (penStat e)).getLsbD 3 = true)
         ∧ (g.pending = false → a.getLsbD 8 = false → eng t e = { g with store := (eng t e).store }
           ∧ ∀ j, tget {} (eng t e).store j = if j = k then ⟨v.setWidth 12, v.getLsbD 12, v.getLsbD 13, false⟩ else tget {} g.store j)
         ∧ (g.pending = false → a.getLsbD 8 = true → eng t e = { g with reloc := (eng t e).reloc }
           ∧ ∀ j, tget (0, false) (eng t e).reloc j = if j = k then (v.setWidth 8, v.getLsbD 8) else tget (0, false) g.reloc j)
         ∧ (a.getLsbD 16 = false → reg t (0xA00C + 0x20 * e.val) = a)
         ∧ (a.getLsbD 16 = true → reg t (0xA00C + 0x20 * e.val) = (a &&& 0xFFFFFF00) ||| ((a + 1) &&& 0xFF)))
  ∧ (∀ (s : State) (x : CtxId) (c : Ctx), c = ctxAt s x.engine x.ctx → (eng s x.engine).pending = false →
       (∀ o, penServes s x.engine x.ctx = true → c.st ≠ .off → c.st ≠ .held → imagePen s x.engine c.pc.toNat = (s, o) →
         (∀ w, o = some w → ∃ t, exec (.engineStoreReread x true) s = .next t ∧ t = { s with pen := t.pen, regs := t.regs }
           ∧ penWord (eng t x.engine) c.bank c.pc.toNat = w ∧ ctxAt t x.engine x.ctx = c
             ∧ (reg t 0xA838).toNat % 2 ^ 16 = min 0xFFFF ((reg s 0xA838).toNat % 2 ^ 16 + 1) ∧ reg t 0x2154 = countUp (reg s 0x2154))
         ∧ ∃ t, exec (.engineStoreReread x false) s = .next t
           ∧ ctxAt t x.engine x.ctx = { c with st := .held, hold := .store, wait := none, delay := 0, carry := 0 }
           ∧ (reg t (penStat x.engine)).getLsbD 11 = true ∧ (reg t (penStat x.engine)).getLsbD 12 = true
           ∧ ∀ i, c.own = true → i < c.count → pinAt t (64 * (x.engine.val / 8) + c.base + i)
               = pinOfCode (patternCode (chry s (groupOfEng x.engine)) ((c.base + i) % 64)))
       ∧ (penTurn s x.engine x.ctx = true → ∃ t, exec (.engineIllegalWord x) s = .next t
           ∧ ctxAt t x.engine x.ctx = { c with st := .held, hold := .illegal, wait := none, delay := 0, carry := 0 }
           ∧ (reg t (penStat x.engine)).getLsbD 10 = true ∧ (reg t (penStat x.engine)).getLsbD 12 = true)
       ∧ (∀ (bank : Bool) (w : Fin 256) (v : PenWord), s.released = true → (reg s (0xA000 + 0x20 * x.engine.val)).getLsbD 0 = true →
           imagePen s x.engine w = (s, some v) →
         (∃ t, exec (.engineStoreScrub x.engine bank w true true) s = .next t ∧ t = { s with pen := t.pen, regs := t.regs }
           ∧ penWord (eng t x.engine) bank w = v
           ∧ (reg t 0xA838).toNat % 2 ^ 16 = min 0xFFFF ((reg s 0xA838).toNat % 2 ^ 16 + 1) ∧ reg t 0x2154 = countUp (reg s 0x2154))
         ∧ ∃ t, exec (.engineStoreScrub x.engine bank w true false) s = .next t ∧ t = { s with pen := t.pen, regs := t.regs }
           ∧ (penWord (eng t x.engine) bank w).bad = true ∧ reg t 0x2158 = countUp (reg s 0x2158))
       ∧ (∀ p : Fin 512, s.released = true → (pinAt s p).out = true →
           ((chry s (Fin.ofNat 8 (p.val / 64))).active = false ∨ s.nrg[(Fin.ofNat 8 (p.val / 64))].fold = true) →
         ∃ e : Nat, (∀ own, ownerOf s p = some own → e = own.1) ∧ (ownerOf s p = none → e = 8 * (p.val / 64))
           ∧ (s.nrg[(Fin.ofNat 8 (p.val / 64))].fold = true → ∀ again, ∃ t, exec (.readbackMismatch p again) s = .next t
             ∧ t = { s with regs := t.regs }
               ∧ (reg t (penStat e)).getLsbD 5 = true ∧ reg t 0xA818 = reg s 0xA818)
           ∧ (s.nrg[(Fin.ofNat 8 (p.val / 64))].fold = false →
             (∃ t, exec (.readbackMismatch p false) s = .next t ∧ t = { s with regs := t.regs }
               ∧ (reg t 0xA818).toNat % 2 ^ 16 = min 0xFFFF ((reg s 0xA818).toNat % 2 ^ 16 + 1))
             ∧ ((reg s 0xA810).toNat / 2 ^ 12 % 4 = 0 → ∃ t, exec (.readbackMismatch p true) s = .next t ∧ t = { s with regs := t.regs }
               ∧ (reg t (penStat e)).getLsbD 4 = true ∧ (reg t 0xA818).toNat / 2 ^ 16 = min 0xFFFF ((reg s 0xA818).toNat / 2 ^ 16 + 1)
               ∧ reg t 0xA814 = BitVec.ofNat 32 (p.val + (if (pinAt s p).level then 512 else 0) + 2 ^ 31))))
       ∧ (s.coreReset = false → (∃ t, exec .penRbCountRead s = .next t ∧ t.host.rdata = reg s 0xA818 ∧ reg t 0xA818 = 0 ∧ t.pen = s.pen)
         ∧ ∀ (v : Word), (reg s (0xA014 + 0x20 * x.engine.val)).toNat % 64 = x.ctx →
           (reg s (0xA014 + 0x20 * x.engine.val)).toNat / 256 % 16 = 2 →
           ∃ t, exec (.penCtxWrite x.engine v) s = .next t ∧ t = { s with pen := t.pen } ∧ OnlyCtx s t x
             ∧ ctxAt t x.engine x.ctx = if c.st = .off ∨ (c.st = .held ∧ c.hold ≠ .group) then { c with ta := v } else c))

/-! ## Cadence -/

/-- Axis commands: a write of EN is held for the next bc, where it puts an axis that is off into TRACKING at its position, or off;
EN = 1 is ignored on KIND 0b000; SET_POS takes the latch modulo the wrap; a capture shows position, epoch and state and bumps
its sequence; CAPTURE_ALL captures each axis of its mask as CAPTURE does; CLR_DIS clears the disagreement record; a write of the
network rate brings a lost axis 0 back (R20, R24 to R26, R34, R35). What happens to an axis in service. Samples pass the filter,
and the change of the accepted levels is an edge, an illegal transition or nothing; an edge of the encoder that the axis runs on
counts one weight up or down, with whole wraps in the epoch, and moves the tracker by its gains; an edge of the other one moves
the secondary's own count; an edge of a coasting axis brings it back at the nearest count, with a jump. Z sets the position to 0
at the nearest wrap. An illegal transition, a receiver fault on a pin of the input and a timeout are recorded and lose the
input: the axis goes on with its secondary, or coasts; past the coast limit it stands. A disagreement that lasts is recorded
with both positions. The model’s choices in this: log entries 2, 11. -/
def Obligations.AxisCommandsAndEvents : Prop :=
  (∀ (s : State) (n : Fin 17) (a : Axis) (r : Nat → Nat), a = axis s n → s.coreReset = false → (∀ i, r i = 0x4000 + 0x40 * n.val + i) →
     (∃ t, exec (.axisEnable n) s = .next t ∧ t = { s with regs := t.regs, cad := { s.cad with axes := t.cad.axes } }
         ∧ (∀ m, m ≠ n → axis t m = axis s m)
         ∧ (reg t (r 0)).getLsbD 0 = decide (axKind s n ≠ 0 ∨ (reg s (r 0)).getLsbD 0 = true)
         ∧ axis t n = (if s.released then { a with enDue := some ((reg t (r 0)).getLsbD 0) } else a)
         ∧ (s.released = true → a.st = .off → (reg t (r 0)).getLsbD 0 = true → ∃ u, u = applyEnable t n ∧ (axis u n).st = .tracking
           ∧ (axis u n).p = a.p ∧ (axis u n).k = (a.p.toNat / 2 ^ 24 : Nat) ∧ (axis u n).secLost = false ∧ (axis u n).enDue = none
           ∧ ∀ m, m ≠ n → axis u m = axis s m))
     ∧ (∃ t, exec (.axisDisable n) s = .next t ∧ t = { s with regs := t.regs, cad := { s.cad with axes := t.cad.axes } }
         ∧ (∀ m, m ≠ n → axis t m = axis s m) ∧ (reg t (r 0)).getLsbD 0 = false
         ∧ axis t n = (if s.released then { a with enDue := some false } else a)
         ∧ (s.released = true → axis (applyEnable t n) n = { a with st := .off, enDue := none }))
     ∧ (∃ t, exec (.setPos n) s = .next t
         ∧ (axis t n).p.toNat = ((reg s (r 0x24)).toNat + (reg s (r 0x28)).toNat * 2 ^ 32) % (wrapOf s n * 2 ^ 24)
         ∧ (axis t n).st = (if a.st = .off then .off else .tracking) ∧ (axis t n).epoch = a.epoch ∧ (axis t n).uncertain = false
         ∧ ∀ m, m ≠ n → axis t m = axis s m)
     ∧ (∃ t, exec (.cadCapture n) s = .next t ∧ t = { s with regs := t.regs } ∧ reg t (r 0x24) = a.p.setWidth 32
         ∧ reg t (r 0x28) = a.p.extractLsb' 32 32 ∧ (reg t (r 0x30)).toNat % 2 ^ 24 = a.epoch.toNat
         ∧ (reg t (r 0x30)).toNat / 2 ^ 24 % 4 = (match a.st with | .off => 0 | .tracking => 1 | .coasting => 2 | .stalled => 3)
         ∧ (reg t (r 0x30)).toNat / 2 ^ 28 = ((reg s (r 0x30)).toNat / 2 ^ 28 + 1) % 16
         ∧ (n = 0 → reg t (r 0x2C) = reg s 0x483C))
     ∧ (∀ mask : BitVec 17, ∃ t u, exec (.captureAll mask) s = .next t ∧ exec (.cadCapture n) s = .next u ∧ t = { s with regs := t.regs }
         ∧ ∀ i, i ∈ [0x24, 0x28, 0x2C, 0x30, 0x34] → reg t (r i) = if mask.getLsbD n then reg u (r i) else reg s (r i))
     ∧ (∃ t, exec .clrDis s = .next t ∧ (∀ k, reg t k = if k ∈ [0x4824, 0x4828, 0x482C, 0x4830, 0x4834] then 0 else reg s k)
         ∧ t = { s with regs := t.regs, cad := { s.cad with ownerRef := false } })
     ∧ ∀ v : Word, ∃ t, exec (.cadPtpRateWrite v) s = .next t ∧ reg t 0x483C = v ∧ (axis t 0).tTimeout = s.bc ∧ (axis t 0).p = (axis s 0).p
         ∧ (axis t 0).st = (if (axis s 0).st = .coasting ∨ (axis s 0).st = .stalled then .tracking else (axis s 0).st)
         ∧ ∀ m, m ≠ 0 → axis t m = axis s m)
  ∧ (∀ (s : State) (n : Fin 17) (a : Axis) (r : Nat → Nat), a = axis s n → s.released = true → (∀ i, r i = 0x4000 + 0x40 * n.val + i) →
       (∀ (sec : Bool) (ha hb : BitVec 16) (old new : Lines), n ≠ 0 → (sec = true → hasSec s n = true) →
           old = (if sec then a.lines2 else a.lines) →
           new = ⟨acceptLevel (axFilter s n) old.a ha, acceptLevel (axFilter s n) old.b hb⟩ →
         (a.st = .off ∨ edgeOf (axKind s n) old new = none → ∃ t, exec (.axisEdge n sec ha hb) s = .next t
           ∧ t = setAxis s n (if sec then { a with lines2 := new } else { a with lines := new }))
         ∧ (∀ (e : EdgeKind) (d : Int), a.st ≠ .off → edgeOf (axKind s n) old new = some e → e ≠ .illegal →
             d = (if (e == .up) != (reg s (r 0)).getLsbD 1 then (1 : Int) else -1) * axWeight s n →
           ∃ t, exec (.axisEdge n sec ha hb) s = .next t ∧ (∀ m, m ≠ n → axis t m = axis s m)
             ∧ (axis t n).sec = (if sec then (a.sec + d).emod (wrapOf s n) else a.sec)
             ∧ (if sec then (axis t n).lines2 = new ∧ (axis t n).secLost = false else (axis t n).lines = new ∧ (axis t n).secLost = a.secLost)
             ∧ (sec ≠ a.onSec → (axis t n).p = a.p ∧ (axis t n).k = a.k ∧ (axis t n).st = a.st ∧ (axis t n).epoch = a.epoch)
             ∧ (sec = a.onSec → a.st = .tracking → ∃ wraps : Int, (axis t n).st = .tracking
               ∧ (axis t n).k + wraps * wrapOf s n = a.k + d ∧ (axis t n).p.toNat < wrapOf s n * 2 ^ 24
               ∧ (axis t n).epoch = BitVec.ofInt 24 (a.epoch.toNat + wraps)
               ∧ ∀ (f dt : Nat) (q : Int), f = axFilter s n + 1 → dt = max 1 (s.bc - f - a.tEdge) →
                   q = (a.k + d) * 2 ^ 32 - (a.u - a.v * f) →
                   (axis t n).v = clampV (a.v + q.tdiv (dt * 2 ^ fld s (r 0x14) 4 4))
                   ∧ (axis t n).u + wraps * wrapOf s n * 2 ^ 32 = a.u + asrInt q (fld s (r 0x14) 0 3))
             ∧ (sec = a.onSec → a.st = .coasting → ∃ wraps : Int, (axis t n).st = .tracking ∧ (axis t n).jump = true ∧ (axis t n).v = a.v
               ∧ (axis t n).k + wraps * wrapOf s n = nearest (if axKind s n = 4 then axWeight s n else 1) a.u
               ∧ (axis t n).uncertain = (a.uncertain || decide (axKind s n ≠ 4)) ∧ (reg t (r 0x1C)).getLsbD 12 = true))
         ∧ (edgeOf (axKind s n) old new = some .illegal → a.st ≠ .off → ∃ t, exec (.axisEdge n sec ha hb) s = .next t
           ∧ (reg t (r 0x1C)).getLsbD 16 = true ∧ (∀ m, m ≠ n → axis t m = axis s m) ∧ InputLost s t n sec))
       ∧ (∀ sec : Bool, a.st ≠ .off → axKind s n = 2 → (reg s (r 0)).getLsbD 2 = true → a.lastDir ≠ some false →
           (sec = true → a.onSec = true) →
         ∃ t, exec (.zResync n sec) s = .next t ∧ (axis t n).p = 0 ∧ (axis t n).k = 0 ∧ (axis t n).u = 0 ∧ (axis t n).st = .tracking
           ∧ (axis t n).uncertain = false ∧ (axis t n).onSec = sec ∧ (∀ m, m ≠ n → axis t m = axis s m)
           ∧ (axis t n).epoch = BitVec.ofInt 24 (a.epoch.toNat + (if wrapOf s n * 2 ^ 24 ≤ 2 * a.p.toNat then 1 else 0)))
       ∧ (∀ pin : Fin 512, n ≠ 0 → a.st ≠ .off → ∀ prim sec, prim = pinsOf (axKind s n) (fld s (r 4) 4 9) →
           sec = (if hasSec s n then pinsOf (axKind s n) (fld s (r 8) 1 9) else []) →
         ∃ t, exec (.rxFault pin) s = .next t
           ∧ (pin.val ∈ prim ∨ pin.val ∈ sec → (reg t (r 0x1C)).getLsbD 17 = true)
           ∧ (pin.val ∉ prim → pin.val ∉ sec → axis t n = a)
           ∧ (pin.val ∈ prim → pin.val ∉ sec → InputLost s t n false) ∧ (pin.val ∉ prim → pin.val ∈ sec → InputLost s t n true))
       ∧ (∀ (due : Nat → Bool) (two : Bool), a.st = .tracking → (∀ b, due b = decide (fld s (r 0x14) 16 16 ≠ 0
             ∧ b + 1000 * fld s (r 0x14) 16 16 ≤ s.bc)) → two = (hasSec s n && !a.secLost && due a.tSec) →
         (a.onSec = false → due a.tTimeout = true → two = false →
           ∃ t, exec (.lossTimeout n) s = .next t ∧ (∀ m, m ≠ n → axis t m = axis s m) ∧ InputLost s t n false)
         ∧ (two = true → (a.onSec = true ∨ due a.tTimeout = false) →
           ∃ t, exec (.lossTimeout n) s = .next t ∧ (∀ m, m ≠ n → axis t m = axis s m) ∧ InputLost s t n true)
         ∧ (a.onSec = false → due a.tTimeout = true → two = true → ∃ t, exec (.lossTimeout n) s = .next t
           ∧ (axis t n).st = .coasting ∧ (axis t n).secLost = true ∧ (∀ m, m ≠ n → axis t m = axis s m)))
       ∧ (a.st = .coasting →
         a.tLoss + (reg s (r 0x18)).toNat % 2 ^ 16 * (if (reg s (r 0x18)).getLsbD 16 then 1000000 else 1000) ≤ s.bc →
         ∃ t, exec (.coastLimit n) s = .next t ∧ axis t n = { a with st := .stalled, v := if n = 0 then a.v else 0 }
           ∧ (reg t (r 0x1C)).getLsbD 11 = true ∧ (∀ m, m ≠ n → axis t m = axis s m)
           ∧ ∀ c, evt t c = if evtAxis (evt s c) = n ∧ (evt s c).cfg.getLsbD 10 = true then abortEvt (evt s c) else evt s c)
       ∧ (a.st ≠ .off → hasSec s n = true → a.onSec = false → a.disAct = false →
         (reg s (r 8)).toNat / 2 ^ 16 < (secDistance s n).natAbs → a.disFrom + 16 * ((reg s (r 8)).toNat / 2 ^ 10 % 64) ≤ s.bc →
         ∃ t, exec (.axisDisagree n) s = .next t ∧ axis t n = { a with disAct := true } ∧ (reg t (r 0x1C)).getLsbD 13 = true
           ∧ (reg t 0x4824).getLsbD 31 = true ∧ t.spokes = s.spokes
           ∧ (reg t 0x4824).toNat / 2 ^ 8 % 2 ^ 8 = min 255 ((reg s 0x4824).toNat / 2 ^ 8 % 2 ^ 8 + 1)
           ∧ ((reg s 0x4824).getLsbD 31 = false → (reg t 0x4824).toNat % 32 = n.val ∧ reg t 0x4828 = a.p.setWidth 32
               ∧ reg t 0x482C = a.p.extractLsb' 32 32 ∧ (reg t 0x4830).toNat + (reg t 0x4834).toNat * 2 ^ 32
                 = (BitVec.ofInt 64 (a.sec * 2 ^ 24)).toNat)))

/-- Comparators: a write of the target takes effect as a whole with the staged low half, a write of the configuration arms or
disarms, and neither fires; an armed comparator whose axis has crossed its target in its direction fires, is recorded and
performs its action: a token into its channel, a trigger, a timer that starts or loads, an epoch line; it arms again behind its
hysteresis; a pending token enters its channel, and an epoch line that waits opens (R27 to R32). The model’s choices in this:
log entry 11. -/
def Obligations.Comparators : Prop :=
  ∀ (s : State) (c : Fin 512) (x : Comparator) (n : Fin 17), x = evt s c → n = evtAxis x →
    (∀ v : Word, s.coreReset = false → (reg s 0x4810).toNat % 512 = c →
      (∃ t, exec (.cadEvtTgtHiWrite v) s = .next t ∧ (evt t c).target = v ++ s.cad.stageLo ∧ (evt t c).st = x.st ∧ (evt t c).cfg = x.cfg
        ∧ (evt t c).dPrev = evtDelta s { x with target := v ++ s.cad.stageLo } (axis s n).p ∧ ∀ d, d ≠ c.val → evt t d = evt s d)
      ∧ ∃ t, exec (.cadEvtCfgWrite v) s = .next t ∧ (evt t c).st = (if v.getLsbD 6 then .armed else .disarmed) ∧ (evt t c).target = x.target
        ∧ (v.toNat % 32 ≤ 16 → v.toNat / 256 % 4 ≠ 3 → (evt t c).cfg = v &&& 0xFFFF7FBF) ∧ ∀ d, d ≠ c.val → evt t d = evt s d)
    ∧ (s.released = true → (reg s 0x4800).getLsbD 0 = true → s.dbg.frz = false → x.st = .armed →
      ((axis s n).st = .tracking ∨ (axis s n).st = .coasting ∧ x.cfg.toNat / 2 ^ 8 % 4 = 0) →
      (∀ step, step = reduce (wrapOf s n * 2 ^ 24) (((axis s n).p.toNat : Int) - (axis s n).pPrev.toNat) →
        if x.cfg.getLsbD 5 then 0 < x.dPrev ∧ evtDelta s x (axis s n).p ≤ 0 ∧ step < 0
        else x.dPrev < 0 ∧ 0 ≤ evtDelta s x (axis s n).p ∧ 0 < step) →
      ∃ t, exec (.comparatorFire c) s = .next t ∧ (evt t c).st = .fired ∧ (reg t (0x4880 + 4 * (c.val / 32))).getLsbD (c.val % 32) = true
        ∧ (∀ d, d ≠ c.val → evt t d = evt s d)
        ∧ (x.cfg.toNat / 2 ^ 12 % 8 = 1 → (chan s (x.act.toNat % 2 ^ 14)).writer.kind = .cadence → x.pend = none →
            (chan s (x.act.toNat % 2 ^ 14)).waiting = [] → (chan s (x.act.toNat % 2 ^ 14)).rdisc = false →
              (chan s (x.act.toNat % 2 ^ 14)).fifo.length < 8 →
            ∃ w : Word, (chan t (x.act.toNat % 2 ^ 14)).fifo = (chan s (x.act.toNat % 2 ^ 14)).fifo ++ [⟨w, true, false, false, false⟩]
              ∧ w.toNat % 512 = c.val ∧ w.toNat / 512 % 32 = n.val ∧ w.toNat / 2 ^ 16 = (axis s n).p.toNat / 2 ^ 24 % 2 ^ 16)
        ∧ (x.cfg.toNat / 2 ^ 12 % 8 = 2 → (⟨x.act.toNat % 64, x.act.toNat / 64 % 64, s.bc, false⟩ : Trigger) ∈ t.cad.trigQ
          ∧ t.chans = s.chans)
        ∧ (∀ k, k = Fin.ofNat 32 x.act.toNat →
            (x.cfg.toNat / 2 ^ 12 % 8 = 3 → (timer t k).run = decide ((timer s k).count ≠ 0 ∨ (timer s k).reload ≠ 0))
            ∧ (x.cfg.toNat / 2 ^ 12 % 8 = 4 → (timer t k).count = (timer s k).reload ∧ (timer t k).run = (timer s k).run))
        ∧ (x.cfg.toNat / 2 ^ 12 % 8 = 5 → x.act.toNat % 32 ∈ t.cad.epochQ ∧ t.chans = s.chans))
    ∧ (s.released = true → x.st = .fired → x.cfg.getLsbD 7 = true → (axis s n).st ≠ .off →
      (∀ h : Int, h = (x.cfg.toNat / 2 ^ 16 * 2 ^ 24 : Nat) →
        if x.cfg.getLsbD 5 then h < evtDelta s x (axis s n).p else evtDelta s x (axis s n).p < -h) →
      ∃ t, exec (.comparatorRearm c) s = .next t ∧ evt t c = { x with st := .armed }
        ∧ t = { s with cad := { s.cad with evts := t.cad.evts } })
    ∧ (∀ w ch, ch = x.act.toNat % 2 ^ 14 → x.pend = some w → (chan s ch).fifo.length < 8 → (chan s ch).rdisc = false →
      (chan s ch).waiting = [] →
      ∃ t, exec (.cadenceTokenDeliver c) s = .next t ∧ evt t c = { x with pend := none }
        ∧ (chan t ch).fifo = (chan s ch).fifo ++ [⟨w, true, false, false, false⟩] ∧ ∀ k, k ≠ ch → chan t k = chan s k)
    ∧ ∀ l : Fin 32, s.coreReset = false → l.val ∈ s.cad.epochQ → (s.cfg.molt ≠ .armed ∨ s.cfg.line ≠ l) →
      ∃ t, exec (.epochLineOpen l) s = .next t ∧ (reg t 0x1058).getLsbD l = true ∧ l.val ∉ t.cad.epochQ ∧ t.cfg.copies = s.cfg.copies

/-! ## Configuration -/

/-- Loading: LOAD checks the source image and starts its apply with three VALID copies, or rejects it and leaves copy 0 empty; after
a commit it is refused, while a load or a molt runs and where a source word fails it is rejected; the boot image is checked at
BOOTDONE alike; the apply ends, or is rejected where the cocoon cannot be read; a commit of an applied image records it and
gives each bank its owner, of anything else it is refused (R282, R288, R289). Block release of a committed image: bc is 0, each
listed spoke runs or is DEFERRED as declared, and each enabled axis tracks from position 0 (R46, R346). The model’s choices in
this: log entries 9, 38, 47, 95. -/
def Obligations.ImageLoadCommitAndRelease : Prop :=
  (∀ (s : State), s.coreReset = false →
     (∀ o, ∃ t, exec (.cfgLoad o) s = .next t
       ∧ (s.cfg.committed = true → t = { s with regs := t.regs } ∧ (reg t 0x100C).getLsbD 21 = true)
       ∧ (s.cfg.committed = false → cfgBusy s = true → t.cfg = s.cfg ∧ (reg t 0x100C).getLsbD 16 = true ∧ (reg t 0x1014).toNat % 256 = 0x10)
       ∧ (∀ v, s.cfg.committed = false → cfgBusy s = false → readSource s o = (v, none) →
           t.cfg.st = .empty ∧ (reg t 0x100C).getLsbD 16 = true ∧ (reg t 0x1014).toNat % 256 = 0x11)
       ∧ (∀ v l, s.cfg.committed = false → cfgBusy s = false → readSource s o = (v, some l) →
           (t.cfg.st = .applying ∧ t.cfg.active = 0 ∧ ∀ i : Fin 3, t.cfg.copies[i].st = .valid ∧ t.cfg.copies[i].words = (asCopy l).words)
           ∨ (t.cfg.st = .empty ∧ t.cfg.copies[(0 : Fin 3)].st = .empty ∧ (reg t 0x100C).getLsbD 16 = true)))
     ∧ (s.coldStart = true → (chry s 0).bootDone = true → s.cfg.copies[(0 : Fin 3)].st = .writing → s.cfg.st = .empty →
       ∃ t, exec .bootImageCheck s = .next t ∧ t.spokes = s.spokes
         ∧ ((t.cfg.st = .applying ∧ ∀ i : Fin 3, t.cfg.copies[i].st = .valid ∧ t.cfg.copies[i].words = s.cfg.copies[(0 : Fin 3)].words)
           ∨ (t.cfg.st = .empty ∧ t.cfg.copies[(0 : Fin 3)].st = .empty ∧ (reg t 0x100C).getLsbD 16 = true)))
     ∧ (∀ u, s.cfg.st = .applying → ∃ t, exec (.imageApplied u) s = .next t
       ∧ (∀ v c, readImage (u.foldl upset s) = (v, some c) → t.cfg.st = .applied)
       ∧ ∀ v, readImage (u.foldl upset s) = (v, none) → t.cfg.st = .empty ∧ (reg t 0x100C).getLsbD 16 = true)
     ∧ (∀ c o, c = Instr.cfgCommit o ∨ c = .autoCommit → s.cfg.st = .applied →
         (s.coldStart = false ∨ (c = .cfgCommit o ∧ (reg s 0x1020).toNat % 2 ^ 21 = 0)) →
       ∃ t, exec c s = .next t ∧ t.cfg.st = .committed ∧ t.cfg.committed = true ∧ t.avl.role = BitVec.ofNat 2 (reg s 0xE414).toNat
         ∧ t.cfg.gen = BitVec.ofNat 32 (imgGen (imageNow s)) ∧ t.mem.cells = s.mem.cells ∧ t.spokes = s.spokes
         ∧ ∀ b : Fin 32, t.mem.banks[b].owner = s.mem.banks[b].bsOwner ∧ t.mem.banks[b].pending = none)
     ∧ (∀ o, s.cfg.st ≠ .applied → ∃ t, exec (.cfgCommit o) s = .next t ∧ t = { s with regs := t.regs } ∧ (reg t 0x100C).getLsbD 21 = true))
  ∧ (∀ (s : State), s.coreReset = false → s.cfg.committed = true → s.released = false → s.avl.role ≠ 2 →
       ∃ t, exec .blockRelease s = .next t ∧ t.released = true ∧ t.bc = 0 ∧ (reg t 0x18).getLsbD 2 = true ∧ t.mem = s.mem
         ∧ (∀ g, (spk s g).listed = true → (spk t g).st = (if (spk s g).deferredDecl then .deferred else .run)
             ∧ (spk t g).pc = (spk s g).pc ∧ (spk t g).g = (spk s g).g)
         ∧ ∀ n : Fin 17, (reg s (0x4000 + 0x40 * n.val)).getLsbD 0 = true → (axis t n).st = .tracking ∧ (axis t n).p = 0)

/-- The molt: STAGE checks a delta and writes the merged image into copy 2 or rejects it, and is rejected while one is under way;
the staged image is verified or dropped; ARM takes a staged one and ABORT drops it, each refused in any other state; the line it
is armed on applies it, an engine region ending with its bank switch, and behind the last region the copies follow copy 2 (R291
to R295). The cocoon: RESOLVE makes every copy the ACTIVE one where it is VALID, else it is refused; a scan that is asked for is
due, and a pass over sound copies leaves them; a host read gives the low word of what the VALID copies agree on, and is refused
with none; the re-check leaves settings that agree with the reference, and where the CRC differs restores one that does not read
as the image has it, with its offset and count (R285 to R287, R290). Copies are compared by all but the upsets of their cells.
The model’s choices in this: log entries 9, 38, 49, 50, 51, 95. -/
def Obligations.MoltCocoonAndRecheck : Prop :=
  (∀ (s : State), s.coreReset = false →
     (∀ o, ∃ t, exec (.cfgStage o) s = .next t ∧ t.spokes = s.spokes
       ∧ (cfgBusy s = true → t.cfg = s.cfg ∧ (reg t 0x100C).getLsbD 16 = true)
       ∧ (∀ v, cfgBusy s = false → readSource s o = (v, none) → t.cfg = s.cfg ∧ (reg t 0x100C).getLsbD 16 = true
           ∧ (reg t 0x1014).toNat % 256 = 0x11)
       ∧ (∀ v l, cfgBusy s = false → readSource s o = (v, some l) →
           (t.cfg.molt = .idle ∧ (reg t 0x100C).getLsbD 16 = true)
           ∨ (t.cfg.molt = .staging ∧ t.cfg.copies[(2 : Fin 3)].words = (mergeImage (imageNow v) (asCopy l)).words
               ∧ t.cfg.copies[(2 : Fin 3)].st = .writing ∧ t.cfg.copies[(0 : Fin 3)] = s.cfg.copies[(0 : Fin 3)])))
     ∧ (s.cfg.molt = .staging → ∃ t, exec .moltStaged s = .next t ∧ t.spokes = s.spokes
       ∧ ((t.cfg.molt = .staged ∧ t.cfg.copies[(2 : Fin 3)].st = .staged ∧ t.cfg.copies[(2 : Fin 3)].words = s.cfg.copies[(2 : Fin 3)].words)
         ∨ (t.cfg.molt = .idle ∧ SameCopy t.cfg.copies[(2 : Fin 3)] t.cfg.copies[(0 : Fin 3)] ∧ (reg t 0x100C).getLsbD 16 = true)))
     ∧ (∃ t, exec .cfgArm s = .next t ∧ (s.cfg.molt = .staged → t = { s with cfg := { s.cfg with molt := .armed } })
       ∧ (s.cfg.molt ≠ .staged → t.cfg = s.cfg ∧ (reg t 0x100C).getLsbD 21 = true))
     ∧ (∃ t, exec .cfgAbort s = .next t
       ∧ (s.cfg.molt = .staging ∨ s.cfg.molt = .staged ∨ s.cfg.molt = .armed →
           t.cfg.molt = .idle ∧ SameCopy t.cfg.copies[(2 : Fin 3)] s.cfg.copies[(0 : Fin 3)] ∧ t.cfg.st = s.cfg.st ∧ t.regs = s.regs)
       ∧ (s.cfg.molt = .idle ∨ s.cfg.molt = .applying ∨ s.cfg.molt = .copying → t.cfg = s.cfg ∧ (reg t 0x100C).getLsbD 21 = true))
     ∧ (∀ (lines : BitVec 32), s.cfg.molt ≠ .armed → ∃ t, exec (.cfgEpochOpen lines) s = .next t ∧ t.cfg = s.cfg
       ∧ (∀ l, lines.getLsbD l = true → (reg t 0x1058).getLsbD l = true)
       ∧ ∀ (b : Fin 32) (n : BitVec 5) (l : Nat), s.mem.banks[b].pending = some ⟨n, some l⟩ →
           t.mem.banks[b].pending = (if lines.getLsbD l then some ⟨n, none⟩ else some ⟨n, some l⟩))
     ∧ (∀ (lines : BitVec 32) (es : List (Fin 64)), s.cfg.molt = .armed → lines.getLsbD s.cfg.line = true → stagedRegions s = es.map .engine →
       ∃ t, exec (.cfgEpochOpen lines) s = .next t ∧ t.cfg.molt = (if es = [] then .copying else .applying) ∧ t.cfg.left = es.map .engine
         ∧ t.cfg.active = 2 ∧ t.cfg.copies[(2 : Fin 3)].st = .valid ∧ t.cfg.copies[(2 : Fin 3)].words = s.cfg.copies[(2 : Fin 3)].words
         ∧ t.cfg.copies[(0 : Fin 3)] = s.cfg.copies[(0 : Fin 3)])
     ∧ (∀ e : Fin 64, s.cfg.molt = .applying → Region.engine e ∈ s.cfg.left → (eng s e).pending = false →
       ∃ t, exec (.regionEnd (.engine e)) s = .next t ∧ t.cfg.left = s.cfg.left.filter (· != .engine e)
         ∧ t.cfg.molt = (if s.cfg.left.filter (· != .engine e) = [] then .copying else .applying))
     ∧ (s.cfg.molt = .copying → ∃ t, exec .moltDone s = .next t ∧ t.cfg.molt = .idle ∧ t.cfg.moltDone = true ∧ t.spokes = s.spokes
       ∧ (∀ i : Fin 3, SameCopy t.cfg.copies[i] s.cfg.copies[(2 : Fin 3)]) ∧ t.cfg.gen = BitVec.ofNat 32 (imgGen s.cfg.copies[(2 : Fin 3)])))
  ∧ (∀ (s : State), s.coreReset = false →
       (∃ t, exec .cfgResolve s = .next t
         ∧ ((activeImage s).st = .valid → (∀ i : Fin 3, SameCopy t.cfg.copies[i] (activeImage s)) ∧ (reg t 0x100C).getLsbD 17 = false)
         ∧ ((activeImage s).st ≠ .valid → t.cfg = s.cfg ∧ (reg t 0x100C).getLsbD 21 = true))
       ∧ (∃ t, exec .cfgScan s = .next t ∧ t = { s with cfg := { s.cfg with scanBusy := true } })
       ∧ (((reg s 0x1008).getLsbD 1 = true ∨ s.cfg.scanBusy = true) → (∀ i : Fin 3, s.cfg.copies[i].st = .valid → copyOk s i = true) →
         ∃ t, exec (.cocoonScan []) s = .next t ∧ t = { s with cfg := t.cfg } ∧ t.cfg.copies = s.cfg.copies ∧ t.cfg.scanBusy = false
           ∧ t.cfg.scanPasses = s.cfg.scanPasses + 1)
       ∧ (((reg s 0x1008).getLsbD 1 = true ∨ s.cfg.scanBusy = true) → ∀ u, ∃ t, exec (.cocoonScan u) s = .next t ∧ t.cfg.scanBusy = false
           ∧ t.cfg.scanPasses = s.cfg.scanPasses + 1 ∧ t.spokes = s.spokes ∧ t.mem = s.mem)
       ∧ (∀ (w : Nat) (d : MemWord), w = (reg s 0x1088).toNat % 2 ^ 15 →
         ((∀ i : Fin 3, s.cfg.copies[i].st = .valid ∧ copyWord s i w = d ∧ decodes s i w = true) →
           ∃ t, exec (.cocDataRead []) s = .next t ∧ t.host.rdata = d.setWidth 32 ∧ t.host.ack = true ∧ t = { s with host := t.host })
         ∧ ((∀ i : Fin 3, s.cfg.copies[i].st ≠ .valid) → ∃ t, exec (.cocDataRead []) s = .next t ∧ t.host.err = true ∧ t.host.ack = false
           ∧ t.cfg = s.cfg))
       ∧ (s.cfg.committed = true → (reg s 0x1008).getLsbD 0 = true →
         ((∀ e ∈ s.cfg.lockRef, lockedVal s e.1 = e.2) → exec .recheckPass s = .next s)
         ∧ ∀ (k : Nat) (w x : Word) (c : Copy), s.cfg.lockRef = [(k, w)] → s.cfg.molt = .idle → k < 0x40000 →
             k ∉ [0x100C, 0x105C, 0x1060] → readImage s = (s, some c) → x = lockedVal (asApplied s c) k → lockedVal s k ≠ x →
           ∃ t, exec .recheckPass s = .next t ∧ t = { s with regs := t.regs }
             ∧ (Sys2Proof.Config.lockCrc [(k, lockedVal s k)] = Sys2Proof.Config.lockCrc [(k, w)] → t = s)
             ∧ (Sys2Proof.Config.lockCrc [(k, lockedVal s k)] ≠ Sys2Proof.Config.lockCrc [(k, w)] →
               reg t k = (reg s k &&& ~~~rwlMask k) ||| x ∧ reg t 0x1060 = BitVec.ofNat 32 k
                 ∧ (reg t 0x105C).toNat = Nat.min 0xFFFFFFFF ((reg s 0x105C).toNat + 1)
               ∧ (reg t 0x100C).getLsbD 18 = true ∧ ∀ j, j ∉ [k, 0x100C, 0x105C, 0x1060] → reg t j = reg s j)))

/-! ## Host port and debug wire -/

/-- Register writes and what the host port refuses: a write reaches its register from any source; a misaligned or an unmapped
offset, and one outside VAON while the core domains are in reset, is refused with its record and hp_err (R299, R302, R303). The
mailbox: DATA stages a word, LAST sends the message where it fits and else leaves it pending, a write to a pending or a full
slot is refused with its bit, a pending message enters once it fits; a read of RX takes the oldest word with its flags, 0 with
the bit for an empty one, and is refused where no channel is bound (R307 to R309). Commands of the block's own registers: a gear
pin of 0 or 1 is taken and another leaves it with a record; a reset needs both key words within 1,000 bc; a read of the low half
of bc holds the high half for its reader; a read of the low half of a program word holds its upper part; a read of a quad's link
counter clears it (R214, R310, R312, R314). The model’s choices in this: log entries 66, 67. -/
def Obligations.HostRegistersAndMailbox : Prop :=
  (∀ (s : State) (off : BitVec 18) (v : Word),
     (s.coreReset = false → ∀ src, (src = .host ∨ (∃ g, src = .spoke g) ∨ (src = .debug ∧ InSession s 2 ∧ (reg s 0x300C).getLsbD 0 = false)) →
       ∃ t, exec (.registerWrite src 0xA824 v) s = .next t ∧ reg t 0xA824 = (reg s 0xA824 &&& ~~~0xFF) ||| (v &&& 0xFF)
         ∧ (∀ k, k ≠ 0xA824 → k ≠ 0x3054 → reg t k = reg s k) ∧ t.spokes = s.spokes ∧ t.mem = s.mem ∧ t.pen = s.pen
         ∧ (src = .host → t.host.ack = true ∧ t.host.err = false) ∧ (src = .debug → t.dbg.status = 0))
     ∧ (∀ reason : Nat, (off.toNat % 4 ≠ 0 ∧ reason = 1) ∨ (off.toNat % 4 = 0 ∧ 0x16000 ≤ off.toNat ∧ off.toNat < 0x30000 ∧ reason = 2)
         ∨ (off.toNat % 4 = 0 ∧ (off.toNat < 0x800 ∨ (0x1000 ≤ off.toNat ∧ off.toNat < 0x16000)) ∧ s.coreReset = true ∧ reason = 3) →
       ∃ t, exec (.registerWrite .host off v) s = .next t ∧ t.host.err = true ∧ t.host.ack = false
         ∧ reg t 0x24 = BitVec.ofNat 32 (off.toNat + 2 ^ 18 + reason * 2 ^ 20 + 2 ^ 31) ∧ reg t 0x28 = countUp (reg s 0x28)
         ∧ (∀ k, k ∉ [0x18, 0x24, 0x28] → reg t k = reg s k) ∧ t.mem = s.mem ∧ t.spokes = s.spokes))
  ∧ (∀ (s : State) (n : Fin 8) (v : Word) (ch : Nat) (x : TxSlot), s.coreReset = false → x = s.host.tx[n] →
       (txChan s n = some ch → (chan s ch).rdisc = false → (chan s ch).waiting = [] →
         (x.pend = false → x.staged.length < 4 →
           (∃ t, exec (.mbxTxData n v) s = .next t ∧ t.host.tx[n] = { x with staged := x.staged ++ [v] } ∧ t.host.ack = true ∧ t.chans = s.chans)
           ∧ ∃ t, exec (.mbxTxLast n v) s = .next t ∧ t.host.ack = true
             ∧ ((chan s ch).fifo.length + x.staged.length + 1 ≤ 8 → t.host.tx[n] = {}
                 ∧ (chan t ch).fifo.map (·.word) = (chan s ch).fifo.map (·.word) ++ x.staged ++ [v]
                 ∧ ((chan t ch).fifo.getLast?.map (·.last)) = some true ∧ ∀ k, k ≠ ch → chan t k = chan s k)
             ∧ (8 < (chan s ch).fifo.length + x.staged.length + 1 →
                 t.host.tx[n] = { staged := x.staged ++ [v], pend := true } ∧ t.chans = s.chans))
         ∧ (x.pend = true → ∀ c, c = Instr.mbxTxData n v ∨ c = .mbxTxLast n v →
             ∃ t, exec c s = .next t ∧ t.host.err = true ∧ t.host.tx = s.host.tx ∧ (reg t 0x418).getLsbD 2 = true)
         ∧ (x.pend = false → 4 ≤ x.staged.length → ∀ c, c = Instr.mbxTxData n v ∨ c = .mbxTxLast n v →
             ∃ t, exec c s = .next t ∧ t.host.err = true ∧ t.host.tx = s.host.tx ∧ (reg t 0x418).getLsbD 1 = true)
         ∧ (x.pend = true → x.staged ≠ [] → (chan s ch).fifo.length + x.staged.length ≤ 8 →
             ∃ t, exec (.mbxPendingEnter n) s = .next t ∧ t.host.tx[n] = {}
               ∧ (chan t ch).fifo.map (·.word) = (chan s ch).fifo.map (·.word) ++ x.staged))
       ∧ (rxChan s n = some ch →
         (∀ w rest, (chan s ch).fifo = w :: rest → ∃ t, exec (.mbxRxData n) s = .next t ∧ t.host.rdata = w.word ∧ t.host.ack = true
           ∧ (chan t ch).fifo = rest ∧ t.host.rxEom.getLsbD n = w.last
             ∧ t.host.rxChe.getLsbD n = (w.trunc || w.last && ((chan s ch).inBad || w.bad)) ∧ ∀ k, k ≠ ch → chan t k = chan s k)
         ∧ ((chan s ch).fifo = [] → ∃ t, exec (.mbxRxData n) s = .next t ∧ t.host.rdata = 0 ∧ t.host.ack = true ∧ (reg t 0x418).getLsbD 0 = true
           ∧ t.chans = s.chans))
       ∧ (rxChan s n = none → ∃ t, exec (.mbxRxData n) s = .next t ∧ t.host.err = true ∧ t.chans = s.chans))
  ∧ (∀ (s : State), s.coreReset = false →
       (∀ (p : BitVec 8) (i : Fin 7), (reg s 0x1C).toNat % 16 = i.val → ∃ t, exec (.blkGearsPin p) s = .next t
         ∧ t.host.pins = (if p = 0 ∨ p = 1 then s.host.pins.set i p else s.host.pins) ∧ t.host.ack = true
         ∧ (p ≠ 0 → p ≠ 1 → (reg t 0x18).getLsbD 1 = true))
       ∧ (s.host.rstKey = none → ∃ t, exec (.blkRstCmd 0xC1A5) s = .next t ∧ t.host.rstKey = some s.bc ∧ t.coreReset = false)
       ∧ (∀ b v, s.host.rstKey = some b →
         (s.bc ≤ b + 1000 → ∃ t, exec (.blkRstCmd 0x5A1C) s = .next t ∧ t.coreReset = true ∧ t.host.rstCause = 6 ∧ t.spokes = []
           ∧ t.mem.cells = s.mem.cells)
         ∧ ((b + 1000 < s.bc ∨ v.toNat % 2 ^ 16 ≠ 0x5A1C) → ∃ t, exec (.blkRstCmd v) s = .next t ∧ t.coreReset = false ∧ t.host.rstKey = none
           ∧ (reg t 0x18).getLsbD 3 = true))
       ∧ (∃ t, exec (.blkBcLoRead .host) s = .next t ∧ t.host.rdata = BitVec.ofNat 32 s.bc ∧ t.host.bcHold = BitVec.ofNat 32 (s.bc / 2 ^ 32)
           ∧ t.spokes = s.spokes)
       ∧ (∀ g : SpokeId, ∃ t, exec (.blkBcLoRead (.spoke g)) s = .next t
           ∧ spk t g = { spk s g with bcHold := BitVec.ofNat 32 (s.bc / 2 ^ 32) } ∧ t.host = s.host)
       ∧ (InSession s 2 → ∃ t, exec (.blkBcLoRead .debug) s = .next t ∧ t.dbg.reply = BitVec.ofNat 32 s.bc
           ∧ t.dbg.bcHold = BitVec.ofNat 32 (s.bc / 2 ^ 32) ∧ t.host = s.host)
       ∧ (∀ (i : Fin 8192) (w : BitVec 56), (reg s 0x34).toNat % 64 < 52 → (reg s 0x34).toNat / 256 % 8 < 6 →
         w = tget 0 s.progs (49152 * ((reg s 0x34).toNat % 64) + 8192 * ((reg s 0x34).toNat / 256 % 8) + i.val) →
         ∀ o o' : ReadOutcome, o.first ≠ .due →
         (∃ t u, exec (.pmwRead .host (BitVec.ofNat 16 (8 * i.val)) o) s = .next t ∧ t.host.rdata = w.setWidth 32
           ∧ exec (.pmwRead .host (BitVec.ofNat 16 (8 * i.val + 4)) o') t = .next u ∧ u.host.rdata.setWidth 24 = w.extractLsb' 32 24
           ∧ u.progs = s.progs))
       ∧ ∀ (q : Fin 16) (l : Fin 4) (k : Fin 8), (reg s (0xE010 + 0x40 * q.val)).toNat % 4 = l.val →
         (reg s (0xE010 + 0x40 * q.val)).toNat / 256 % 8 = k.val →
         ∃ t, exec (.strCntDataRead q) s = .next t ∧ t.host.rdata = ((link s (4 * q.val + l.val)).cnt.toArray[k.val]?).getD 0
           ∧ t.host.ack = true ∧ link t (4 * q.val + l.val)
             = { link s (4 * q.val + l.val) with cnt := (link s (4 * q.val + l.val)).cnt.setIfInBounds k.val 0 })

/-- Frames: a bad one is counted and answered with status 1, and none is answered without VDBG; ID opens a session, and a reserved
OP has status 5; a read needs level 1 and RDC and a write level 2, else status 2; main memory answers by DBGV, word for word; RO
refuses writes (R316 to R322). -/
def Obligations.DebugFrames : Prop :=
  ∀ (s : State) (a d : Word) (ok : Bool),
    (∀ c o, c ∈ [Instr.drwId false ok, .drwRd false a o, .drwRdc false a o, .drwWr false a d o] →
      (s.pwr.vdbgGood = true → ∃ t, exec c s = .next t ∧ t.dbg.status = 1 ∧ t.dbg.reply = 0 ∧ t.mem = s.mem
        ∧ (reg t 0x3058).toNat % 2 ^ 16 = min 0xFFFF ((reg s 0x3058).toNat % 2 ^ 16 + 1))
      ∧ (s.pwr.vdbgGood = false → exec c s = .next s))
    ∧ (s.pwr.vdbgGood = true → ∃ t, exec (.drwId true true) s = .next t ∧ t.dbg.status = 5 ∧ t.dbg.reply = 0 ∧ t.mem = s.mem
      ∧ t.spokes = s.spokes)
    ∧ (s.pwr.vdbgGood = true → ∃ t, exec (.drwId true false) s = .next t ∧ t.dbg.session = true ∧ t.dbg.status = 0
      ∧ t.dbg.reply.toNat % 2 ^ 16 = 0x0101
      ∧ t.dbg.reply.toNat / 2 ^ 24 = t.dbg.level.toNat ∧ (s.dbg.session = true → t.dbg.level = s.dbg.level)
      ∧ (s.dbg.session = false → t.dbg.level = BitVec.ofNat 2 (reg s 0x3010).toNat ∧ (reg t 0x3008).getLsbD 8 = true)
      ∧ reg t 0x3054 = countUp (reg s 0x3054))
    ∧ (s.pwr.vdbgGood = true → s.dbg.session = true → a.toNat < 0x04000000 →
      (∀ o, s.dbg.level = 0 → ∃ t, exec (.drwRd true a o) s = .next t ∧ t.dbg.status = 2 ∧ t.dbg.reply = 0 ∧ t.mem = s.mem)
      ∧ (∀ o, s.dbg.level.toNat < 2 → ∀ c, c = Instr.drwRdc true a o ∨ c = .drwWr true a d o →
        ∃ t, exec c s = .next t ∧ t.dbg.status = 2 ∧ t.dbg.reply = 0 ∧ t.mem = s.mem)
      ∧ (s.coreReset = false → s.mem.initDone = true → a.toNat % 4 = 0 → Sound s a.toNat 4 →
        ((reg s (0x7004 + 0x20 * (a.toNat / 2 ^ 21))).toNat / 16 % 4 = 1 ∨ (reg s (0x7004 + 0x20 * (a.toNat / 2 ^ 21))).toNat / 16 % 4 = 2 →
          ∀ c, (c = Instr.drwRd true a ⟨.clean, .clean⟩ ∧ 1 ≤ s.dbg.level.toNat) ∨ (c = .drwRdc true a ⟨.clean, .clean⟩
            ∧ 2 ≤ s.dbg.level.toNat) →
          ∃ t, exec c s = .next t ∧ t.dbg.status = 0 ∧ t.dbg.reply = BitVec.ofNat 32 (bytesAt s a.toNat 4) ∧ SameBytes s t
            ∧ t.spokes = s.spokes)
        ∧ ((reg s (0x7004 + 0x20 * (a.toNat / 2 ^ 21))).toNat / 16 % 4 = 2 → 2 ≤ s.dbg.level.toNat → (reg s 0x300C).getLsbD 0 = false →
          ∃ t, exec (.drwWr true a d ⟨.clean, .clean⟩) s = .next t ∧ t.dbg.status = 0 ∧ Wrote s t a.toNat 4 d.toNat)
        ∧ ((reg s (0x7004 + 0x20 * (a.toNat / 2 ^ 21))).toNat / 16 % 4 = 1 → 2 ≤ s.dbg.level.toNat → (reg s 0x300C).getLsbD 0 = false →
          ∃ t, exec (.drwWr true a d ⟨.clean, .clean⟩) s = .next t ∧ t.dbg.status = 3 ∧ t.mem = s.mem)
        ∧ (2 ≤ s.dbg.level.toNat → (reg s 0x300C).getLsbD 0 = true →
          ∃ t, exec (.drwWr true a d ⟨.clean, .clean⟩) s = .next t ∧ t.dbg.status = 2 ∧ t.mem = s.mem)))
    ∧ (InSession s 2 → (reg s 0x300C).getLsbD 0 = false →
      ∃ t, exec (.freezeRequest ok) s = .next t ∧ t.dbg.frz = ok ∧ t.dbg.status = 0 ∧ t.mem = s.mem ∧ t.pen = s.pen)
    ∧ (s.coreReset = false → s.pwr.vdbgGood = true →
      ∃ t, exec .dbgErrsRead s = .next t ∧ t.host.rdata = reg s 0x3058 ∧ reg t 0x3058 = 0 ∧ t.dbg = s.dbg)

/-- Sessions: NEW gives a challenge; CHECK without one, or with a wrong response, is counted, shuts further ones out for 1 s and
leaves the level, a right one raises the session to min(LEVEL, MAX); a refused one has status 2; DROP and the timeout end the
session, and with RELEASE_ON_END halted spokes go on; VDBG lost ends it too, and at power-good the domain starts anew; a reset
on the wire needs its enable or the complete key (R316, R323 to R325). The terminal: a byte is staged for its channel, END sends
the message where it fits, and without a channel or room the frame has an error; a read takes a word of the next channel with
one, in turn, and 0 where none has (R336). The model’s choices in this: log entries 27, 38. -/
def Obligations.DebugSessionsAndTerminal : Prop :=
  (∀ (s : State) (l : BitVec 2),
     (InSession s 0 → ∃ t c, exec .authNew s = .next t ∧ t.dbg.challenge = some c ∧ t.dbg.challengeShown = c ∧ t.dbg.status = 0
       ∧ t.dbg.level = s.dbg.level)
     ∧ (InSession s 0 → s.dbg.lockLeft ≠ 0 →
       ∃ t, exec (.authCheck l) s = .next t ∧ t.dbg.status = 2 ∧ t.dbg.level = s.dbg.level ∧ t.dbg.challenge = s.dbg.challenge)
     ∧ (InSession s 0 → s.dbg.lockLeft = 0 →
       ∃ t, exec (.authCheck l) s = .next t ∧ t.dbg.status = 0 ∧ t.dbg.challenge = none
         ∧ ((t.dbg.level.toNat = min l.toNat ((reg s 0x3010).toNat / 4 % 4) ∧ t.dbg.lockLeft = 0 ∧ s.dbg.challenge.isSome = true)
           ∨ (t.dbg.level = s.dbg.level ∧ t.dbg.lockLeft = 1000000000 ∧ (reg t 0x3008).getLsbD 9 = true
               ∧ (reg t 0x3058).toNat / 2 ^ 16 = min 0xFFFF ((reg s 0x3058).toNat / 2 ^ 16 + 1))))
     ∧ (∀ c, (c = Instr.authDrop ∧ InSession s 0) ∨ (c = .sessionTimeout ∧ s.pwr.vdbgGood = true ∧ s.dbg.session = true
         ∧ 100000000 ≤ s.dbg.quiet) →
       ∃ t, exec c s = .next t ∧ t.dbg.session = false ∧ t.dbg.frz = false ∧ t.dbg.level = BitVec.ofNat 2 (reg s 0x3010).toNat
         ∧ ((reg s 0x300C).getLsbD 1 = false → t.spokes = s.spokes)
         ∧ ((reg s 0x300C).getLsbD 1 = true → (∀ h, (spk s h).pair = none) → ∀ g, (spk s g).st = .halted → (spk t g).st = (spk s g).prior))
     ∧ (s.pwr.vdbgGood = true → ∃ t, exec .vdbgLoss s = .next t ∧ t.pwr.vdbgGood = false ∧ t.dbg.session = false)
     ∧ (s.pwr.vdbgGood = false → ∃ t, exec .vdbgPowerGood s = .next t ∧ t.pwr.vdbgGood = true ∧ t.dbg.session = false ∧ t.dbg.cmps = []
       ∧ t.dbg.lockLeft = 0 ∧ t.spokes = s.spokes ∧ t.mem = s.mem)
     ∧ (InSession s 2 →
       (s.dbg.key1 = false → ∃ t, exec (.dbgRstKeyWrite 0xD3B6) s = .next t ∧ t.dbg.key1 = true ∧ t.dbg.keyLeft = s.dbg.keyLeft)
       ∧ (s.dbg.key1 = true → ∃ t, exec (.dbgRstKeyWrite 0x6B3D) s = .next t ∧ t.dbg.key1 = false ∧ t.dbg.keyLeft = 10000000)
       ∧ ∀ v, v ≠ 0xD3B6 → v ≠ 0x6B3D → ∃ t, exec (.dbgRstKeyWrite v) s = .next t ∧ t.dbg.key1 = false ∧ t.dbg.keyLeft = 0)
     ∧ (s.pwr.vdbgGood = true → s.coreReset = false → ∃ t, exec .drwReset s = .next t
       ∧ (((reg s 0x3014).getLsbD 0 = true ∨ s.dbg.keyLeft ≠ 0) → t.coreReset = true ∧ t.host.rstCause = 5 ∧ t.mem.cells = s.mem.cells)
       ∧ ((reg s 0x3014).getLsbD 0 = false → s.dbg.keyLeft = 0 → t = { s with regs := t.regs } ∧ (reg t 0x3008).getLsbD 11 = true)))
  ∧ (∀ (s : State) (v : BitVec 17) (n ch : Nat), InSession s 2 →
       (n = v.toNat / 2 ^ 8 % 2 ^ 8 → termTx s n = some ch → (chan s ch).rdisc = false → (chan s ch).waiting = [] →
         (v.getLsbD 16 = false → (tget [] s.dbg.term n).length < 3 →
           ∃ t, exec (.dbgTermTx v) s = .next t ∧ tget [] t.dbg.term n = tget [] s.dbg.term n ++ [BitVec.ofNat 32 (v.toNat % 2 ^ 8)]
             ∧ t.chans = s.chans
             ∧ t.dbg.status = 0)
         ∧ (v.getLsbD 16 = true → (chan s ch).fifo.length + (tget [] s.dbg.term n).length + 1 ≤ 8 →
           ∃ t, exec (.dbgTermTx v) s = .next t ∧ tget [] t.dbg.term n = [] ∧ t.dbg.status = 0
             ∧ (chan t ch).fifo.map (·.word) = (chan s ch).fifo.map (·.word) ++ tget [] s.dbg.term n ++ [BitVec.ofNat 32 (v.toNat % 2 ^ 8)])
         ∧ (v.getLsbD 16 = true → 8 < (chan s ch).fifo.length + (tget [] s.dbg.term n).length + 1 →
           ∃ t, exec (.dbgTermTx v) s = .next t ∧ t.dbg.status = 4 ∧ t.chans = s.chans))
       ∧ (n = v.toNat / 2 ^ 8 % 2 ^ 8 → termTx s n = none → ∃ t, exec (.dbgTermTx v) s = .next t ∧ t.dbg.status = 4 ∧ t.chans = s.chans)
       ∧ (∀ w rest, termNext s = some (n, ch) → (chan s ch).fifo = w :: rest → n < 256 →
         ∃ t, exec .dbgTermRx s = .next t ∧ t.dbg.status = 0 ∧ (chan t ch).fifo = rest ∧ t.dbg.termLast = n
           ∧ t.dbg.reply.toNat % 2 ^ 8 = w.word.toNat % 2 ^ 8 ∧ t.dbg.reply.toNat / 2 ^ 8 % 2 ^ 8 = n ∧ t.dbg.reply.getLsbD 16 = w.last
           ∧ t.dbg.reply.getLsbD 17 = (w.trunc || w.last && ((chan s ch).inBad || w.bad)) ∧ t.dbg.reply.getLsbD 31 = true)
       ∧ (termNext s = none → ∃ t, exec .dbgTermRx s = .next t ∧ t.dbg.reply = 0 ∧ t.chans = s.chans))

/-- Run control of a selected spoke at a boundary: HALT halts a running or blocked one and keeps its state, once nothing is in
flight for it, RELEASE gives that back, RUN runs a halted or a parked one, STEP runs it with a halt due, KILL stops it unless
NOKILL is set; a fed MOV writes its register alone, and nothing is fed to a spoke that is not halted (R326 to R331). The model’s
choices in this: log entries 28, 65. -/
def Obligations.RunControl : Prop :=
  ∀ (s : State) (g : SpokeId), InSession s 2 → Selected s g → (spk s g).req = none →
    ((spk s g).st = .run → (spk s g).flight ≠ [] → ∃ t, exec .dbgHalt s = .next t ∧ t.dbg.runDone = false ∧ t.dbg.runRes = 1
      ∧ spk t g = { spk s g with req := some .halt } ∧ ∀ h, h ≠ g.val → spk t h = spk s h)
    ∧ ((spk s g).st = .blocked → (spk s g).flight = [] → ∃ t, exec .dbgHalt s = .next t ∧ t.dbg.runDone = true ∧ t.dbg.runRes = 0
      ∧ (spk t g).st = .halted ∧ (spk t g).prior = .run ∧ (spk t g).wait = none ∧ (spk t g).pc = (spk s g).pc ∧ (spk t g).g = (spk s g).g)
    ∧ ((spk s g).st = .run → (spk s g).flight = [] → ∃ t, exec .dbgHalt s = .next t ∧ t.dbg.runDone = true ∧ t.dbg.runRes = 0
      ∧ t.dbg.runPrior = 1
      ∧ spk t g = { spk s g with st := .halted, prior := .run, wait := none, resv := none, req := none } ∧ ∀ h, h ≠ g.val → spk t h = spk s h)
    ∧ ((spk s g).st = .halted →
      (∃ t, exec .dbgRelease s = .next t ∧ (spk t g).st = (spk s g).prior ∧ (spk t g).pc = (spk s g).pc ∧ (spk t g).g = (spk s g).g
        ∧ t.dbg.runDone = true ∧ t.dbg.runRes = 0)
      ∧ (∃ t, exec .dbgRun s = .next t ∧ (spk t g).st = .run ∧ (spk t g).pc = (spk s g).pc ∧ (spk t g).g = (spk s g).g ∧ t.dbg.runDone = true)
      ∧ (∃ t, exec .dbgStep s = .next t ∧ (spk t g).st = .run ∧ (spk t g).req = some .halt ∧ (spk t g).pc = (spk s g).pc ∧ t.dbg.runRes = 1)
      ∧ ((reg s 0x300C).getLsbD 2 = false → (spk s g).flight = [] → ∃ t, exec .dbgKill s = .next t ∧ (spk t g).st = .stopped
        ∧ (spk t g).cause = .kill
        ∧ (reg t 0x3008).getLsbD 12 = true ∧ t.dbg.runDone = true))
    ∧ ((spk s g).st = .stopped → ∃ t, exec .dbgRun s = .next t ∧ (spk t g).st = .run ∧ (spk t g).pc = (spk s g).pc ∧ t.dbg.runDone = true)
    ∧ ((reg s 0x300C).getLsbD 2 = true → ∃ t, exec .dbgKill s = .next t ∧ t.spokes = s.spokes ∧ t.dbg.runRes = 5 ∧ t.dbg.runDone = false)
    ∧ ∀ (p1 p2 : BitVec 14) (rd rs : GReg), decodeParcels g p1 p2 = .mov g rd rs →
      ((spk s g).st = .halted → s.dbg.feed = none → (spk s g).flight = [] → (spk s g).stuck = [] →
        ∃ t, exec (.dbgInsn (p2 ++ p1)) s = .next t ∧ spk t g = { spk s g with g := gSet (spk s g) rd (rg (spk s g) rs) } ∧ t.dbg.insnStat = 1
          ∧ ∀ h, h ≠ g.val → spk t h = spk s h)
      ∧ ((spk s g).st ≠ .halted → ∃ t, exec (.dbgInsn (p2 ++ p1)) s = .next t ∧ t.spokes = s.spokes ∧ t.dbg.insnStat = 2)

/-- DBG_RUN_PC: a read gives the PC of the selected halted spoke; a write sets it and clears REPN, which KEEPREP keeps; a write to a
spoke that is not halted changes none (R330). -/
def Obligations.RunPcOfHaltedSpoke : Prop :=
  ∀ (s : State) (g : SpokeId) (v : Word), InSession s 2 → Selected s g →
    ((spk s g).st = .halted →
      (∃ t, exec (.drwRd true 0x2000000C ⟨.clean, .clean⟩) s = .next t ∧ t.dbg.status = 0 ∧ t.dbg.reply.toNat % 2 ^ 18 = (spk s g).pc.toNat
        ∧ t.spokes = s.spokes)
      ∧ ∃ t, exec (.dbgRunPcWrite v) s = .next t ∧ (spk t g).pc = v.setWidth 18 ∧ (spk t g).g = (spk s g).g ∧ (spk t g).st = .halted
        ∧ (v.getLsbD 31 = false → repn (spk t g).tsw = 0) ∧ (v.getLsbD 31 = true → (spk t g).tsw = (spk s g).tsw)
        ∧ ∀ h, h ≠ g.val → spk t h = spk s h)
    ∧ ((spk s g).st ≠ .halted → ∃ t, exec (.dbgRunPcWrite v) s = .next t ∧ t.spokes = s.spokes)
end

