-- ==== Sys2Proof/Laws/Flags.lean ====
section
/-! SUPPORT. What the flag computations do to each bit of TSW (R78, R88), and the value that a result stores (R100). -/
namespace Sys2Proof.Laws
open Sys2Proof.Machine

theorem maskZNV : ∀ i : Fin 32, (0xB : Word).getLsbD i.val = decide (i.val = 0 ∨ i.val = 1 ∨ i.val = 3) := by decide
theorem mask1 : ∀ i : Fin 32, (1 : Word).getLsbD i.val = decide (i.val = 0) := by decide
theorem mask2 : ∀ i : Fin 32, (2 : Word).getLsbD i.val = decide (i.val = 1) := by decide
theorem mask4 : ∀ i : Fin 32, (4 : Word).getLsbD i.val = decide (i.val = 2) := by decide
theorem mask8 : ∀ i : Fin 32, (8 : Word).getLsbD i.val = decide (i.val = 3) := by decide
theorem mask10 : ∀ i : Fin 32, (0x10 : Word).getLsbD i.val = decide (i.val = 4) := by decide

theorem getLsbD_ite (b : Bool) (m : Word) (i : Nat) : (if b then m else 0).getLsbD i = (b && m.getLsbD i) := by
  cases b <;> simp

theorem bit_tswZNV (t : Word) (z n v : Bool) (i : Nat) (h : i < 32) : (tswZNV t z n v).getLsbD i =
    if i = 0 then z else if i = 1 then n else if i = 3 then v else t.getLsbD i := by
  have h0 := maskZNV ⟨i, h⟩
  have h1 := mask1 ⟨i, h⟩
  have h2 := mask2 ⟨i, h⟩
  have h3 := mask8 ⟨i, h⟩
  simp only at h0 h1 h2 h3
  simp only [tswZNV, BitVec.getLsbD_or, BitVec.getLsbD_and, BitVec.getLsbD_not, getLsbD_ite, h0, h1, h2, h3, h, decide_true]
  grind

theorem bit_tswC (t : Word) (c : Bool) (i : Nat) (h : i < 32) : (tswC t c).getLsbD i = if i = 2 then c else t.getLsbD i := by
  have h0 := mask4 ⟨i, h⟩
  simp only at h0
  simp only [tswC, BitVec.getLsbD_or, BitVec.getLsbD_and, BitVec.getLsbD_not, getLsbD_ite, h0, h, decide_true]
  grind

theorem bit_tswSV (t : Word) (b : Bool) (i : Nat) (h : i < 32) :
    (tswSV t b).getLsbD i = if i = 4 then (t.getLsbD 4 || b) else t.getLsbD i := by
  have h0 := mask10 ⟨i, h⟩
  simp only at h0
  cases b <;> simp [tswSV, h0] <;> grind

/-- REPN is bits 22:16, so whatever keeps them keeps REPN. -/
theorem repn_of_bits (t u : Word) (h : ∀ i, 16 ≤ i → i < 23 → t.getLsbD i = u.getLsbD i) : repn t = repn u := by
  unfold repn
  congr 1
  apply BitVec.eq_of_getLsbD_eq
  intro i hi
  simp only [BitVec.getLsbD_extractLsb']
  rw [h (16 + i) (by omega) (by omega)]

@[simp] theorem repn_tswZNV (t : Word) (z n v : Bool) : repn (tswZNV t z n v) = repn t :=
  repn_of_bits _ _ fun i h1 h2 => by rw [bit_tswZNV _ _ _ _ _ (by omega)]; grind
@[simp] theorem repn_tswC (t : Word) (c : Bool) : repn (tswC t c) = repn t :=
  repn_of_bits _ _ fun i h1 h2 => by rw [bit_tswC _ _ _ (by omega)]; grind
@[simp] theorem repn_tswSV (t : Word) (b : Bool) : repn (tswSV t b) = repn t :=
  repn_of_bits _ _ fun i h1 h2 => by rw [bit_tswSV _ _ _ (by omega)]; grind
@[simp] theorem repn_flagsOf (t : Word) (r : Scalar) : repn (flagsOf t r) = repn t := by simp [flagsOf]
@[simp] theorem repn_flagsLogic (t r : Word) : repn (flagsLogic t r) = repn t := by simp [flagsLogic]
@[simp] theorem repn_addFlags (t a b : Word) (c : Bool) : repn (addFlags t a b c).2 = repn t := by simp [addFlags]
@[simp] theorem repn_subFlags (t a b : Word) (c : Bool) : repn (subFlags t a b c).2 = repn t := by simp [subFlags]
@[simp] theorem repn_cmpFlags (t a b : Word) : repn (cmpFlags t a b) = repn t := by simp [cmpFlags]

/-- The flags of a result that writes Z, N, V and SV. -/
theorem flagsOf_are (t : Word) (r : Scalar) : FlagsAre t (flagsOf t r) (r.val == 0) r.val.msb none r.v r.sv := by
  intro i h
  simp only [flagsOf]
  rw [bit_tswSV _ _ _ h]
  split
  · subst_vars; rw [bit_tswZNV _ _ _ _ _ (by omega)]; simp
  · rw [bit_tswZNV _ _ _ _ _ h]; simp; grind

/-- The flags of a logic result. -/
theorem flagsLogic_are (t w : Word) : FlagsAre t (flagsLogic t w) (w == 0) w.msb none false false := by
  intro i h
  rw [flagsLogic, bit_tswZNV _ _ _ _ _ h]
  rcases (by omega : i = 2 ∨ i = 4 ∨ (i ≠ 2 ∧ i ≠ 4)) with rfl | rfl | ⟨h2, h4⟩ <;> simp [*]

/-- With a carry written. -/
theorem tswC_are {t u : Word} {z n v sv c : Bool} (h : FlagsAre t u z n none v sv) : FlagsAre t (tswC u c) z n (some c) v sv := by
  intro i hi
  rw [bit_tswC _ _ _ hi, h i hi]; simp; grind

/-- The stored value of a 32-bit result, as an integer. -/
theorem storeSat_toInt (sat : Bool) (x : Int) : (storeSat sat 32 x).toInt = stored sat x := by
  cases sat
  · simp [storeSat, stored, BitVec.toInt_ofInt, Int.bmod]; grind
  · simp [storeSat, stored, clampS, BitVec.toInt_ofInt, Int.bmod]; grind

theorem storeSat_eq (sat : Bool) (x : Int) : storeSat sat 32 x = BitVec.ofInt 32 (stored sat x) := by
  rw [← storeSat_toInt, BitVec.ofInt_toInt]

theorem overflows_eq (x : Int) : overflows 32 x = outside x := by
  simp [overflows, outside]; grind

theorem word_zero (w : Word) : (w == 0) = (w.toInt == 0) := by
  rw [Bool.eq_iff_iff]; simp [← BitVec.toInt_inj]

theorem word_neg (w : Word) : w.msb = decide (w.toInt < 0) := BitVec.msb_eq_toInt

/-- The flags of a stored exact value. -/
theorem scalar_are (t : Word) (x : Int) :
    FlagsAre t (flagsOf t (scalarOf t x)) (stored (t.getLsbD 10) x == 0) (decide (stored (t.getLsbD 10) x < 0)) none (outside x)
      (t.getLsbD 10 && outside x) := by
  have := flagsOf_are t (scalarOf t x)
  rw [word_zero, word_neg] at this
  simp only [scalarOf, storeSat_toInt, overflows_eq, modeSAT, Bool.and_comm] at this ⊢
  exact this

/-- The flags of a comparison. -/
theorem cmp_are (t a b : Word) :
    FlagsAre t (cmpFlags t a b) (stored false (a.toInt - b.toInt) == 0) (decide (stored false (a.toInt - b.toInt) < 0))
      (some (decide (b.toNat ≤ a.toNat))) (outside (a.toInt - b.toInt)) false := by
  intro i hi
  have ha := a.toInt_lt
  have ha' := a.le_toInt
  have hb := b.toInt_lt
  have hb' := b.le_toInt
  simp only [cmpFlags]
  rw [bit_tswC _ _ _ hi, bit_tswZNV _ _ _ _ _ hi]
  have e1 : (a.toInt - b.toInt == 0) = (stored false (a.toInt - b.toInt) == 0) := by simp [stored]; grind
  have e2 : (BitVec.ofInt 32 (a.toInt - b.toInt)).msb = decide (stored false (a.toInt - b.toInt) < 0) := by
    rw [word_neg, ← storeSat_toInt]; rfl
  rw [e1, e2, overflows_eq]
  rcases (by omega : i = 2 ∨ i = 4 ∨ (i ≠ 2 ∧ i ≠ 4)) with rfl | rfl | ⟨h2, h4⟩ <;> simp [*]

end Sys2Proof.Laws
end

