-- ==== Sys2Proof/Laws/Tab.lean ====
section
/-! SUPPORT. Laws of the sparse tables: an item put is the item read, and no other item changes. -/
namespace Sys2Proof.Laws
open Sys2Proof.Machine

variable {α : Type}

/-- Every item after one is put, in a table of any shape. -/
theorem tget_tput (d x : α) (t : Tab α) (i j : Nat) :
    tget d (tput t i x) j = if j = i then x else tget d t j := by
  induction t with
  | nil => simp only [tput, tget]; grind
  | cons e t ih =>
    obtain ⟨k, y⟩ := e
    simp only [tput]
    split
    · simp only [tget]; grind
    · split
      · simp only [tget]; grind
      · simp only [tget, ih]; grind

@[simp] theorem tget_tput_self (d x : α) (t : Tab α) (i : Nat) : tget d (tput t i x) i = x := by simp [tget_tput]

theorem tget_tput_ne (d x : α) (t : Tab α) {i j : Nat} (h : j ≠ i) : tget d (tput t i x) j = tget d t j := by
  simp [tget_tput, h]

/-- The keys of the table rise, from above a bound. -/
def rising (lo : Option Nat) : Tab α → Prop
  | [] => True
  | (k, _) :: t => (∀ l, lo = some l → l < k) ∧ rising (some k) t

/-- A put keeps the keys rising. -/
theorem rising_tput (t : Tab α) (lo : Option Nat) (i : Nat) (x : α) (h : rising lo t) (hi : ∀ l, lo = some l → l < i) :
    rising lo (tput t i x) := by
  induction t generalizing lo with
  | nil => exact ⟨hi, trivial⟩
  | cons e t ih =>
    obtain ⟨k, y⟩ := e
    simp only [tput]
    split
    · rename_i e; subst e; exact ⟨hi, h.2⟩
    · split
      · rename_i hlt; exact ⟨hi, fun l hl => by cases hl; exact hlt, h.2⟩
      · refine ⟨h.1, ih (some k) h.2 ?_⟩
        intro l hl; cases hl; omega

end Sys2Proof.Laws
end

