-- ==== Sys2Proof/Laws/Memory.lean ====
section
/-! SUPPORT. Laws of main memory: reading after writing, and the canonical form (R155, R342). -/
namespace Sys2Proof.Laws
open Sys2Proof.Machine

/-- Addresses rise from above a bound, and no listed byte is zero. -/
def cellsFrom (lo : Option Nat) : List Host.Cell → Prop
  | [] => True
  | (a, b) :: t => (∀ l, lo = some l → l < a) ∧ b ≠ 0 ∧ cellsFrom (some a) t

theorem cellsOk_iff : (m : List Host.Cell) → (cellsOk m = true ↔ cellsFrom none m)
  | [] => by simp [cellsOk, cellsFrom]
  | [(a, b)] => by simp [cellsOk, cellsFrom]
  | (a, b) :: (a', b') :: t => by
    have h := cellsOk_iff ((a', b') :: t)
    simp only [cellsOk, cellsFrom, Bool.and_eq_true, decide_eq_true_eq, bne_iff_ne, ne_eq] at h ⊢
    simp only [h]
    constructor
    · rintro ⟨⟨h1, h2⟩, -, h3, h4⟩
      exact ⟨by simp, h1, by simpa using h2, h3, h4⟩
    · rintro ⟨-, h1, h2, h3, h4⟩
      exact ⟨⟨h1, h2 a rfl⟩, by simp, h3, h4⟩

theorem cellsFrom_mono {lo lo' : Option Nat} {m : List Host.Cell} (h : cellsFrom lo m)
    (hl : ∀ l', lo' = some l' → ∃ l, lo = some l ∧ l' ≤ l) : cellsFrom lo' m := by
  cases m with
  | nil => trivial
  | cons e t =>
    obtain ⟨a, b⟩ := e
    refine ⟨fun l' h' => ?_, h.2⟩
    obtain ⟨l, h1, h2⟩ := hl l' h'
    exact Nat.lt_of_le_of_lt h2 (h.1 l h1)

theorem cellsFrom_putByte (m : List Host.Cell) (lo : Option Nat) (a : Nat) (b : Byte) (h : cellsFrom lo m)
    (ha : ∀ l, lo = some l → l < a) : cellsFrom lo (putByte m a b) := by
  induction m generalizing lo with
  | nil =>
    simp only [putByte]
    split
    · trivial
    · exact ⟨ha, by assumption, trivial⟩
  | cons e t ih =>
    obtain ⟨k, c⟩ := e
    simp only [putByte]
    split
    · rename_i e; subst e
      split
      · exact cellsFrom_mono h.2.2 fun l' hl' => ⟨k, rfl, Nat.le_of_lt (h.1 l' hl')⟩
      · exact ⟨ha, by assumption, h.2.2⟩
    · split
      · rename_i hlt
        split
        · exact h
        · exact ⟨ha, by assumption, fun l hl => by cases hl; exact hlt, h.2⟩
      · exact ⟨h.1, h.2.1, ih (some k) h.2.2 fun l hl => by cases hl; omega⟩

/-- A byte written keeps the canonical form. -/
theorem cellsOk_putByte (m : List Host.Cell) (a : Nat) (b : Byte) (h : cellsOk m = true) : cellsOk (putByte m a b) = true := by
  rw [cellsOk_iff] at h ⊢
  exact cellsFrom_putByte m none a b h (by simp)

/-- Bytes written keep the canonical form. -/
theorem cellsOk_putBytes (m : List Host.Cell) (a : Nat) (bs : List Byte) (h : cellsOk m = true) :
    cellsOk (putBytes m a bs) = true := by
  induction bs generalizing m a with
  | nil => exact h
  | cons b bs ih => exact ih _ _ (cellsOk_putByte m a b h)

theorem getByte_below {lo a : Nat} {m : List Host.Cell} (h : cellsFrom (some lo) m) (ha : a ≤ lo) : getByte m a = 0 := by
  cases m with
  | nil => rfl
  | cons e t =>
    obtain ⟨k, c⟩ := e
    have := h.1 lo rfl
    simp only [getByte, tget]
    grind

theorem getByte_putByte_from (m : List Host.Cell) (lo : Option Nat) (a x : Nat) (b : Byte) (h : cellsFrom lo m) :
    getByte (putByte m a b) x = if x = a then b else getByte m x := by
  induction m generalizing lo with
  | nil =>
    simp only [putByte]
    split <;> simp only [getByte, tget] <;> grind
  | cons e t ih =>
    obtain ⟨k, c⟩ := e
    have hb := fun (y : Nat) (hy : y ≤ k) => getByte_below (lo := k) (a := y) h.2.2 hy
    have ih := ih (some k) h.2.2
    simp only [getByte] at hb ih ⊢
    simp only [putByte]
    split
    · split
      · simp only [tget]; grind
      · simp only [tget]; grind
    · split
      · split
        · simp only [tget]; grind
        · simp only [tget]; grind
      · simp only [tget, ih]; grind

/-- A byte read after a byte written. -/
theorem getByte_putByte (m : List Host.Cell) (a x : Nat) (b : Byte) (h : cellsOk m = true) :
    getByte (putByte m a b) x = if x = a then b else getByte m x :=
  getByte_putByte_from m none a x b ((cellsOk_iff m).1 h)

/-- A byte read after bytes written. -/
theorem getByte_putBytes (m : List Host.Cell) (a x : Nat) (bs : List Byte) (h : cellsOk m = true) :
    getByte (putBytes m a bs) x = if a ≤ x ∧ x < a + bs.length then bs[x - a]?.getD 0 else getByte m x := by
  induction bs generalizing m a with
  | nil => simp only [putBytes, List.length_nil]; grind
  | cons b bs ih =>
    simp only [putBytes]
    rw [ih _ _ (cellsOk_putByte m a b h), getByte_putByte m a x b h]
    simp only [List.length_cons]
    by_cases h1 : x = a
    · subst h1; simp <;> omega
    · by_cases h2 : a + 1 ≤ x ∧ x < a + 1 + bs.length
      · have e : x - a = (x - (a + 1)) + 1 := by omega
        have h3 : a ≤ x ∧ x < a + (bs.length + 1) := by omega
        simp [h2, h3, e]
      · have h3 : ¬ (a ≤ x ∧ x < a + (bs.length + 1)) := by omega
        rw [if_neg h2, if_neg h1, if_neg h3]

end Sys2Proof.Laws
end

