-- ==== Sys2Proof/Laws/State.lean ====
section
/-! SUPPORT. What each named update of the state leaves as it was: one lemma per field per update, and what the reads of the registers, the spokes, the channels and the pairs give after them. -/
namespace Sys2Proof.Laws
open Sys2Proof.Machine

variable (s : State)

/-! `setReg` changes `regs` alone. -/
@[simp] theorem setReg_bc (off : Nat) (v : Word) : (setReg s off v).bc = s.bc := rfl
@[simp] theorem setReg_coreReset (off : Nat) (v : Word) : (setReg s off v).coreReset = s.coreReset := rfl
@[simp] theorem setReg_resetAge (off : Nat) (v : Word) : (setReg s off v).resetAge = s.resetAge := rfl
@[simp] theorem setReg_released (off : Nat) (v : Word) : (setReg s off v).released = s.released := rfl
@[simp] theorem setReg_coldStart (off : Nat) (v : Word) : (setReg s off v).coldStart = s.coldStart := rfl
@[simp] theorem setReg_bootDue (off : Nat) (v : Word) : (setReg s off v).bootDue = s.bootDue := rfl
@[simp] theorem setReg_cad (off : Nat) (v : Word) : (setReg s off v).cad = s.cad := rfl
@[simp] theorem setReg_spokes (off : Nat) (v : Word) : (setReg s off v).spokes = s.spokes := rfl
@[simp] theorem setReg_cores (off : Nat) (v : Word) : (setReg s off v).cores = s.cores := rfl
@[simp] theorem setReg_progs (off : Nat) (v : Word) : (setReg s off v).progs = s.progs := rfl
@[simp] theorem setReg_chans (off : Nat) (v : Word) : (setReg s off v).chans = s.chans := rfl
@[simp] theorem setReg_sysBuf (off : Nat) (v : Word) : (setReg s off v).sysBuf = s.sysBuf := rfl
@[simp] theorem setReg_dl (off : Nat) (v : Word) : (setReg s off v).dl = s.dl := rfl
@[simp] theorem setReg_avl (off : Nat) (v : Word) : (setReg s off v).avl = s.avl := rfl
@[simp] theorem setReg_mem (off : Nat) (v : Word) : (setReg s off v).mem = s.mem := rfl
@[simp] theorem setReg_lck (off : Nat) (v : Word) : (setReg s off v).lck = s.lck := rfl
@[simp] theorem setReg_str (off : Nat) (v : Word) : (setReg s off v).str = s.str := rfl
@[simp] theorem setReg_fab (off : Nat) (v : Word) : (setReg s off v).fab = s.fab := rfl
@[simp] theorem setReg_timers (off : Nat) (v : Word) : (setReg s off v).timers = s.timers := rfl
@[simp] theorem setReg_pmc (off : Nat) (v : Word) : (setReg s off v).pmc = s.pmc := rfl
@[simp] theorem setReg_pwr (off : Nat) (v : Word) : (setReg s off v).pwr = s.pwr := rfl
@[simp] theorem setReg_nrg (off : Nat) (v : Word) : (setReg s off v).nrg = s.nrg := rfl
@[simp] theorem setReg_chry (off : Nat) (v : Word) : (setReg s off v).chry = s.chry := rfl
@[simp] theorem setReg_pen (off : Nat) (v : Word) : (setReg s off v).pen = s.pen := rfl
@[simp] theorem setReg_cfg (off : Nat) (v : Word) : (setReg s off v).cfg = s.cfg := rfl
@[simp] theorem setReg_host (off : Nat) (v : Word) : (setReg s off v).host = s.host := rfl
@[simp] theorem setReg_dbg (off : Nat) (v : Word) : (setReg s off v).dbg = s.dbg := rfl
@[simp] theorem setReg_free (off : Nat) (v : Word) : (setReg s off v).free = s.free := rfl
@[simp] theorem setReg_pending (off : Nat) (v : Word) : (setReg s off v).pending = s.pending := rfl

/-! `orReg` changes `regs` alone. -/
@[simp] theorem orReg_bc (off : Nat) (v : Word) : (orReg s off v).bc = s.bc := rfl
@[simp] theorem orReg_coreReset (off : Nat) (v : Word) : (orReg s off v).coreReset = s.coreReset := rfl
@[simp] theorem orReg_resetAge (off : Nat) (v : Word) : (orReg s off v).resetAge = s.resetAge := rfl
@[simp] theorem orReg_released (off : Nat) (v : Word) : (orReg s off v).released = s.released := rfl
@[simp] theorem orReg_coldStart (off : Nat) (v : Word) : (orReg s off v).coldStart = s.coldStart := rfl
@[simp] theorem orReg_bootDue (off : Nat) (v : Word) : (orReg s off v).bootDue = s.bootDue := rfl
@[simp] theorem orReg_cad (off : Nat) (v : Word) : (orReg s off v).cad = s.cad := rfl
@[simp] theorem orReg_spokes (off : Nat) (v : Word) : (orReg s off v).spokes = s.spokes := rfl
@[simp] theorem orReg_cores (off : Nat) (v : Word) : (orReg s off v).cores = s.cores := rfl
@[simp] theorem orReg_progs (off : Nat) (v : Word) : (orReg s off v).progs = s.progs := rfl
@[simp] theorem orReg_chans (off : Nat) (v : Word) : (orReg s off v).chans = s.chans := rfl
@[simp] theorem orReg_sysBuf (off : Nat) (v : Word) : (orReg s off v).sysBuf = s.sysBuf := rfl
@[simp] theorem orReg_dl (off : Nat) (v : Word) : (orReg s off v).dl = s.dl := rfl
@[simp] theorem orReg_avl (off : Nat) (v : Word) : (orReg s off v).avl = s.avl := rfl
@[simp] theorem orReg_mem (off : Nat) (v : Word) : (orReg s off v).mem = s.mem := rfl
@[simp] theorem orReg_lck (off : Nat) (v : Word) : (orReg s off v).lck = s.lck := rfl
@[simp] theorem orReg_str (off : Nat) (v : Word) : (orReg s off v).str = s.str := rfl
@[simp] theorem orReg_fab (off : Nat) (v : Word) : (orReg s off v).fab = s.fab := rfl
@[simp] theorem orReg_timers (off : Nat) (v : Word) : (orReg s off v).timers = s.timers := rfl
@[simp] theorem orReg_pmc (off : Nat) (v : Word) : (orReg s off v).pmc = s.pmc := rfl
@[simp] theorem orReg_pwr (off : Nat) (v : Word) : (orReg s off v).pwr = s.pwr := rfl
@[simp] theorem orReg_nrg (off : Nat) (v : Word) : (orReg s off v).nrg = s.nrg := rfl
@[simp] theorem orReg_chry (off : Nat) (v : Word) : (orReg s off v).chry = s.chry := rfl
@[simp] theorem orReg_pen (off : Nat) (v : Word) : (orReg s off v).pen = s.pen := rfl
@[simp] theorem orReg_cfg (off : Nat) (v : Word) : (orReg s off v).cfg = s.cfg := rfl
@[simp] theorem orReg_host (off : Nat) (v : Word) : (orReg s off v).host = s.host := rfl
@[simp] theorem orReg_dbg (off : Nat) (v : Word) : (orReg s off v).dbg = s.dbg := rfl
@[simp] theorem orReg_free (off : Nat) (v : Word) : (orReg s off v).free = s.free := rfl
@[simp] theorem orReg_pending (off : Nat) (v : Word) : (orReg s off v).pending = s.pending := rfl

/-! `clrReg` changes `regs` alone. -/
@[simp] theorem clrReg_bc (off : Nat) (v : Word) : (clrReg s off v).bc = s.bc := rfl
@[simp] theorem clrReg_coreReset (off : Nat) (v : Word) : (clrReg s off v).coreReset = s.coreReset := rfl
@[simp] theorem clrReg_resetAge (off : Nat) (v : Word) : (clrReg s off v).resetAge = s.resetAge := rfl
@[simp] theorem clrReg_released (off : Nat) (v : Word) : (clrReg s off v).released = s.released := rfl
@[simp] theorem clrReg_coldStart (off : Nat) (v : Word) : (clrReg s off v).coldStart = s.coldStart := rfl
@[simp] theorem clrReg_bootDue (off : Nat) (v : Word) : (clrReg s off v).bootDue = s.bootDue := rfl
@[simp] theorem clrReg_cad (off : Nat) (v : Word) : (clrReg s off v).cad = s.cad := rfl
@[simp] theorem clrReg_spokes (off : Nat) (v : Word) : (clrReg s off v).spokes = s.spokes := rfl
@[simp] theorem clrReg_cores (off : Nat) (v : Word) : (clrReg s off v).cores = s.cores := rfl
@[simp] theorem clrReg_progs (off : Nat) (v : Word) : (clrReg s off v).progs = s.progs := rfl
@[simp] theorem clrReg_chans (off : Nat) (v : Word) : (clrReg s off v).chans = s.chans := rfl
@[simp] theorem clrReg_sysBuf (off : Nat) (v : Word) : (clrReg s off v).sysBuf = s.sysBuf := rfl
@[simp] theorem clrReg_dl (off : Nat) (v : Word) : (clrReg s off v).dl = s.dl := rfl
@[simp] theorem clrReg_avl (off : Nat) (v : Word) : (clrReg s off v).avl = s.avl := rfl
@[simp] theorem clrReg_mem (off : Nat) (v : Word) : (clrReg s off v).mem = s.mem := rfl
@[simp] theorem clrReg_lck (off : Nat) (v : Word) : (clrReg s off v).lck = s.lck := rfl
@[simp] theorem clrReg_str (off : Nat) (v : Word) : (clrReg s off v).str = s.str := rfl
@[simp] theorem clrReg_fab (off : Nat) (v : Word) : (clrReg s off v).fab = s.fab := rfl
@[simp] theorem clrReg_timers (off : Nat) (v : Word) : (clrReg s off v).timers = s.timers := rfl
@[simp] theorem clrReg_pmc (off : Nat) (v : Word) : (clrReg s off v).pmc = s.pmc := rfl
@[simp] theorem clrReg_pwr (off : Nat) (v : Word) : (clrReg s off v).pwr = s.pwr := rfl
@[simp] theorem clrReg_nrg (off : Nat) (v : Word) : (clrReg s off v).nrg = s.nrg := rfl
@[simp] theorem clrReg_chry (off : Nat) (v : Word) : (clrReg s off v).chry = s.chry := rfl
@[simp] theorem clrReg_pen (off : Nat) (v : Word) : (clrReg s off v).pen = s.pen := rfl
@[simp] theorem clrReg_cfg (off : Nat) (v : Word) : (clrReg s off v).cfg = s.cfg := rfl
@[simp] theorem clrReg_host (off : Nat) (v : Word) : (clrReg s off v).host = s.host := rfl
@[simp] theorem clrReg_dbg (off : Nat) (v : Word) : (clrReg s off v).dbg = s.dbg := rfl
@[simp] theorem clrReg_free (off : Nat) (v : Word) : (clrReg s off v).free = s.free := rfl
@[simp] theorem clrReg_pending (off : Nat) (v : Word) : (clrReg s off v).pending = s.pending := rfl

/-! `setItem` changes `regs` alone. -/
@[simp] theorem setItem_bc (off i : Nat) (v : Word) : (setItem s off i v).bc = s.bc := rfl
@[simp] theorem setItem_coreReset (off i : Nat) (v : Word) : (setItem s off i v).coreReset = s.coreReset := rfl
@[simp] theorem setItem_resetAge (off i : Nat) (v : Word) : (setItem s off i v).resetAge = s.resetAge := rfl
@[simp] theorem setItem_released (off i : Nat) (v : Word) : (setItem s off i v).released = s.released := rfl
@[simp] theorem setItem_coldStart (off i : Nat) (v : Word) : (setItem s off i v).coldStart = s.coldStart := rfl
@[simp] theorem setItem_bootDue (off i : Nat) (v : Word) : (setItem s off i v).bootDue = s.bootDue := rfl
@[simp] theorem setItem_cad (off i : Nat) (v : Word) : (setItem s off i v).cad = s.cad := rfl
@[simp] theorem setItem_spokes (off i : Nat) (v : Word) : (setItem s off i v).spokes = s.spokes := rfl
@[simp] theorem setItem_cores (off i : Nat) (v : Word) : (setItem s off i v).cores = s.cores := rfl
@[simp] theorem setItem_progs (off i : Nat) (v : Word) : (setItem s off i v).progs = s.progs := rfl
@[simp] theorem setItem_chans (off i : Nat) (v : Word) : (setItem s off i v).chans = s.chans := rfl
@[simp] theorem setItem_sysBuf (off i : Nat) (v : Word) : (setItem s off i v).sysBuf = s.sysBuf := rfl
@[simp] theorem setItem_dl (off i : Nat) (v : Word) : (setItem s off i v).dl = s.dl := rfl
@[simp] theorem setItem_avl (off i : Nat) (v : Word) : (setItem s off i v).avl = s.avl := rfl
@[simp] theorem setItem_mem (off i : Nat) (v : Word) : (setItem s off i v).mem = s.mem := rfl
@[simp] theorem setItem_lck (off i : Nat) (v : Word) : (setItem s off i v).lck = s.lck := rfl
@[simp] theorem setItem_str (off i : Nat) (v : Word) : (setItem s off i v).str = s.str := rfl
@[simp] theorem setItem_fab (off i : Nat) (v : Word) : (setItem s off i v).fab = s.fab := rfl
@[simp] theorem setItem_timers (off i : Nat) (v : Word) : (setItem s off i v).timers = s.timers := rfl
@[simp] theorem setItem_pmc (off i : Nat) (v : Word) : (setItem s off i v).pmc = s.pmc := rfl
@[simp] theorem setItem_pwr (off i : Nat) (v : Word) : (setItem s off i v).pwr = s.pwr := rfl
@[simp] theorem setItem_nrg (off i : Nat) (v : Word) : (setItem s off i v).nrg = s.nrg := rfl
@[simp] theorem setItem_chry (off i : Nat) (v : Word) : (setItem s off i v).chry = s.chry := rfl
@[simp] theorem setItem_pen (off i : Nat) (v : Word) : (setItem s off i v).pen = s.pen := rfl
@[simp] theorem setItem_cfg (off i : Nat) (v : Word) : (setItem s off i v).cfg = s.cfg := rfl
@[simp] theorem setItem_host (off i : Nat) (v : Word) : (setItem s off i v).host = s.host := rfl
@[simp] theorem setItem_dbg (off i : Nat) (v : Word) : (setItem s off i v).dbg = s.dbg := rfl
@[simp] theorem setItem_free (off i : Nat) (v : Word) : (setItem s off i v).free = s.free := rfl
@[simp] theorem setItem_pending (off i : Nat) (v : Word) : (setItem s off i v).pending = s.pending := rfl

/-! `bump` changes `regs` alone. -/
@[simp] theorem bump_bc (off : Nat) : (bump s off).bc = s.bc := rfl
@[simp] theorem bump_coreReset (off : Nat) : (bump s off).coreReset = s.coreReset := rfl
@[simp] theorem bump_resetAge (off : Nat) : (bump s off).resetAge = s.resetAge := rfl
@[simp] theorem bump_released (off : Nat) : (bump s off).released = s.released := rfl
@[simp] theorem bump_coldStart (off : Nat) : (bump s off).coldStart = s.coldStart := rfl
@[simp] theorem bump_bootDue (off : Nat) : (bump s off).bootDue = s.bootDue := rfl
@[simp] theorem bump_cad (off : Nat) : (bump s off).cad = s.cad := rfl
@[simp] theorem bump_spokes (off : Nat) : (bump s off).spokes = s.spokes := rfl
@[simp] theorem bump_cores (off : Nat) : (bump s off).cores = s.cores := rfl
@[simp] theorem bump_progs (off : Nat) : (bump s off).progs = s.progs := rfl
@[simp] theorem bump_chans (off : Nat) : (bump s off).chans = s.chans := rfl
@[simp] theorem bump_sysBuf (off : Nat) : (bump s off).sysBuf = s.sysBuf := rfl
@[simp] theorem bump_dl (off : Nat) : (bump s off).dl = s.dl := rfl
@[simp] theorem bump_avl (off : Nat) : (bump s off).avl = s.avl := rfl
@[simp] theorem bump_mem (off : Nat) : (bump s off).mem = s.mem := rfl
@[simp] theorem bump_lck (off : Nat) : (bump s off).lck = s.lck := rfl
@[simp] theorem bump_str (off : Nat) : (bump s off).str = s.str := rfl
@[simp] theorem bump_fab (off : Nat) : (bump s off).fab = s.fab := rfl
@[simp] theorem bump_timers (off : Nat) : (bump s off).timers = s.timers := rfl
@[simp] theorem bump_pmc (off : Nat) : (bump s off).pmc = s.pmc := rfl
@[simp] theorem bump_pwr (off : Nat) : (bump s off).pwr = s.pwr := rfl
@[simp] theorem bump_nrg (off : Nat) : (bump s off).nrg = s.nrg := rfl
@[simp] theorem bump_chry (off : Nat) : (bump s off).chry = s.chry := rfl
@[simp] theorem bump_pen (off : Nat) : (bump s off).pen = s.pen := rfl
@[simp] theorem bump_cfg (off : Nat) : (bump s off).cfg = s.cfg := rfl
@[simp] theorem bump_host (off : Nat) : (bump s off).host = s.host := rfl
@[simp] theorem bump_dbg (off : Nat) : (bump s off).dbg = s.dbg := rfl
@[simp] theorem bump_free (off : Nat) : (bump s off).free = s.free := rfl
@[simp] theorem bump_pending (off : Nat) : (bump s off).pending = s.pending := rfl

/-! `satReg` changes `regs` alone. -/
@[simp] theorem satReg_bc (off lo n : Nat) : (satReg s off lo n).bc = s.bc := rfl
@[simp] theorem satReg_coreReset (off lo n : Nat) : (satReg s off lo n).coreReset = s.coreReset := rfl
@[simp] theorem satReg_resetAge (off lo n : Nat) : (satReg s off lo n).resetAge = s.resetAge := rfl
@[simp] theorem satReg_released (off lo n : Nat) : (satReg s off lo n).released = s.released := rfl
@[simp] theorem satReg_coldStart (off lo n : Nat) : (satReg s off lo n).coldStart = s.coldStart := rfl
@[simp] theorem satReg_bootDue (off lo n : Nat) : (satReg s off lo n).bootDue = s.bootDue := rfl
@[simp] theorem satReg_cad (off lo n : Nat) : (satReg s off lo n).cad = s.cad := rfl
@[simp] theorem satReg_spokes (off lo n : Nat) : (satReg s off lo n).spokes = s.spokes := rfl
@[simp] theorem satReg_cores (off lo n : Nat) : (satReg s off lo n).cores = s.cores := rfl
@[simp] theorem satReg_progs (off lo n : Nat) : (satReg s off lo n).progs = s.progs := rfl
@[simp] theorem satReg_chans (off lo n : Nat) : (satReg s off lo n).chans = s.chans := rfl
@[simp] theorem satReg_sysBuf (off lo n : Nat) : (satReg s off lo n).sysBuf = s.sysBuf := rfl
@[simp] theorem satReg_dl (off lo n : Nat) : (satReg s off lo n).dl = s.dl := rfl
@[simp] theorem satReg_avl (off lo n : Nat) : (satReg s off lo n).avl = s.avl := rfl
@[simp] theorem satReg_mem (off lo n : Nat) : (satReg s off lo n).mem = s.mem := rfl
@[simp] theorem satReg_lck (off lo n : Nat) : (satReg s off lo n).lck = s.lck := rfl
@[simp] theorem satReg_str (off lo n : Nat) : (satReg s off lo n).str = s.str := rfl
@[simp] theorem satReg_fab (off lo n : Nat) : (satReg s off lo n).fab = s.fab := rfl
@[simp] theorem satReg_timers (off lo n : Nat) : (satReg s off lo n).timers = s.timers := rfl
@[simp] theorem satReg_pmc (off lo n : Nat) : (satReg s off lo n).pmc = s.pmc := rfl
@[simp] theorem satReg_pwr (off lo n : Nat) : (satReg s off lo n).pwr = s.pwr := rfl
@[simp] theorem satReg_nrg (off lo n : Nat) : (satReg s off lo n).nrg = s.nrg := rfl
@[simp] theorem satReg_chry (off lo n : Nat) : (satReg s off lo n).chry = s.chry := rfl
@[simp] theorem satReg_pen (off lo n : Nat) : (satReg s off lo n).pen = s.pen := rfl
@[simp] theorem satReg_cfg (off lo n : Nat) : (satReg s off lo n).cfg = s.cfg := rfl
@[simp] theorem satReg_host (off lo n : Nat) : (satReg s off lo n).host = s.host := rfl
@[simp] theorem satReg_dbg (off lo n : Nat) : (satReg s off lo n).dbg = s.dbg := rfl
@[simp] theorem satReg_free (off lo n : Nat) : (satReg s off lo n).free = s.free := rfl
@[simp] theorem satReg_pending (off lo n : Nat) : (satReg s off lo n).pending = s.pending := rfl

/-! `setSpk` changes `spokes` alone. -/
@[simp] theorem setSpk_bc (g : Nat) (sp : Spoke) : (setSpk s g sp).bc = s.bc := rfl
@[simp] theorem setSpk_coreReset (g : Nat) (sp : Spoke) : (setSpk s g sp).coreReset = s.coreReset := rfl
@[simp] theorem setSpk_resetAge (g : Nat) (sp : Spoke) : (setSpk s g sp).resetAge = s.resetAge := rfl
@[simp] theorem setSpk_released (g : Nat) (sp : Spoke) : (setSpk s g sp).released = s.released := rfl
@[simp] theorem setSpk_coldStart (g : Nat) (sp : Spoke) : (setSpk s g sp).coldStart = s.coldStart := rfl
@[simp] theorem setSpk_bootDue (g : Nat) (sp : Spoke) : (setSpk s g sp).bootDue = s.bootDue := rfl
@[simp] theorem setSpk_regs (g : Nat) (sp : Spoke) : (setSpk s g sp).regs = s.regs := rfl
@[simp] theorem setSpk_cad (g : Nat) (sp : Spoke) : (setSpk s g sp).cad = s.cad := rfl
@[simp] theorem setSpk_cores (g : Nat) (sp : Spoke) : (setSpk s g sp).cores = s.cores := rfl
@[simp] theorem setSpk_progs (g : Nat) (sp : Spoke) : (setSpk s g sp).progs = s.progs := rfl
@[simp] theorem setSpk_chans (g : Nat) (sp : Spoke) : (setSpk s g sp).chans = s.chans := rfl
@[simp] theorem setSpk_sysBuf (g : Nat) (sp : Spoke) : (setSpk s g sp).sysBuf = s.sysBuf := rfl
@[simp] theorem setSpk_dl (g : Nat) (sp : Spoke) : (setSpk s g sp).dl = s.dl := rfl
@[simp] theorem setSpk_avl (g : Nat) (sp : Spoke) : (setSpk s g sp).avl = s.avl := rfl
@[simp] theorem setSpk_mem (g : Nat) (sp : Spoke) : (setSpk s g sp).mem = s.mem := rfl
@[simp] theorem setSpk_lck (g : Nat) (sp : Spoke) : (setSpk s g sp).lck = s.lck := rfl
@[simp] theorem setSpk_str (g : Nat) (sp : Spoke) : (setSpk s g sp).str = s.str := rfl
@[simp] theorem setSpk_fab (g : Nat) (sp : Spoke) : (setSpk s g sp).fab = s.fab := rfl
@[simp] theorem setSpk_timers (g : Nat) (sp : Spoke) : (setSpk s g sp).timers = s.timers := rfl
@[simp] theorem setSpk_pmc (g : Nat) (sp : Spoke) : (setSpk s g sp).pmc = s.pmc := rfl
@[simp] theorem setSpk_pwr (g : Nat) (sp : Spoke) : (setSpk s g sp).pwr = s.pwr := rfl
@[simp] theorem setSpk_nrg (g : Nat) (sp : Spoke) : (setSpk s g sp).nrg = s.nrg := rfl
@[simp] theorem setSpk_chry (g : Nat) (sp : Spoke) : (setSpk s g sp).chry = s.chry := rfl
@[simp] theorem setSpk_pen (g : Nat) (sp : Spoke) : (setSpk s g sp).pen = s.pen := rfl
@[simp] theorem setSpk_cfg (g : Nat) (sp : Spoke) : (setSpk s g sp).cfg = s.cfg := rfl
@[simp] theorem setSpk_host (g : Nat) (sp : Spoke) : (setSpk s g sp).host = s.host := rfl
@[simp] theorem setSpk_dbg (g : Nat) (sp : Spoke) : (setSpk s g sp).dbg = s.dbg := rfl
@[simp] theorem setSpk_free (g : Nat) (sp : Spoke) : (setSpk s g sp).free = s.free := rfl
@[simp] theorem setSpk_pending (g : Nat) (sp : Spoke) : (setSpk s g sp).pending = s.pending := rfl

/-! `setChan` changes `chans` alone. -/
@[simp] theorem setChan_bc (ch : Nat) (c : Chan) : (setChan s ch c).bc = s.bc := rfl
@[simp] theorem setChan_coreReset (ch : Nat) (c : Chan) : (setChan s ch c).coreReset = s.coreReset := rfl
@[simp] theorem setChan_resetAge (ch : Nat) (c : Chan) : (setChan s ch c).resetAge = s.resetAge := rfl
@[simp] theorem setChan_released (ch : Nat) (c : Chan) : (setChan s ch c).released = s.released := rfl
@[simp] theorem setChan_coldStart (ch : Nat) (c : Chan) : (setChan s ch c).coldStart = s.coldStart := rfl
@[simp] theorem setChan_bootDue (ch : Nat) (c : Chan) : (setChan s ch c).bootDue = s.bootDue := rfl
@[simp] theorem setChan_regs (ch : Nat) (c : Chan) : (setChan s ch c).regs = s.regs := rfl
@[simp] theorem setChan_cad (ch : Nat) (c : Chan) : (setChan s ch c).cad = s.cad := rfl
@[simp] theorem setChan_spokes (ch : Nat) (c : Chan) : (setChan s ch c).spokes = s.spokes := rfl
@[simp] theorem setChan_cores (ch : Nat) (c : Chan) : (setChan s ch c).cores = s.cores := rfl
@[simp] theorem setChan_progs (ch : Nat) (c : Chan) : (setChan s ch c).progs = s.progs := rfl
@[simp] theorem setChan_sysBuf (ch : Nat) (c : Chan) : (setChan s ch c).sysBuf = s.sysBuf := rfl
@[simp] theorem setChan_dl (ch : Nat) (c : Chan) : (setChan s ch c).dl = s.dl := rfl
@[simp] theorem setChan_avl (ch : Nat) (c : Chan) : (setChan s ch c).avl = s.avl := rfl
@[simp] theorem setChan_mem (ch : Nat) (c : Chan) : (setChan s ch c).mem = s.mem := rfl
@[simp] theorem setChan_lck (ch : Nat) (c : Chan) : (setChan s ch c).lck = s.lck := rfl
@[simp] theorem setChan_str (ch : Nat) (c : Chan) : (setChan s ch c).str = s.str := rfl
@[simp] theorem setChan_fab (ch : Nat) (c : Chan) : (setChan s ch c).fab = s.fab := rfl
@[simp] theorem setChan_timers (ch : Nat) (c : Chan) : (setChan s ch c).timers = s.timers := rfl
@[simp] theorem setChan_pmc (ch : Nat) (c : Chan) : (setChan s ch c).pmc = s.pmc := rfl
@[simp] theorem setChan_pwr (ch : Nat) (c : Chan) : (setChan s ch c).pwr = s.pwr := rfl
@[simp] theorem setChan_nrg (ch : Nat) (c : Chan) : (setChan s ch c).nrg = s.nrg := rfl
@[simp] theorem setChan_chry (ch : Nat) (c : Chan) : (setChan s ch c).chry = s.chry := rfl
@[simp] theorem setChan_pen (ch : Nat) (c : Chan) : (setChan s ch c).pen = s.pen := rfl
@[simp] theorem setChan_cfg (ch : Nat) (c : Chan) : (setChan s ch c).cfg = s.cfg := rfl
@[simp] theorem setChan_host (ch : Nat) (c : Chan) : (setChan s ch c).host = s.host := rfl
@[simp] theorem setChan_dbg (ch : Nat) (c : Chan) : (setChan s ch c).dbg = s.dbg := rfl
@[simp] theorem setChan_free (ch : Nat) (c : Chan) : (setChan s ch c).free = s.free := rfl
@[simp] theorem setChan_pending (ch : Nat) (c : Chan) : (setChan s ch c).pending = s.pending := rfl

/-! `setPair` changes `avl` alone. -/
@[simp] theorem setPair_bc (p : Nat) (x : Pair) : (setPair s p x).bc = s.bc := rfl
@[simp] theorem setPair_coreReset (p : Nat) (x : Pair) : (setPair s p x).coreReset = s.coreReset := rfl
@[simp] theorem setPair_resetAge (p : Nat) (x : Pair) : (setPair s p x).resetAge = s.resetAge := rfl
@[simp] theorem setPair_released (p : Nat) (x : Pair) : (setPair s p x).released = s.released := rfl
@[simp] theorem setPair_coldStart (p : Nat) (x : Pair) : (setPair s p x).coldStart = s.coldStart := rfl
@[simp] theorem setPair_bootDue (p : Nat) (x : Pair) : (setPair s p x).bootDue = s.bootDue := rfl
@[simp] theorem setPair_regs (p : Nat) (x : Pair) : (setPair s p x).regs = s.regs := rfl
@[simp] theorem setPair_cad (p : Nat) (x : Pair) : (setPair s p x).cad = s.cad := rfl
@[simp] theorem setPair_spokes (p : Nat) (x : Pair) : (setPair s p x).spokes = s.spokes := rfl
@[simp] theorem setPair_cores (p : Nat) (x : Pair) : (setPair s p x).cores = s.cores := rfl
@[simp] theorem setPair_progs (p : Nat) (x : Pair) : (setPair s p x).progs = s.progs := rfl
@[simp] theorem setPair_chans (p : Nat) (x : Pair) : (setPair s p x).chans = s.chans := rfl
@[simp] theorem setPair_sysBuf (p : Nat) (x : Pair) : (setPair s p x).sysBuf = s.sysBuf := rfl
@[simp] theorem setPair_dl (p : Nat) (x : Pair) : (setPair s p x).dl = s.dl := rfl
@[simp] theorem setPair_mem (p : Nat) (x : Pair) : (setPair s p x).mem = s.mem := rfl
@[simp] theorem setPair_lck (p : Nat) (x : Pair) : (setPair s p x).lck = s.lck := rfl
@[simp] theorem setPair_str (p : Nat) (x : Pair) : (setPair s p x).str = s.str := rfl
@[simp] theorem setPair_fab (p : Nat) (x : Pair) : (setPair s p x).fab = s.fab := rfl
@[simp] theorem setPair_timers (p : Nat) (x : Pair) : (setPair s p x).timers = s.timers := rfl
@[simp] theorem setPair_pmc (p : Nat) (x : Pair) : (setPair s p x).pmc = s.pmc := rfl
@[simp] theorem setPair_pwr (p : Nat) (x : Pair) : (setPair s p x).pwr = s.pwr := rfl
@[simp] theorem setPair_nrg (p : Nat) (x : Pair) : (setPair s p x).nrg = s.nrg := rfl
@[simp] theorem setPair_chry (p : Nat) (x : Pair) : (setPair s p x).chry = s.chry := rfl
@[simp] theorem setPair_pen (p : Nat) (x : Pair) : (setPair s p x).pen = s.pen := rfl
@[simp] theorem setPair_cfg (p : Nat) (x : Pair) : (setPair s p x).cfg = s.cfg := rfl
@[simp] theorem setPair_host (p : Nat) (x : Pair) : (setPair s p x).host = s.host := rfl
@[simp] theorem setPair_dbg (p : Nat) (x : Pair) : (setPair s p x).dbg = s.dbg := rfl
@[simp] theorem setPair_free (p : Nat) (x : Pair) : (setPair s p x).free = s.free := rfl
@[simp] theorem setPair_pending (p : Nat) (x : Pair) : (setPair s p x).pending = s.pending := rfl

/-! `setLink` changes `str` alone. -/
@[simp] theorem setLink_bc (l : Nat) (k : Link) : (setLink s l k).bc = s.bc := rfl
@[simp] theorem setLink_coreReset (l : Nat) (k : Link) : (setLink s l k).coreReset = s.coreReset := rfl
@[simp] theorem setLink_resetAge (l : Nat) (k : Link) : (setLink s l k).resetAge = s.resetAge := rfl
@[simp] theorem setLink_released (l : Nat) (k : Link) : (setLink s l k).released = s.released := rfl
@[simp] theorem setLink_coldStart (l : Nat) (k : Link) : (setLink s l k).coldStart = s.coldStart := rfl
@[simp] theorem setLink_bootDue (l : Nat) (k : Link) : (setLink s l k).bootDue = s.bootDue := rfl
@[simp] theorem setLink_regs (l : Nat) (k : Link) : (setLink s l k).regs = s.regs := rfl
@[simp] theorem setLink_cad (l : Nat) (k : Link) : (setLink s l k).cad = s.cad := rfl
@[simp] theorem setLink_spokes (l : Nat) (k : Link) : (setLink s l k).spokes = s.spokes := rfl
@[simp] theorem setLink_cores (l : Nat) (k : Link) : (setLink s l k).cores = s.cores := rfl
@[simp] theorem setLink_progs (l : Nat) (k : Link) : (setLink s l k).progs = s.progs := rfl
@[simp] theorem setLink_chans (l : Nat) (k : Link) : (setLink s l k).chans = s.chans := rfl
@[simp] theorem setLink_sysBuf (l : Nat) (k : Link) : (setLink s l k).sysBuf = s.sysBuf := rfl
@[simp] theorem setLink_dl (l : Nat) (k : Link) : (setLink s l k).dl = s.dl := rfl
@[simp] theorem setLink_avl (l : Nat) (k : Link) : (setLink s l k).avl = s.avl := rfl
@[simp] theorem setLink_mem (l : Nat) (k : Link) : (setLink s l k).mem = s.mem := rfl
@[simp] theorem setLink_lck (l : Nat) (k : Link) : (setLink s l k).lck = s.lck := rfl
@[simp] theorem setLink_fab (l : Nat) (k : Link) : (setLink s l k).fab = s.fab := rfl
@[simp] theorem setLink_timers (l : Nat) (k : Link) : (setLink s l k).timers = s.timers := rfl
@[simp] theorem setLink_pmc (l : Nat) (k : Link) : (setLink s l k).pmc = s.pmc := rfl
@[simp] theorem setLink_pwr (l : Nat) (k : Link) : (setLink s l k).pwr = s.pwr := rfl
@[simp] theorem setLink_nrg (l : Nat) (k : Link) : (setLink s l k).nrg = s.nrg := rfl
@[simp] theorem setLink_chry (l : Nat) (k : Link) : (setLink s l k).chry = s.chry := rfl
@[simp] theorem setLink_pen (l : Nat) (k : Link) : (setLink s l k).pen = s.pen := rfl
@[simp] theorem setLink_cfg (l : Nat) (k : Link) : (setLink s l k).cfg = s.cfg := rfl
@[simp] theorem setLink_host (l : Nat) (k : Link) : (setLink s l k).host = s.host := rfl
@[simp] theorem setLink_dbg (l : Nat) (k : Link) : (setLink s l k).dbg = s.dbg := rfl
@[simp] theorem setLink_free (l : Nat) (k : Link) : (setLink s l k).free = s.free := rfl
@[simp] theorem setLink_pending (l : Nat) (k : Link) : (setLink s l k).pending = s.pending := rfl

/-! `setLockEnt` changes `lck` alone. -/
@[simp] theorem setLockEnt_bc (i : Nat) (e : LockEntry) : (setLockEnt s i e).bc = s.bc := rfl
@[simp] theorem setLockEnt_coreReset (i : Nat) (e : LockEntry) : (setLockEnt s i e).coreReset = s.coreReset := rfl
@[simp] theorem setLockEnt_resetAge (i : Nat) (e : LockEntry) : (setLockEnt s i e).resetAge = s.resetAge := rfl
@[simp] theorem setLockEnt_released (i : Nat) (e : LockEntry) : (setLockEnt s i e).released = s.released := rfl
@[simp] theorem setLockEnt_coldStart (i : Nat) (e : LockEntry) : (setLockEnt s i e).coldStart = s.coldStart := rfl
@[simp] theorem setLockEnt_bootDue (i : Nat) (e : LockEntry) : (setLockEnt s i e).bootDue = s.bootDue := rfl
@[simp] theorem setLockEnt_regs (i : Nat) (e : LockEntry) : (setLockEnt s i e).regs = s.regs := rfl
@[simp] theorem setLockEnt_cad (i : Nat) (e : LockEntry) : (setLockEnt s i e).cad = s.cad := rfl
@[simp] theorem setLockEnt_spokes (i : Nat) (e : LockEntry) : (setLockEnt s i e).spokes = s.spokes := rfl
@[simp] theorem setLockEnt_cores (i : Nat) (e : LockEntry) : (setLockEnt s i e).cores = s.cores := rfl
@[simp] theorem setLockEnt_progs (i : Nat) (e : LockEntry) : (setLockEnt s i e).progs = s.progs := rfl
@[simp] theorem setLockEnt_chans (i : Nat) (e : LockEntry) : (setLockEnt s i e).chans = s.chans := rfl
@[simp] theorem setLockEnt_sysBuf (i : Nat) (e : LockEntry) : (setLockEnt s i e).sysBuf = s.sysBuf := rfl
@[simp] theorem setLockEnt_dl (i : Nat) (e : LockEntry) : (setLockEnt s i e).dl = s.dl := rfl
@[simp] theorem setLockEnt_avl (i : Nat) (e : LockEntry) : (setLockEnt s i e).avl = s.avl := rfl
@[simp] theorem setLockEnt_mem (i : Nat) (e : LockEntry) : (setLockEnt s i e).mem = s.mem := rfl
@[simp] theorem setLockEnt_str (i : Nat) (e : LockEntry) : (setLockEnt s i e).str = s.str := rfl
@[simp] theorem setLockEnt_fab (i : Nat) (e : LockEntry) : (setLockEnt s i e).fab = s.fab := rfl
@[simp] theorem setLockEnt_timers (i : Nat) (e : LockEntry) : (setLockEnt s i e).timers = s.timers := rfl
@[simp] theorem setLockEnt_pmc (i : Nat) (e : LockEntry) : (setLockEnt s i e).pmc = s.pmc := rfl
@[simp] theorem setLockEnt_pwr (i : Nat) (e : LockEntry) : (setLockEnt s i e).pwr = s.pwr := rfl
@[simp] theorem setLockEnt_nrg (i : Nat) (e : LockEntry) : (setLockEnt s i e).nrg = s.nrg := rfl
@[simp] theorem setLockEnt_chry (i : Nat) (e : LockEntry) : (setLockEnt s i e).chry = s.chry := rfl
@[simp] theorem setLockEnt_pen (i : Nat) (e : LockEntry) : (setLockEnt s i e).pen = s.pen := rfl
@[simp] theorem setLockEnt_cfg (i : Nat) (e : LockEntry) : (setLockEnt s i e).cfg = s.cfg := rfl
@[simp] theorem setLockEnt_host (i : Nat) (e : LockEntry) : (setLockEnt s i e).host = s.host := rfl
@[simp] theorem setLockEnt_dbg (i : Nat) (e : LockEntry) : (setLockEnt s i e).dbg = s.dbg := rfl
@[simp] theorem setLockEnt_free (i : Nat) (e : LockEntry) : (setLockEnt s i e).free = s.free := rfl
@[simp] theorem setLockEnt_pending (i : Nat) (e : LockEntry) : (setLockEnt s i e).pending = s.pending := rfl

/-! `setAxis` changes `cad` alone. -/
@[simp] theorem setAxis_bc (n : Fin 17) (a : Axis) : (setAxis s n a).bc = s.bc := rfl
@[simp] theorem setAxis_coreReset (n : Fin 17) (a : Axis) : (setAxis s n a).coreReset = s.coreReset := rfl
@[simp] theorem setAxis_resetAge (n : Fin 17) (a : Axis) : (setAxis s n a).resetAge = s.resetAge := rfl
@[simp] theorem setAxis_released (n : Fin 17) (a : Axis) : (setAxis s n a).released = s.released := rfl
@[simp] theorem setAxis_coldStart (n : Fin 17) (a : Axis) : (setAxis s n a).coldStart = s.coldStart := rfl
@[simp] theorem setAxis_bootDue (n : Fin 17) (a : Axis) : (setAxis s n a).bootDue = s.bootDue := rfl
@[simp] theorem setAxis_regs (n : Fin 17) (a : Axis) : (setAxis s n a).regs = s.regs := rfl
@[simp] theorem setAxis_spokes (n : Fin 17) (a : Axis) : (setAxis s n a).spokes = s.spokes := rfl
@[simp] theorem setAxis_cores (n : Fin 17) (a : Axis) : (setAxis s n a).cores = s.cores := rfl
@[simp] theorem setAxis_progs (n : Fin 17) (a : Axis) : (setAxis s n a).progs = s.progs := rfl
@[simp] theorem setAxis_chans (n : Fin 17) (a : Axis) : (setAxis s n a).chans = s.chans := rfl
@[simp] theorem setAxis_sysBuf (n : Fin 17) (a : Axis) : (setAxis s n a).sysBuf = s.sysBuf := rfl
@[simp] theorem setAxis_dl (n : Fin 17) (a : Axis) : (setAxis s n a).dl = s.dl := rfl
@[simp] theorem setAxis_avl (n : Fin 17) (a : Axis) : (setAxis s n a).avl = s.avl := rfl
@[simp] theorem setAxis_mem (n : Fin 17) (a : Axis) : (setAxis s n a).mem = s.mem := rfl
@[simp] theorem setAxis_lck (n : Fin 17) (a : Axis) : (setAxis s n a).lck = s.lck := rfl
@[simp] theorem setAxis_str (n : Fin 17) (a : Axis) : (setAxis s n a).str = s.str := rfl
@[simp] theorem setAxis_fab (n : Fin 17) (a : Axis) : (setAxis s n a).fab = s.fab := rfl
@[simp] theorem setAxis_timers (n : Fin 17) (a : Axis) : (setAxis s n a).timers = s.timers := rfl
@[simp] theorem setAxis_pmc (n : Fin 17) (a : Axis) : (setAxis s n a).pmc = s.pmc := rfl
@[simp] theorem setAxis_pwr (n : Fin 17) (a : Axis) : (setAxis s n a).pwr = s.pwr := rfl
@[simp] theorem setAxis_nrg (n : Fin 17) (a : Axis) : (setAxis s n a).nrg = s.nrg := rfl
@[simp] theorem setAxis_chry (n : Fin 17) (a : Axis) : (setAxis s n a).chry = s.chry := rfl
@[simp] theorem setAxis_pen (n : Fin 17) (a : Axis) : (setAxis s n a).pen = s.pen := rfl
@[simp] theorem setAxis_cfg (n : Fin 17) (a : Axis) : (setAxis s n a).cfg = s.cfg := rfl
@[simp] theorem setAxis_host (n : Fin 17) (a : Axis) : (setAxis s n a).host = s.host := rfl
@[simp] theorem setAxis_dbg (n : Fin 17) (a : Axis) : (setAxis s n a).dbg = s.dbg := rfl
@[simp] theorem setAxis_free (n : Fin 17) (a : Axis) : (setAxis s n a).free = s.free := rfl
@[simp] theorem setAxis_pending (n : Fin 17) (a : Axis) : (setAxis s n a).pending = s.pending := rfl

/-! `setEvt` changes `cad` alone. -/
@[simp] theorem setEvt_bc (c : Nat) (x : Comparator) : (setEvt s c x).bc = s.bc := rfl
@[simp] theorem setEvt_coreReset (c : Nat) (x : Comparator) : (setEvt s c x).coreReset = s.coreReset := rfl
@[simp] theorem setEvt_resetAge (c : Nat) (x : Comparator) : (setEvt s c x).resetAge = s.resetAge := rfl
@[simp] theorem setEvt_released (c : Nat) (x : Comparator) : (setEvt s c x).released = s.released := rfl
@[simp] theorem setEvt_coldStart (c : Nat) (x : Comparator) : (setEvt s c x).coldStart = s.coldStart := rfl
@[simp] theorem setEvt_bootDue (c : Nat) (x : Comparator) : (setEvt s c x).bootDue = s.bootDue := rfl
@[simp] theorem setEvt_regs (c : Nat) (x : Comparator) : (setEvt s c x).regs = s.regs := rfl
@[simp] theorem setEvt_spokes (c : Nat) (x : Comparator) : (setEvt s c x).spokes = s.spokes := rfl
@[simp] theorem setEvt_cores (c : Nat) (x : Comparator) : (setEvt s c x).cores = s.cores := rfl
@[simp] theorem setEvt_progs (c : Nat) (x : Comparator) : (setEvt s c x).progs = s.progs := rfl
@[simp] theorem setEvt_chans (c : Nat) (x : Comparator) : (setEvt s c x).chans = s.chans := rfl
@[simp] theorem setEvt_sysBuf (c : Nat) (x : Comparator) : (setEvt s c x).sysBuf = s.sysBuf := rfl
@[simp] theorem setEvt_dl (c : Nat) (x : Comparator) : (setEvt s c x).dl = s.dl := rfl
@[simp] theorem setEvt_avl (c : Nat) (x : Comparator) : (setEvt s c x).avl = s.avl := rfl
@[simp] theorem setEvt_mem (c : Nat) (x : Comparator) : (setEvt s c x).mem = s.mem := rfl
@[simp] theorem setEvt_lck (c : Nat) (x : Comparator) : (setEvt s c x).lck = s.lck := rfl
@[simp] theorem setEvt_str (c : Nat) (x : Comparator) : (setEvt s c x).str = s.str := rfl
@[simp] theorem setEvt_fab (c : Nat) (x : Comparator) : (setEvt s c x).fab = s.fab := rfl
@[simp] theorem setEvt_timers (c : Nat) (x : Comparator) : (setEvt s c x).timers = s.timers := rfl
@[simp] theorem setEvt_pmc (c : Nat) (x : Comparator) : (setEvt s c x).pmc = s.pmc := rfl
@[simp] theorem setEvt_pwr (c : Nat) (x : Comparator) : (setEvt s c x).pwr = s.pwr := rfl
@[simp] theorem setEvt_nrg (c : Nat) (x : Comparator) : (setEvt s c x).nrg = s.nrg := rfl
@[simp] theorem setEvt_chry (c : Nat) (x : Comparator) : (setEvt s c x).chry = s.chry := rfl
@[simp] theorem setEvt_pen (c : Nat) (x : Comparator) : (setEvt s c x).pen = s.pen := rfl
@[simp] theorem setEvt_cfg (c : Nat) (x : Comparator) : (setEvt s c x).cfg = s.cfg := rfl
@[simp] theorem setEvt_host (c : Nat) (x : Comparator) : (setEvt s c x).host = s.host := rfl
@[simp] theorem setEvt_dbg (c : Nat) (x : Comparator) : (setEvt s c x).dbg = s.dbg := rfl
@[simp] theorem setEvt_free (c : Nat) (x : Comparator) : (setEvt s c x).free = s.free := rfl
@[simp] theorem setEvt_pending (c : Nat) (x : Comparator) : (setEvt s c x).pending = s.pending := rfl

/-! `setTimer` changes `timers` alone. -/
@[simp] theorem setTimer_bc (n : Fin 32) (t : Timer) : (setTimer s n t).bc = s.bc := rfl
@[simp] theorem setTimer_coreReset (n : Fin 32) (t : Timer) : (setTimer s n t).coreReset = s.coreReset := rfl
@[simp] theorem setTimer_resetAge (n : Fin 32) (t : Timer) : (setTimer s n t).resetAge = s.resetAge := rfl
@[simp] theorem setTimer_released (n : Fin 32) (t : Timer) : (setTimer s n t).released = s.released := rfl
@[simp] theorem setTimer_coldStart (n : Fin 32) (t : Timer) : (setTimer s n t).coldStart = s.coldStart := rfl
@[simp] theorem setTimer_bootDue (n : Fin 32) (t : Timer) : (setTimer s n t).bootDue = s.bootDue := rfl
@[simp] theorem setTimer_regs (n : Fin 32) (t : Timer) : (setTimer s n t).regs = s.regs := rfl
@[simp] theorem setTimer_cad (n : Fin 32) (t : Timer) : (setTimer s n t).cad = s.cad := rfl
@[simp] theorem setTimer_spokes (n : Fin 32) (t : Timer) : (setTimer s n t).spokes = s.spokes := rfl
@[simp] theorem setTimer_cores (n : Fin 32) (t : Timer) : (setTimer s n t).cores = s.cores := rfl
@[simp] theorem setTimer_progs (n : Fin 32) (t : Timer) : (setTimer s n t).progs = s.progs := rfl
@[simp] theorem setTimer_chans (n : Fin 32) (t : Timer) : (setTimer s n t).chans = s.chans := rfl
@[simp] theorem setTimer_sysBuf (n : Fin 32) (t : Timer) : (setTimer s n t).sysBuf = s.sysBuf := rfl
@[simp] theorem setTimer_dl (n : Fin 32) (t : Timer) : (setTimer s n t).dl = s.dl := rfl
@[simp] theorem setTimer_avl (n : Fin 32) (t : Timer) : (setTimer s n t).avl = s.avl := rfl
@[simp] theorem setTimer_mem (n : Fin 32) (t : Timer) : (setTimer s n t).mem = s.mem := rfl
@[simp] theorem setTimer_lck (n : Fin 32) (t : Timer) : (setTimer s n t).lck = s.lck := rfl
@[simp] theorem setTimer_str (n : Fin 32) (t : Timer) : (setTimer s n t).str = s.str := rfl
@[simp] theorem setTimer_fab (n : Fin 32) (t : Timer) : (setTimer s n t).fab = s.fab := rfl
@[simp] theorem setTimer_pmc (n : Fin 32) (t : Timer) : (setTimer s n t).pmc = s.pmc := rfl
@[simp] theorem setTimer_pwr (n : Fin 32) (t : Timer) : (setTimer s n t).pwr = s.pwr := rfl
@[simp] theorem setTimer_nrg (n : Fin 32) (t : Timer) : (setTimer s n t).nrg = s.nrg := rfl
@[simp] theorem setTimer_chry (n : Fin 32) (t : Timer) : (setTimer s n t).chry = s.chry := rfl
@[simp] theorem setTimer_pen (n : Fin 32) (t : Timer) : (setTimer s n t).pen = s.pen := rfl
@[simp] theorem setTimer_cfg (n : Fin 32) (t : Timer) : (setTimer s n t).cfg = s.cfg := rfl
@[simp] theorem setTimer_host (n : Fin 32) (t : Timer) : (setTimer s n t).host = s.host := rfl
@[simp] theorem setTimer_dbg (n : Fin 32) (t : Timer) : (setTimer s n t).dbg = s.dbg := rfl
@[simp] theorem setTimer_free (n : Fin 32) (t : Timer) : (setTimer s n t).free = s.free := rfl
@[simp] theorem setTimer_pending (n : Fin 32) (t : Timer) : (setTimer s n t).pending = s.pending := rfl

/-! `setPmc` changes `pmc` alone. -/
@[simp] theorem setPmc_bc (c : Nat) (x : PmcCore) : (setPmc s c x).bc = s.bc := rfl
@[simp] theorem setPmc_coreReset (c : Nat) (x : PmcCore) : (setPmc s c x).coreReset = s.coreReset := rfl
@[simp] theorem setPmc_resetAge (c : Nat) (x : PmcCore) : (setPmc s c x).resetAge = s.resetAge := rfl
@[simp] theorem setPmc_released (c : Nat) (x : PmcCore) : (setPmc s c x).released = s.released := rfl
@[simp] theorem setPmc_coldStart (c : Nat) (x : PmcCore) : (setPmc s c x).coldStart = s.coldStart := rfl
@[simp] theorem setPmc_bootDue (c : Nat) (x : PmcCore) : (setPmc s c x).bootDue = s.bootDue := rfl
@[simp] theorem setPmc_regs (c : Nat) (x : PmcCore) : (setPmc s c x).regs = s.regs := rfl
@[simp] theorem setPmc_cad (c : Nat) (x : PmcCore) : (setPmc s c x).cad = s.cad := rfl
@[simp] theorem setPmc_spokes (c : Nat) (x : PmcCore) : (setPmc s c x).spokes = s.spokes := rfl
@[simp] theorem setPmc_cores (c : Nat) (x : PmcCore) : (setPmc s c x).cores = s.cores := rfl
@[simp] theorem setPmc_progs (c : Nat) (x : PmcCore) : (setPmc s c x).progs = s.progs := rfl
@[simp] theorem setPmc_chans (c : Nat) (x : PmcCore) : (setPmc s c x).chans = s.chans := rfl
@[simp] theorem setPmc_sysBuf (c : Nat) (x : PmcCore) : (setPmc s c x).sysBuf = s.sysBuf := rfl
@[simp] theorem setPmc_dl (c : Nat) (x : PmcCore) : (setPmc s c x).dl = s.dl := rfl
@[simp] theorem setPmc_avl (c : Nat) (x : PmcCore) : (setPmc s c x).avl = s.avl := rfl
@[simp] theorem setPmc_mem (c : Nat) (x : PmcCore) : (setPmc s c x).mem = s.mem := rfl
@[simp] theorem setPmc_lck (c : Nat) (x : PmcCore) : (setPmc s c x).lck = s.lck := rfl
@[simp] theorem setPmc_str (c : Nat) (x : PmcCore) : (setPmc s c x).str = s.str := rfl
@[simp] theorem setPmc_fab (c : Nat) (x : PmcCore) : (setPmc s c x).fab = s.fab := rfl
@[simp] theorem setPmc_timers (c : Nat) (x : PmcCore) : (setPmc s c x).timers = s.timers := rfl
@[simp] theorem setPmc_pwr (c : Nat) (x : PmcCore) : (setPmc s c x).pwr = s.pwr := rfl
@[simp] theorem setPmc_nrg (c : Nat) (x : PmcCore) : (setPmc s c x).nrg = s.nrg := rfl
@[simp] theorem setPmc_chry (c : Nat) (x : PmcCore) : (setPmc s c x).chry = s.chry := rfl
@[simp] theorem setPmc_pen (c : Nat) (x : PmcCore) : (setPmc s c x).pen = s.pen := rfl
@[simp] theorem setPmc_cfg (c : Nat) (x : PmcCore) : (setPmc s c x).cfg = s.cfg := rfl
@[simp] theorem setPmc_host (c : Nat) (x : PmcCore) : (setPmc s c x).host = s.host := rfl
@[simp] theorem setPmc_dbg (c : Nat) (x : PmcCore) : (setPmc s c x).dbg = s.dbg := rfl
@[simp] theorem setPmc_free (c : Nat) (x : PmcCore) : (setPmc s c x).free = s.free := rfl
@[simp] theorem setPmc_pending (c : Nat) (x : PmcCore) : (setPmc s c x).pending = s.pending := rfl

/-! `setPin` changes `pen` alone. -/
@[simp] theorem setPin_bc (p : Nat) (x : Pin) : (setPin s p x).bc = s.bc := rfl
@[simp] theorem setPin_coreReset (p : Nat) (x : Pin) : (setPin s p x).coreReset = s.coreReset := rfl
@[simp] theorem setPin_resetAge (p : Nat) (x : Pin) : (setPin s p x).resetAge = s.resetAge := rfl
@[simp] theorem setPin_released (p : Nat) (x : Pin) : (setPin s p x).released = s.released := rfl
@[simp] theorem setPin_coldStart (p : Nat) (x : Pin) : (setPin s p x).coldStart = s.coldStart := rfl
@[simp] theorem setPin_bootDue (p : Nat) (x : Pin) : (setPin s p x).bootDue = s.bootDue := rfl
@[simp] theorem setPin_regs (p : Nat) (x : Pin) : (setPin s p x).regs = s.regs := rfl
@[simp] theorem setPin_cad (p : Nat) (x : Pin) : (setPin s p x).cad = s.cad := rfl
@[simp] theorem setPin_spokes (p : Nat) (x : Pin) : (setPin s p x).spokes = s.spokes := rfl
@[simp] theorem setPin_cores (p : Nat) (x : Pin) : (setPin s p x).cores = s.cores := rfl
@[simp] theorem setPin_progs (p : Nat) (x : Pin) : (setPin s p x).progs = s.progs := rfl
@[simp] theorem setPin_chans (p : Nat) (x : Pin) : (setPin s p x).chans = s.chans := rfl
@[simp] theorem setPin_sysBuf (p : Nat) (x : Pin) : (setPin s p x).sysBuf = s.sysBuf := rfl
@[simp] theorem setPin_dl (p : Nat) (x : Pin) : (setPin s p x).dl = s.dl := rfl
@[simp] theorem setPin_avl (p : Nat) (x : Pin) : (setPin s p x).avl = s.avl := rfl
@[simp] theorem setPin_mem (p : Nat) (x : Pin) : (setPin s p x).mem = s.mem := rfl
@[simp] theorem setPin_lck (p : Nat) (x : Pin) : (setPin s p x).lck = s.lck := rfl
@[simp] theorem setPin_str (p : Nat) (x : Pin) : (setPin s p x).str = s.str := rfl
@[simp] theorem setPin_fab (p : Nat) (x : Pin) : (setPin s p x).fab = s.fab := rfl
@[simp] theorem setPin_timers (p : Nat) (x : Pin) : (setPin s p x).timers = s.timers := rfl
@[simp] theorem setPin_pmc (p : Nat) (x : Pin) : (setPin s p x).pmc = s.pmc := rfl
@[simp] theorem setPin_pwr (p : Nat) (x : Pin) : (setPin s p x).pwr = s.pwr := rfl
@[simp] theorem setPin_nrg (p : Nat) (x : Pin) : (setPin s p x).nrg = s.nrg := rfl
@[simp] theorem setPin_chry (p : Nat) (x : Pin) : (setPin s p x).chry = s.chry := rfl
@[simp] theorem setPin_cfg (p : Nat) (x : Pin) : (setPin s p x).cfg = s.cfg := rfl
@[simp] theorem setPin_host (p : Nat) (x : Pin) : (setPin s p x).host = s.host := rfl
@[simp] theorem setPin_dbg (p : Nat) (x : Pin) : (setPin s p x).dbg = s.dbg := rfl
@[simp] theorem setPin_free (p : Nat) (x : Pin) : (setPin s p x).free = s.free := rfl
@[simp] theorem setPin_pending (p : Nat) (x : Pin) : (setPin s p x).pending = s.pending := rfl

/-! `setChry` changes `chry` alone. -/
@[simp] theorem setChry_bc (g : Fin 8) (c : Chrysalis) : (setChry s g c).bc = s.bc := rfl
@[simp] theorem setChry_coreReset (g : Fin 8) (c : Chrysalis) : (setChry s g c).coreReset = s.coreReset := rfl
@[simp] theorem setChry_resetAge (g : Fin 8) (c : Chrysalis) : (setChry s g c).resetAge = s.resetAge := rfl
@[simp] theorem setChry_released (g : Fin 8) (c : Chrysalis) : (setChry s g c).released = s.released := rfl
@[simp] theorem setChry_coldStart (g : Fin 8) (c : Chrysalis) : (setChry s g c).coldStart = s.coldStart := rfl
@[simp] theorem setChry_bootDue (g : Fin 8) (c : Chrysalis) : (setChry s g c).bootDue = s.bootDue := rfl
@[simp] theorem setChry_regs (g : Fin 8) (c : Chrysalis) : (setChry s g c).regs = s.regs := rfl
@[simp] theorem setChry_cad (g : Fin 8) (c : Chrysalis) : (setChry s g c).cad = s.cad := rfl
@[simp] theorem setChry_spokes (g : Fin 8) (c : Chrysalis) : (setChry s g c).spokes = s.spokes := rfl
@[simp] theorem setChry_cores (g : Fin 8) (c : Chrysalis) : (setChry s g c).cores = s.cores := rfl
@[simp] theorem setChry_progs (g : Fin 8) (c : Chrysalis) : (setChry s g c).progs = s.progs := rfl
@[simp] theorem setChry_chans (g : Fin 8) (c : Chrysalis) : (setChry s g c).chans = s.chans := rfl
@[simp] theorem setChry_sysBuf (g : Fin 8) (c : Chrysalis) : (setChry s g c).sysBuf = s.sysBuf := rfl
@[simp] theorem setChry_dl (g : Fin 8) (c : Chrysalis) : (setChry s g c).dl = s.dl := rfl
@[simp] theorem setChry_avl (g : Fin 8) (c : Chrysalis) : (setChry s g c).avl = s.avl := rfl
@[simp] theorem setChry_mem (g : Fin 8) (c : Chrysalis) : (setChry s g c).mem = s.mem := rfl
@[simp] theorem setChry_lck (g : Fin 8) (c : Chrysalis) : (setChry s g c).lck = s.lck := rfl
@[simp] theorem setChry_str (g : Fin 8) (c : Chrysalis) : (setChry s g c).str = s.str := rfl
@[simp] theorem setChry_fab (g : Fin 8) (c : Chrysalis) : (setChry s g c).fab = s.fab := rfl
@[simp] theorem setChry_timers (g : Fin 8) (c : Chrysalis) : (setChry s g c).timers = s.timers := rfl
@[simp] theorem setChry_pmc (g : Fin 8) (c : Chrysalis) : (setChry s g c).pmc = s.pmc := rfl
@[simp] theorem setChry_pwr (g : Fin 8) (c : Chrysalis) : (setChry s g c).pwr = s.pwr := rfl
@[simp] theorem setChry_nrg (g : Fin 8) (c : Chrysalis) : (setChry s g c).nrg = s.nrg := rfl
@[simp] theorem setChry_pen (g : Fin 8) (c : Chrysalis) : (setChry s g c).pen = s.pen := rfl
@[simp] theorem setChry_cfg (g : Fin 8) (c : Chrysalis) : (setChry s g c).cfg = s.cfg := rfl
@[simp] theorem setChry_host (g : Fin 8) (c : Chrysalis) : (setChry s g c).host = s.host := rfl
@[simp] theorem setChry_dbg (g : Fin 8) (c : Chrysalis) : (setChry s g c).dbg = s.dbg := rfl
@[simp] theorem setChry_free (g : Fin 8) (c : Chrysalis) : (setChry s g c).free = s.free := rfl
@[simp] theorem setChry_pending (g : Fin 8) (c : Chrysalis) : (setChry s g c).pending = s.pending := rfl

/-! `setEng` changes `pen` alone. -/
@[simp] theorem setEng_bc (e : Nat) (x : Engine) : (setEng s e x).bc = s.bc := rfl
@[simp] theorem setEng_coreReset (e : Nat) (x : Engine) : (setEng s e x).coreReset = s.coreReset := rfl
@[simp] theorem setEng_resetAge (e : Nat) (x : Engine) : (setEng s e x).resetAge = s.resetAge := rfl
@[simp] theorem setEng_released (e : Nat) (x : Engine) : (setEng s e x).released = s.released := rfl
@[simp] theorem setEng_coldStart (e : Nat) (x : Engine) : (setEng s e x).coldStart = s.coldStart := rfl
@[simp] theorem setEng_bootDue (e : Nat) (x : Engine) : (setEng s e x).bootDue = s.bootDue := rfl
@[simp] theorem setEng_regs (e : Nat) (x : Engine) : (setEng s e x).regs = s.regs := rfl
@[simp] theorem setEng_cad (e : Nat) (x : Engine) : (setEng s e x).cad = s.cad := rfl
@[simp] theorem setEng_spokes (e : Nat) (x : Engine) : (setEng s e x).spokes = s.spokes := rfl
@[simp] theorem setEng_cores (e : Nat) (x : Engine) : (setEng s e x).cores = s.cores := rfl
@[simp] theorem setEng_progs (e : Nat) (x : Engine) : (setEng s e x).progs = s.progs := rfl
@[simp] theorem setEng_chans (e : Nat) (x : Engine) : (setEng s e x).chans = s.chans := rfl
@[simp] theorem setEng_sysBuf (e : Nat) (x : Engine) : (setEng s e x).sysBuf = s.sysBuf := rfl
@[simp] theorem setEng_dl (e : Nat) (x : Engine) : (setEng s e x).dl = s.dl := rfl
@[simp] theorem setEng_avl (e : Nat) (x : Engine) : (setEng s e x).avl = s.avl := rfl
@[simp] theorem setEng_mem (e : Nat) (x : Engine) : (setEng s e x).mem = s.mem := rfl
@[simp] theorem setEng_lck (e : Nat) (x : Engine) : (setEng s e x).lck = s.lck := rfl
@[simp] theorem setEng_str (e : Nat) (x : Engine) : (setEng s e x).str = s.str := rfl
@[simp] theorem setEng_fab (e : Nat) (x : Engine) : (setEng s e x).fab = s.fab := rfl
@[simp] theorem setEng_timers (e : Nat) (x : Engine) : (setEng s e x).timers = s.timers := rfl
@[simp] theorem setEng_pmc (e : Nat) (x : Engine) : (setEng s e x).pmc = s.pmc := rfl
@[simp] theorem setEng_pwr (e : Nat) (x : Engine) : (setEng s e x).pwr = s.pwr := rfl
@[simp] theorem setEng_nrg (e : Nat) (x : Engine) : (setEng s e x).nrg = s.nrg := rfl
@[simp] theorem setEng_chry (e : Nat) (x : Engine) : (setEng s e x).chry = s.chry := rfl
@[simp] theorem setEng_cfg (e : Nat) (x : Engine) : (setEng s e x).cfg = s.cfg := rfl
@[simp] theorem setEng_host (e : Nat) (x : Engine) : (setEng s e x).host = s.host := rfl
@[simp] theorem setEng_dbg (e : Nat) (x : Engine) : (setEng s e x).dbg = s.dbg := rfl
@[simp] theorem setEng_free (e : Nat) (x : Engine) : (setEng s e x).free = s.free := rfl
@[simp] theorem setEng_pending (e : Nat) (x : Engine) : (setEng s e x).pending = s.pending := rfl

/-! `setCtx` changes `pen` alone. -/
@[simp] theorem setCtx_bc (e c : Nat) (x : Ctx) : (setCtx s e c x).bc = s.bc := rfl
@[simp] theorem setCtx_coreReset (e c : Nat) (x : Ctx) : (setCtx s e c x).coreReset = s.coreReset := rfl
@[simp] theorem setCtx_resetAge (e c : Nat) (x : Ctx) : (setCtx s e c x).resetAge = s.resetAge := rfl
@[simp] theorem setCtx_released (e c : Nat) (x : Ctx) : (setCtx s e c x).released = s.released := rfl
@[simp] theorem setCtx_coldStart (e c : Nat) (x : Ctx) : (setCtx s e c x).coldStart = s.coldStart := rfl
@[simp] theorem setCtx_bootDue (e c : Nat) (x : Ctx) : (setCtx s e c x).bootDue = s.bootDue := rfl
@[simp] theorem setCtx_regs (e c : Nat) (x : Ctx) : (setCtx s e c x).regs = s.regs := rfl
@[simp] theorem setCtx_cad (e c : Nat) (x : Ctx) : (setCtx s e c x).cad = s.cad := rfl
@[simp] theorem setCtx_spokes (e c : Nat) (x : Ctx) : (setCtx s e c x).spokes = s.spokes := rfl
@[simp] theorem setCtx_cores (e c : Nat) (x : Ctx) : (setCtx s e c x).cores = s.cores := rfl
@[simp] theorem setCtx_progs (e c : Nat) (x : Ctx) : (setCtx s e c x).progs = s.progs := rfl
@[simp] theorem setCtx_chans (e c : Nat) (x : Ctx) : (setCtx s e c x).chans = s.chans := rfl
@[simp] theorem setCtx_sysBuf (e c : Nat) (x : Ctx) : (setCtx s e c x).sysBuf = s.sysBuf := rfl
@[simp] theorem setCtx_dl (e c : Nat) (x : Ctx) : (setCtx s e c x).dl = s.dl := rfl
@[simp] theorem setCtx_avl (e c : Nat) (x : Ctx) : (setCtx s e c x).avl = s.avl := rfl
@[simp] theorem setCtx_mem (e c : Nat) (x : Ctx) : (setCtx s e c x).mem = s.mem := rfl
@[simp] theorem setCtx_lck (e c : Nat) (x : Ctx) : (setCtx s e c x).lck = s.lck := rfl
@[simp] theorem setCtx_str (e c : Nat) (x : Ctx) : (setCtx s e c x).str = s.str := rfl
@[simp] theorem setCtx_fab (e c : Nat) (x : Ctx) : (setCtx s e c x).fab = s.fab := rfl
@[simp] theorem setCtx_timers (e c : Nat) (x : Ctx) : (setCtx s e c x).timers = s.timers := rfl
@[simp] theorem setCtx_pmc (e c : Nat) (x : Ctx) : (setCtx s e c x).pmc = s.pmc := rfl
@[simp] theorem setCtx_pwr (e c : Nat) (x : Ctx) : (setCtx s e c x).pwr = s.pwr := rfl
@[simp] theorem setCtx_nrg (e c : Nat) (x : Ctx) : (setCtx s e c x).nrg = s.nrg := rfl
@[simp] theorem setCtx_chry (e c : Nat) (x : Ctx) : (setCtx s e c x).chry = s.chry := rfl
@[simp] theorem setCtx_cfg (e c : Nat) (x : Ctx) : (setCtx s e c x).cfg = s.cfg := rfl
@[simp] theorem setCtx_host (e c : Nat) (x : Ctx) : (setCtx s e c x).host = s.host := rfl
@[simp] theorem setCtx_dbg (e c : Nat) (x : Ctx) : (setCtx s e c x).dbg = s.dbg := rfl
@[simp] theorem setCtx_free (e c : Nat) (x : Ctx) : (setCtx s e c x).free = s.free := rfl
@[simp] theorem setCtx_pending (e c : Nat) (x : Ctx) : (setCtx s e c x).pending = s.pending := rfl

/-! `setCopy` changes `cfg` alone. -/
@[simp] theorem setCopy_bc (i : Fin 3) (c : Copy) : (setCopy s i c).bc = s.bc := rfl
@[simp] theorem setCopy_coreReset (i : Fin 3) (c : Copy) : (setCopy s i c).coreReset = s.coreReset := rfl
@[simp] theorem setCopy_resetAge (i : Fin 3) (c : Copy) : (setCopy s i c).resetAge = s.resetAge := rfl
@[simp] theorem setCopy_released (i : Fin 3) (c : Copy) : (setCopy s i c).released = s.released := rfl
@[simp] theorem setCopy_coldStart (i : Fin 3) (c : Copy) : (setCopy s i c).coldStart = s.coldStart := rfl
@[simp] theorem setCopy_bootDue (i : Fin 3) (c : Copy) : (setCopy s i c).bootDue = s.bootDue := rfl
@[simp] theorem setCopy_regs (i : Fin 3) (c : Copy) : (setCopy s i c).regs = s.regs := rfl
@[simp] theorem setCopy_cad (i : Fin 3) (c : Copy) : (setCopy s i c).cad = s.cad := rfl
@[simp] theorem setCopy_spokes (i : Fin 3) (c : Copy) : (setCopy s i c).spokes = s.spokes := rfl
@[simp] theorem setCopy_cores (i : Fin 3) (c : Copy) : (setCopy s i c).cores = s.cores := rfl
@[simp] theorem setCopy_progs (i : Fin 3) (c : Copy) : (setCopy s i c).progs = s.progs := rfl
@[simp] theorem setCopy_chans (i : Fin 3) (c : Copy) : (setCopy s i c).chans = s.chans := rfl
@[simp] theorem setCopy_sysBuf (i : Fin 3) (c : Copy) : (setCopy s i c).sysBuf = s.sysBuf := rfl
@[simp] theorem setCopy_dl (i : Fin 3) (c : Copy) : (setCopy s i c).dl = s.dl := rfl
@[simp] theorem setCopy_avl (i : Fin 3) (c : Copy) : (setCopy s i c).avl = s.avl := rfl
@[simp] theorem setCopy_mem (i : Fin 3) (c : Copy) : (setCopy s i c).mem = s.mem := rfl
@[simp] theorem setCopy_lck (i : Fin 3) (c : Copy) : (setCopy s i c).lck = s.lck := rfl
@[simp] theorem setCopy_str (i : Fin 3) (c : Copy) : (setCopy s i c).str = s.str := rfl
@[simp] theorem setCopy_fab (i : Fin 3) (c : Copy) : (setCopy s i c).fab = s.fab := rfl
@[simp] theorem setCopy_timers (i : Fin 3) (c : Copy) : (setCopy s i c).timers = s.timers := rfl
@[simp] theorem setCopy_pmc (i : Fin 3) (c : Copy) : (setCopy s i c).pmc = s.pmc := rfl
@[simp] theorem setCopy_pwr (i : Fin 3) (c : Copy) : (setCopy s i c).pwr = s.pwr := rfl
@[simp] theorem setCopy_nrg (i : Fin 3) (c : Copy) : (setCopy s i c).nrg = s.nrg := rfl
@[simp] theorem setCopy_chry (i : Fin 3) (c : Copy) : (setCopy s i c).chry = s.chry := rfl
@[simp] theorem setCopy_pen (i : Fin 3) (c : Copy) : (setCopy s i c).pen = s.pen := rfl
@[simp] theorem setCopy_host (i : Fin 3) (c : Copy) : (setCopy s i c).host = s.host := rfl
@[simp] theorem setCopy_dbg (i : Fin 3) (c : Copy) : (setCopy s i c).dbg = s.dbg := rfl
@[simp] theorem setCopy_free (i : Fin 3) (c : Copy) : (setCopy s i c).free = s.free := rfl
@[simp] theorem setCopy_pending (i : Fin 3) (c : Copy) : (setCopy s i c).pending = s.pending := rfl

/-! `onMem` changes `mem` alone. -/
@[simp] theorem onMem_bc (f : Memory → Memory) : (onMem s f).bc = s.bc := rfl
@[simp] theorem onMem_coreReset (f : Memory → Memory) : (onMem s f).coreReset = s.coreReset := rfl
@[simp] theorem onMem_resetAge (f : Memory → Memory) : (onMem s f).resetAge = s.resetAge := rfl
@[simp] theorem onMem_released (f : Memory → Memory) : (onMem s f).released = s.released := rfl
@[simp] theorem onMem_coldStart (f : Memory → Memory) : (onMem s f).coldStart = s.coldStart := rfl
@[simp] theorem onMem_bootDue (f : Memory → Memory) : (onMem s f).bootDue = s.bootDue := rfl
@[simp] theorem onMem_regs (f : Memory → Memory) : (onMem s f).regs = s.regs := rfl
@[simp] theorem onMem_cad (f : Memory → Memory) : (onMem s f).cad = s.cad := rfl
@[simp] theorem onMem_spokes (f : Memory → Memory) : (onMem s f).spokes = s.spokes := rfl
@[simp] theorem onMem_cores (f : Memory → Memory) : (onMem s f).cores = s.cores := rfl
@[simp] theorem onMem_progs (f : Memory → Memory) : (onMem s f).progs = s.progs := rfl
@[simp] theorem onMem_chans (f : Memory → Memory) : (onMem s f).chans = s.chans := rfl
@[simp] theorem onMem_sysBuf (f : Memory → Memory) : (onMem s f).sysBuf = s.sysBuf := rfl
@[simp] theorem onMem_dl (f : Memory → Memory) : (onMem s f).dl = s.dl := rfl
@[simp] theorem onMem_avl (f : Memory → Memory) : (onMem s f).avl = s.avl := rfl
@[simp] theorem onMem_lck (f : Memory → Memory) : (onMem s f).lck = s.lck := rfl
@[simp] theorem onMem_str (f : Memory → Memory) : (onMem s f).str = s.str := rfl
@[simp] theorem onMem_fab (f : Memory → Memory) : (onMem s f).fab = s.fab := rfl
@[simp] theorem onMem_timers (f : Memory → Memory) : (onMem s f).timers = s.timers := rfl
@[simp] theorem onMem_pmc (f : Memory → Memory) : (onMem s f).pmc = s.pmc := rfl
@[simp] theorem onMem_pwr (f : Memory → Memory) : (onMem s f).pwr = s.pwr := rfl
@[simp] theorem onMem_nrg (f : Memory → Memory) : (onMem s f).nrg = s.nrg := rfl
@[simp] theorem onMem_chry (f : Memory → Memory) : (onMem s f).chry = s.chry := rfl
@[simp] theorem onMem_pen (f : Memory → Memory) : (onMem s f).pen = s.pen := rfl
@[simp] theorem onMem_cfg (f : Memory → Memory) : (onMem s f).cfg = s.cfg := rfl
@[simp] theorem onMem_host (f : Memory → Memory) : (onMem s f).host = s.host := rfl
@[simp] theorem onMem_dbg (f : Memory → Memory) : (onMem s f).dbg = s.dbg := rfl
@[simp] theorem onMem_free (f : Memory → Memory) : (onMem s f).free = s.free := rfl
@[simp] theorem onMem_pending (f : Memory → Memory) : (onMem s f).pending = s.pending := rfl

/-! `onCfg` changes `cfg` alone. -/
@[simp] theorem onCfg_bc (f : Loader → Loader) : (onCfg s f).bc = s.bc := rfl
@[simp] theorem onCfg_coreReset (f : Loader → Loader) : (onCfg s f).coreReset = s.coreReset := rfl
@[simp] theorem onCfg_resetAge (f : Loader → Loader) : (onCfg s f).resetAge = s.resetAge := rfl
@[simp] theorem onCfg_released (f : Loader → Loader) : (onCfg s f).released = s.released := rfl
@[simp] theorem onCfg_coldStart (f : Loader → Loader) : (onCfg s f).coldStart = s.coldStart := rfl
@[simp] theorem onCfg_bootDue (f : Loader → Loader) : (onCfg s f).bootDue = s.bootDue := rfl
@[simp] theorem onCfg_regs (f : Loader → Loader) : (onCfg s f).regs = s.regs := rfl
@[simp] theorem onCfg_cad (f : Loader → Loader) : (onCfg s f).cad = s.cad := rfl
@[simp] theorem onCfg_spokes (f : Loader → Loader) : (onCfg s f).spokes = s.spokes := rfl
@[simp] theorem onCfg_cores (f : Loader → Loader) : (onCfg s f).cores = s.cores := rfl
@[simp] theorem onCfg_progs (f : Loader → Loader) : (onCfg s f).progs = s.progs := rfl
@[simp] theorem onCfg_chans (f : Loader → Loader) : (onCfg s f).chans = s.chans := rfl
@[simp] theorem onCfg_sysBuf (f : Loader → Loader) : (onCfg s f).sysBuf = s.sysBuf := rfl
@[simp] theorem onCfg_dl (f : Loader → Loader) : (onCfg s f).dl = s.dl := rfl
@[simp] theorem onCfg_avl (f : Loader → Loader) : (onCfg s f).avl = s.avl := rfl
@[simp] theorem onCfg_mem (f : Loader → Loader) : (onCfg s f).mem = s.mem := rfl
@[simp] theorem onCfg_lck (f : Loader → Loader) : (onCfg s f).lck = s.lck := rfl
@[simp] theorem onCfg_str (f : Loader → Loader) : (onCfg s f).str = s.str := rfl
@[simp] theorem onCfg_fab (f : Loader → Loader) : (onCfg s f).fab = s.fab := rfl
@[simp] theorem onCfg_timers (f : Loader → Loader) : (onCfg s f).timers = s.timers := rfl
@[simp] theorem onCfg_pmc (f : Loader → Loader) : (onCfg s f).pmc = s.pmc := rfl
@[simp] theorem onCfg_pwr (f : Loader → Loader) : (onCfg s f).pwr = s.pwr := rfl
@[simp] theorem onCfg_nrg (f : Loader → Loader) : (onCfg s f).nrg = s.nrg := rfl
@[simp] theorem onCfg_chry (f : Loader → Loader) : (onCfg s f).chry = s.chry := rfl
@[simp] theorem onCfg_pen (f : Loader → Loader) : (onCfg s f).pen = s.pen := rfl
@[simp] theorem onCfg_host (f : Loader → Loader) : (onCfg s f).host = s.host := rfl
@[simp] theorem onCfg_dbg (f : Loader → Loader) : (onCfg s f).dbg = s.dbg := rfl
@[simp] theorem onCfg_free (f : Loader → Loader) : (onCfg s f).free = s.free := rfl
@[simp] theorem onCfg_pending (f : Loader → Loader) : (onCfg s f).pending = s.pending := rfl

/-! `onFab` changes `fab` alone. -/
@[simp] theorem onFab_bc (f : Fabric → Fabric) : (onFab s f).bc = s.bc := rfl
@[simp] theorem onFab_coreReset (f : Fabric → Fabric) : (onFab s f).coreReset = s.coreReset := rfl
@[simp] theorem onFab_resetAge (f : Fabric → Fabric) : (onFab s f).resetAge = s.resetAge := rfl
@[simp] theorem onFab_released (f : Fabric → Fabric) : (onFab s f).released = s.released := rfl
@[simp] theorem onFab_coldStart (f : Fabric → Fabric) : (onFab s f).coldStart = s.coldStart := rfl
@[simp] theorem onFab_bootDue (f : Fabric → Fabric) : (onFab s f).bootDue = s.bootDue := rfl
@[simp] theorem onFab_regs (f : Fabric → Fabric) : (onFab s f).regs = s.regs := rfl
@[simp] theorem onFab_cad (f : Fabric → Fabric) : (onFab s f).cad = s.cad := rfl
@[simp] theorem onFab_spokes (f : Fabric → Fabric) : (onFab s f).spokes = s.spokes := rfl
@[simp] theorem onFab_cores (f : Fabric → Fabric) : (onFab s f).cores = s.cores := rfl
@[simp] theorem onFab_progs (f : Fabric → Fabric) : (onFab s f).progs = s.progs := rfl
@[simp] theorem onFab_chans (f : Fabric → Fabric) : (onFab s f).chans = s.chans := rfl
@[simp] theorem onFab_sysBuf (f : Fabric → Fabric) : (onFab s f).sysBuf = s.sysBuf := rfl
@[simp] theorem onFab_dl (f : Fabric → Fabric) : (onFab s f).dl = s.dl := rfl
@[simp] theorem onFab_avl (f : Fabric → Fabric) : (onFab s f).avl = s.avl := rfl
@[simp] theorem onFab_mem (f : Fabric → Fabric) : (onFab s f).mem = s.mem := rfl
@[simp] theorem onFab_lck (f : Fabric → Fabric) : (onFab s f).lck = s.lck := rfl
@[simp] theorem onFab_str (f : Fabric → Fabric) : (onFab s f).str = s.str := rfl
@[simp] theorem onFab_timers (f : Fabric → Fabric) : (onFab s f).timers = s.timers := rfl
@[simp] theorem onFab_pmc (f : Fabric → Fabric) : (onFab s f).pmc = s.pmc := rfl
@[simp] theorem onFab_pwr (f : Fabric → Fabric) : (onFab s f).pwr = s.pwr := rfl
@[simp] theorem onFab_nrg (f : Fabric → Fabric) : (onFab s f).nrg = s.nrg := rfl
@[simp] theorem onFab_chry (f : Fabric → Fabric) : (onFab s f).chry = s.chry := rfl
@[simp] theorem onFab_pen (f : Fabric → Fabric) : (onFab s f).pen = s.pen := rfl
@[simp] theorem onFab_cfg (f : Fabric → Fabric) : (onFab s f).cfg = s.cfg := rfl
@[simp] theorem onFab_host (f : Fabric → Fabric) : (onFab s f).host = s.host := rfl
@[simp] theorem onFab_dbg (f : Fabric → Fabric) : (onFab s f).dbg = s.dbg := rfl
@[simp] theorem onFab_free (f : Fabric → Fabric) : (onFab s f).free = s.free := rfl
@[simp] theorem onFab_pending (f : Fabric → Fabric) : (onFab s f).pending = s.pending := rfl

/-! `onPwr` changes `pwr` alone. -/
@[simp] theorem onPwr_bc (f : Power → Power) : (onPwr s f).bc = s.bc := rfl
@[simp] theorem onPwr_coreReset (f : Power → Power) : (onPwr s f).coreReset = s.coreReset := rfl
@[simp] theorem onPwr_resetAge (f : Power → Power) : (onPwr s f).resetAge = s.resetAge := rfl
@[simp] theorem onPwr_released (f : Power → Power) : (onPwr s f).released = s.released := rfl
@[simp] theorem onPwr_coldStart (f : Power → Power) : (onPwr s f).coldStart = s.coldStart := rfl
@[simp] theorem onPwr_bootDue (f : Power → Power) : (onPwr s f).bootDue = s.bootDue := rfl
@[simp] theorem onPwr_regs (f : Power → Power) : (onPwr s f).regs = s.regs := rfl
@[simp] theorem onPwr_cad (f : Power → Power) : (onPwr s f).cad = s.cad := rfl
@[simp] theorem onPwr_spokes (f : Power → Power) : (onPwr s f).spokes = s.spokes := rfl
@[simp] theorem onPwr_cores (f : Power → Power) : (onPwr s f).cores = s.cores := rfl
@[simp] theorem onPwr_progs (f : Power → Power) : (onPwr s f).progs = s.progs := rfl
@[simp] theorem onPwr_chans (f : Power → Power) : (onPwr s f).chans = s.chans := rfl
@[simp] theorem onPwr_sysBuf (f : Power → Power) : (onPwr s f).sysBuf = s.sysBuf := rfl
@[simp] theorem onPwr_dl (f : Power → Power) : (onPwr s f).dl = s.dl := rfl
@[simp] theorem onPwr_avl (f : Power → Power) : (onPwr s f).avl = s.avl := rfl
@[simp] theorem onPwr_mem (f : Power → Power) : (onPwr s f).mem = s.mem := rfl
@[simp] theorem onPwr_lck (f : Power → Power) : (onPwr s f).lck = s.lck := rfl
@[simp] theorem onPwr_str (f : Power → Power) : (onPwr s f).str = s.str := rfl
@[simp] theorem onPwr_fab (f : Power → Power) : (onPwr s f).fab = s.fab := rfl
@[simp] theorem onPwr_timers (f : Power → Power) : (onPwr s f).timers = s.timers := rfl
@[simp] theorem onPwr_pmc (f : Power → Power) : (onPwr s f).pmc = s.pmc := rfl
@[simp] theorem onPwr_nrg (f : Power → Power) : (onPwr s f).nrg = s.nrg := rfl
@[simp] theorem onPwr_chry (f : Power → Power) : (onPwr s f).chry = s.chry := rfl
@[simp] theorem onPwr_pen (f : Power → Power) : (onPwr s f).pen = s.pen := rfl
@[simp] theorem onPwr_cfg (f : Power → Power) : (onPwr s f).cfg = s.cfg := rfl
@[simp] theorem onPwr_host (f : Power → Power) : (onPwr s f).host = s.host := rfl
@[simp] theorem onPwr_dbg (f : Power → Power) : (onPwr s f).dbg = s.dbg := rfl
@[simp] theorem onPwr_free (f : Power → Power) : (onPwr s f).free = s.free := rfl
@[simp] theorem onPwr_pending (f : Power → Power) : (onPwr s f).pending = s.pending := rfl

/-! `onDbg` changes `dbg` alone. -/
@[simp] theorem onDbg_bc (f : Debug → Debug) : (onDbg s f).bc = s.bc := rfl
@[simp] theorem onDbg_coreReset (f : Debug → Debug) : (onDbg s f).coreReset = s.coreReset := rfl
@[simp] theorem onDbg_resetAge (f : Debug → Debug) : (onDbg s f).resetAge = s.resetAge := rfl
@[simp] theorem onDbg_released (f : Debug → Debug) : (onDbg s f).released = s.released := rfl
@[simp] theorem onDbg_coldStart (f : Debug → Debug) : (onDbg s f).coldStart = s.coldStart := rfl
@[simp] theorem onDbg_bootDue (f : Debug → Debug) : (onDbg s f).bootDue = s.bootDue := rfl
@[simp] theorem onDbg_regs (f : Debug → Debug) : (onDbg s f).regs = s.regs := rfl
@[simp] theorem onDbg_cad (f : Debug → Debug) : (onDbg s f).cad = s.cad := rfl
@[simp] theorem onDbg_spokes (f : Debug → Debug) : (onDbg s f).spokes = s.spokes := rfl
@[simp] theorem onDbg_cores (f : Debug → Debug) : (onDbg s f).cores = s.cores := rfl
@[simp] theorem onDbg_progs (f : Debug → Debug) : (onDbg s f).progs = s.progs := rfl
@[simp] theorem onDbg_chans (f : Debug → Debug) : (onDbg s f).chans = s.chans := rfl
@[simp] theorem onDbg_sysBuf (f : Debug → Debug) : (onDbg s f).sysBuf = s.sysBuf := rfl
@[simp] theorem onDbg_dl (f : Debug → Debug) : (onDbg s f).dl = s.dl := rfl
@[simp] theorem onDbg_avl (f : Debug → Debug) : (onDbg s f).avl = s.avl := rfl
@[simp] theorem onDbg_mem (f : Debug → Debug) : (onDbg s f).mem = s.mem := rfl
@[simp] theorem onDbg_lck (f : Debug → Debug) : (onDbg s f).lck = s.lck := rfl
@[simp] theorem onDbg_str (f : Debug → Debug) : (onDbg s f).str = s.str := rfl
@[simp] theorem onDbg_fab (f : Debug → Debug) : (onDbg s f).fab = s.fab := rfl
@[simp] theorem onDbg_timers (f : Debug → Debug) : (onDbg s f).timers = s.timers := rfl
@[simp] theorem onDbg_pmc (f : Debug → Debug) : (onDbg s f).pmc = s.pmc := rfl
@[simp] theorem onDbg_pwr (f : Debug → Debug) : (onDbg s f).pwr = s.pwr := rfl
@[simp] theorem onDbg_nrg (f : Debug → Debug) : (onDbg s f).nrg = s.nrg := rfl
@[simp] theorem onDbg_chry (f : Debug → Debug) : (onDbg s f).chry = s.chry := rfl
@[simp] theorem onDbg_pen (f : Debug → Debug) : (onDbg s f).pen = s.pen := rfl
@[simp] theorem onDbg_cfg (f : Debug → Debug) : (onDbg s f).cfg = s.cfg := rfl
@[simp] theorem onDbg_host (f : Debug → Debug) : (onDbg s f).host = s.host := rfl
@[simp] theorem onDbg_free (f : Debug → Debug) : (onDbg s f).free = s.free := rfl
@[simp] theorem onDbg_pending (f : Debug → Debug) : (onDbg s f).pending = s.pending := rfl

/-! `onNrg` changes `nrg` alone. -/
@[simp] theorem onNrg_bc (g : Fin 8) (f : NrgGroup → NrgGroup) : (onNrg s g f).bc = s.bc := rfl
@[simp] theorem onNrg_coreReset (g : Fin 8) (f : NrgGroup → NrgGroup) : (onNrg s g f).coreReset = s.coreReset := rfl
@[simp] theorem onNrg_resetAge (g : Fin 8) (f : NrgGroup → NrgGroup) : (onNrg s g f).resetAge = s.resetAge := rfl
@[simp] theorem onNrg_released (g : Fin 8) (f : NrgGroup → NrgGroup) : (onNrg s g f).released = s.released := rfl
@[simp] theorem onNrg_coldStart (g : Fin 8) (f : NrgGroup → NrgGroup) : (onNrg s g f).coldStart = s.coldStart := rfl
@[simp] theorem onNrg_bootDue (g : Fin 8) (f : NrgGroup → NrgGroup) : (onNrg s g f).bootDue = s.bootDue := rfl
@[simp] theorem onNrg_regs (g : Fin 8) (f : NrgGroup → NrgGroup) : (onNrg s g f).regs = s.regs := rfl
@[simp] theorem onNrg_cad (g : Fin 8) (f : NrgGroup → NrgGroup) : (onNrg s g f).cad = s.cad := rfl
@[simp] theorem onNrg_spokes (g : Fin 8) (f : NrgGroup → NrgGroup) : (onNrg s g f).spokes = s.spokes := rfl
@[simp] theorem onNrg_cores (g : Fin 8) (f : NrgGroup → NrgGroup) : (onNrg s g f).cores = s.cores := rfl
@[simp] theorem onNrg_progs (g : Fin 8) (f : NrgGroup → NrgGroup) : (onNrg s g f).progs = s.progs := rfl
@[simp] theorem onNrg_chans (g : Fin 8) (f : NrgGroup → NrgGroup) : (onNrg s g f).chans = s.chans := rfl
@[simp] theorem onNrg_sysBuf (g : Fin 8) (f : NrgGroup → NrgGroup) : (onNrg s g f).sysBuf = s.sysBuf := rfl
@[simp] theorem onNrg_dl (g : Fin 8) (f : NrgGroup → NrgGroup) : (onNrg s g f).dl = s.dl := rfl
@[simp] theorem onNrg_avl (g : Fin 8) (f : NrgGroup → NrgGroup) : (onNrg s g f).avl = s.avl := rfl
@[simp] theorem onNrg_mem (g : Fin 8) (f : NrgGroup → NrgGroup) : (onNrg s g f).mem = s.mem := rfl
@[simp] theorem onNrg_lck (g : Fin 8) (f : NrgGroup → NrgGroup) : (onNrg s g f).lck = s.lck := rfl
@[simp] theorem onNrg_str (g : Fin 8) (f : NrgGroup → NrgGroup) : (onNrg s g f).str = s.str := rfl
@[simp] theorem onNrg_fab (g : Fin 8) (f : NrgGroup → NrgGroup) : (onNrg s g f).fab = s.fab := rfl
@[simp] theorem onNrg_timers (g : Fin 8) (f : NrgGroup → NrgGroup) : (onNrg s g f).timers = s.timers := rfl
@[simp] theorem onNrg_pmc (g : Fin 8) (f : NrgGroup → NrgGroup) : (onNrg s g f).pmc = s.pmc := rfl
@[simp] theorem onNrg_pwr (g : Fin 8) (f : NrgGroup → NrgGroup) : (onNrg s g f).pwr = s.pwr := rfl
@[simp] theorem onNrg_chry (g : Fin 8) (f : NrgGroup → NrgGroup) : (onNrg s g f).chry = s.chry := rfl
@[simp] theorem onNrg_pen (g : Fin 8) (f : NrgGroup → NrgGroup) : (onNrg s g f).pen = s.pen := rfl
@[simp] theorem onNrg_cfg (g : Fin 8) (f : NrgGroup → NrgGroup) : (onNrg s g f).cfg = s.cfg := rfl
@[simp] theorem onNrg_host (g : Fin 8) (f : NrgGroup → NrgGroup) : (onNrg s g f).host = s.host := rfl
@[simp] theorem onNrg_dbg (g : Fin 8) (f : NrgGroup → NrgGroup) : (onNrg s g f).dbg = s.dbg := rfl
@[simp] theorem onNrg_free (g : Fin 8) (f : NrgGroup → NrgGroup) : (onNrg s g f).free = s.free := rfl
@[simp] theorem onNrg_pending (g : Fin 8) (f : NrgGroup → NrgGroup) : (onNrg s g f).pending = s.pending := rfl

/-! `onCore` changes `cores` alone. -/
@[simp] theorem onCore_bc (p : Nat) (f : Core → Core) : (onCore s p f).bc = s.bc := rfl
@[simp] theorem onCore_coreReset (p : Nat) (f : Core → Core) : (onCore s p f).coreReset = s.coreReset := rfl
@[simp] theorem onCore_resetAge (p : Nat) (f : Core → Core) : (onCore s p f).resetAge = s.resetAge := rfl
@[simp] theorem onCore_released (p : Nat) (f : Core → Core) : (onCore s p f).released = s.released := rfl
@[simp] theorem onCore_coldStart (p : Nat) (f : Core → Core) : (onCore s p f).coldStart = s.coldStart := rfl
@[simp] theorem onCore_bootDue (p : Nat) (f : Core → Core) : (onCore s p f).bootDue = s.bootDue := rfl
@[simp] theorem onCore_regs (p : Nat) (f : Core → Core) : (onCore s p f).regs = s.regs := rfl
@[simp] theorem onCore_cad (p : Nat) (f : Core → Core) : (onCore s p f).cad = s.cad := rfl
@[simp] theorem onCore_spokes (p : Nat) (f : Core → Core) : (onCore s p f).spokes = s.spokes := rfl
@[simp] theorem onCore_progs (p : Nat) (f : Core → Core) : (onCore s p f).progs = s.progs := rfl
@[simp] theorem onCore_chans (p : Nat) (f : Core → Core) : (onCore s p f).chans = s.chans := rfl
@[simp] theorem onCore_sysBuf (p : Nat) (f : Core → Core) : (onCore s p f).sysBuf = s.sysBuf := rfl
@[simp] theorem onCore_dl (p : Nat) (f : Core → Core) : (onCore s p f).dl = s.dl := rfl
@[simp] theorem onCore_avl (p : Nat) (f : Core → Core) : (onCore s p f).avl = s.avl := rfl
@[simp] theorem onCore_mem (p : Nat) (f : Core → Core) : (onCore s p f).mem = s.mem := rfl
@[simp] theorem onCore_lck (p : Nat) (f : Core → Core) : (onCore s p f).lck = s.lck := rfl
@[simp] theorem onCore_str (p : Nat) (f : Core → Core) : (onCore s p f).str = s.str := rfl
@[simp] theorem onCore_fab (p : Nat) (f : Core → Core) : (onCore s p f).fab = s.fab := rfl
@[simp] theorem onCore_timers (p : Nat) (f : Core → Core) : (onCore s p f).timers = s.timers := rfl
@[simp] theorem onCore_pmc (p : Nat) (f : Core → Core) : (onCore s p f).pmc = s.pmc := rfl
@[simp] theorem onCore_pwr (p : Nat) (f : Core → Core) : (onCore s p f).pwr = s.pwr := rfl
@[simp] theorem onCore_nrg (p : Nat) (f : Core → Core) : (onCore s p f).nrg = s.nrg := rfl
@[simp] theorem onCore_chry (p : Nat) (f : Core → Core) : (onCore s p f).chry = s.chry := rfl
@[simp] theorem onCore_pen (p : Nat) (f : Core → Core) : (onCore s p f).pen = s.pen := rfl
@[simp] theorem onCore_cfg (p : Nat) (f : Core → Core) : (onCore s p f).cfg = s.cfg := rfl
@[simp] theorem onCore_host (p : Nat) (f : Core → Core) : (onCore s p f).host = s.host := rfl
@[simp] theorem onCore_dbg (p : Nat) (f : Core → Core) : (onCore s p f).dbg = s.dbg := rfl
@[simp] theorem onCore_free (p : Nat) (f : Core → Core) : (onCore s p f).free = s.free := rfl
@[simp] theorem onCore_pending (p : Nat) (f : Core → Core) : (onCore s p f).pending = s.pending := rfl

/-! `putProg` changes `progs` alone. -/
@[simp] theorem putProg_bc (p w : Nat) (d : BitVec 56) : (putProg s p w d).bc = s.bc := rfl
@[simp] theorem putProg_coreReset (p w : Nat) (d : BitVec 56) : (putProg s p w d).coreReset = s.coreReset := rfl
@[simp] theorem putProg_resetAge (p w : Nat) (d : BitVec 56) : (putProg s p w d).resetAge = s.resetAge := rfl
@[simp] theorem putProg_released (p w : Nat) (d : BitVec 56) : (putProg s p w d).released = s.released := rfl
@[simp] theorem putProg_coldStart (p w : Nat) (d : BitVec 56) : (putProg s p w d).coldStart = s.coldStart := rfl
@[simp] theorem putProg_bootDue (p w : Nat) (d : BitVec 56) : (putProg s p w d).bootDue = s.bootDue := rfl
@[simp] theorem putProg_regs (p w : Nat) (d : BitVec 56) : (putProg s p w d).regs = s.regs := rfl
@[simp] theorem putProg_cad (p w : Nat) (d : BitVec 56) : (putProg s p w d).cad = s.cad := rfl
@[simp] theorem putProg_spokes (p w : Nat) (d : BitVec 56) : (putProg s p w d).spokes = s.spokes := rfl
@[simp] theorem putProg_cores (p w : Nat) (d : BitVec 56) : (putProg s p w d).cores = s.cores := rfl
@[simp] theorem putProg_chans (p w : Nat) (d : BitVec 56) : (putProg s p w d).chans = s.chans := rfl
@[simp] theorem putProg_sysBuf (p w : Nat) (d : BitVec 56) : (putProg s p w d).sysBuf = s.sysBuf := rfl
@[simp] theorem putProg_dl (p w : Nat) (d : BitVec 56) : (putProg s p w d).dl = s.dl := rfl
@[simp] theorem putProg_avl (p w : Nat) (d : BitVec 56) : (putProg s p w d).avl = s.avl := rfl
@[simp] theorem putProg_mem (p w : Nat) (d : BitVec 56) : (putProg s p w d).mem = s.mem := rfl
@[simp] theorem putProg_lck (p w : Nat) (d : BitVec 56) : (putProg s p w d).lck = s.lck := rfl
@[simp] theorem putProg_str (p w : Nat) (d : BitVec 56) : (putProg s p w d).str = s.str := rfl
@[simp] theorem putProg_fab (p w : Nat) (d : BitVec 56) : (putProg s p w d).fab = s.fab := rfl
@[simp] theorem putProg_timers (p w : Nat) (d : BitVec 56) : (putProg s p w d).timers = s.timers := rfl
@[simp] theorem putProg_pmc (p w : Nat) (d : BitVec 56) : (putProg s p w d).pmc = s.pmc := rfl
@[simp] theorem putProg_pwr (p w : Nat) (d : BitVec 56) : (putProg s p w d).pwr = s.pwr := rfl
@[simp] theorem putProg_nrg (p w : Nat) (d : BitVec 56) : (putProg s p w d).nrg = s.nrg := rfl
@[simp] theorem putProg_chry (p w : Nat) (d : BitVec 56) : (putProg s p w d).chry = s.chry := rfl
@[simp] theorem putProg_pen (p w : Nat) (d : BitVec 56) : (putProg s p w d).pen = s.pen := rfl
@[simp] theorem putProg_cfg (p w : Nat) (d : BitVec 56) : (putProg s p w d).cfg = s.cfg := rfl
@[simp] theorem putProg_host (p w : Nat) (d : BitVec 56) : (putProg s p w d).host = s.host := rfl
@[simp] theorem putProg_dbg (p w : Nat) (d : BitVec 56) : (putProg s p w d).dbg = s.dbg := rfl
@[simp] theorem putProg_free (p w : Nat) (d : BitVec 56) : (putProg s p w d).free = s.free := rfl
@[simp] theorem putProg_pending (p w : Nat) (d : BitVec 56) : (putProg s p w d).pending = s.pending := rfl

/-! `answer` changes `host` alone. -/
@[simp] theorem answer_bc (w : Word) : (answer s w).bc = s.bc := rfl
@[simp] theorem answer_coreReset (w : Word) : (answer s w).coreReset = s.coreReset := rfl
@[simp] theorem answer_resetAge (w : Word) : (answer s w).resetAge = s.resetAge := rfl
@[simp] theorem answer_released (w : Word) : (answer s w).released = s.released := rfl
@[simp] theorem answer_coldStart (w : Word) : (answer s w).coldStart = s.coldStart := rfl
@[simp] theorem answer_bootDue (w : Word) : (answer s w).bootDue = s.bootDue := rfl
@[simp] theorem answer_regs (w : Word) : (answer s w).regs = s.regs := rfl
@[simp] theorem answer_cad (w : Word) : (answer s w).cad = s.cad := rfl
@[simp] theorem answer_spokes (w : Word) : (answer s w).spokes = s.spokes := rfl
@[simp] theorem answer_cores (w : Word) : (answer s w).cores = s.cores := rfl
@[simp] theorem answer_progs (w : Word) : (answer s w).progs = s.progs := rfl
@[simp] theorem answer_chans (w : Word) : (answer s w).chans = s.chans := rfl
@[simp] theorem answer_sysBuf (w : Word) : (answer s w).sysBuf = s.sysBuf := rfl
@[simp] theorem answer_dl (w : Word) : (answer s w).dl = s.dl := rfl
@[simp] theorem answer_avl (w : Word) : (answer s w).avl = s.avl := rfl
@[simp] theorem answer_mem (w : Word) : (answer s w).mem = s.mem := rfl
@[simp] theorem answer_lck (w : Word) : (answer s w).lck = s.lck := rfl
@[simp] theorem answer_str (w : Word) : (answer s w).str = s.str := rfl
@[simp] theorem answer_fab (w : Word) : (answer s w).fab = s.fab := rfl
@[simp] theorem answer_timers (w : Word) : (answer s w).timers = s.timers := rfl
@[simp] theorem answer_pmc (w : Word) : (answer s w).pmc = s.pmc := rfl
@[simp] theorem answer_pwr (w : Word) : (answer s w).pwr = s.pwr := rfl
@[simp] theorem answer_nrg (w : Word) : (answer s w).nrg = s.nrg := rfl
@[simp] theorem answer_chry (w : Word) : (answer s w).chry = s.chry := rfl
@[simp] theorem answer_pen (w : Word) : (answer s w).pen = s.pen := rfl
@[simp] theorem answer_cfg (w : Word) : (answer s w).cfg = s.cfg := rfl
@[simp] theorem answer_dbg (w : Word) : (answer s w).dbg = s.dbg := rfl
@[simp] theorem answer_free (w : Word) : (answer s w).free = s.free := rfl
@[simp] theorem answer_pending (w : Word) : (answer s w).pending = s.pending := rfl

/-! Reads after updates. -/
@[simp] theorem reg_setReg (o p : Nat) (v : Word) : reg (setReg s o v) p = if p = o then v else reg s p := by simp only [reg, setReg, tget_tput]
@[simp] theorem reg_orReg (o p : Nat) (v : Word) : reg (orReg s o v) p = if p = o then reg s o ||| v else reg s p := by simp only [orReg, reg_setReg]
@[simp] theorem reg_clrReg (o p : Nat) (v : Word) : reg (clrReg s o v) p = if p = o then reg s o &&& ~~~v else reg s p := by simp only [clrReg, reg_setReg]
@[simp] theorem reg_bump (o p : Nat) : reg (bump s o) p = if p = o then countUp (reg s o) else reg s p := by simp only [bump, reg_setReg]
@[simp] theorem reg_satReg (o lo n p : Nat) : reg (satReg s o lo n) p = if p = o then satUp (reg s o) lo n else reg s p := by simp only [satReg, reg_setReg]
@[simp] theorem reg_setSpk (g : Nat) (sp : Spoke) (q1 : Nat) : reg (setSpk s g sp) q1 = reg s q1 := rfl
@[simp] theorem reg_setChan (ch : Nat) (c : Chan) (q1 : Nat) : reg (setChan s ch c) q1 = reg s q1 := rfl
@[simp] theorem reg_setPair (p : Nat) (x : Pair) (q1 : Nat) : reg (setPair s p x) q1 = reg s q1 := rfl
@[simp] theorem reg_setLink (l : Nat) (k : Link) (q1 : Nat) : reg (setLink s l k) q1 = reg s q1 := rfl
@[simp] theorem reg_setLockEnt (i : Nat) (e : LockEntry) (q1 : Nat) : reg (setLockEnt s i e) q1 = reg s q1 := rfl
@[simp] theorem reg_setAxis (n : Fin 17) (a : Axis) (q1 : Nat) : reg (setAxis s n a) q1 = reg s q1 := rfl
@[simp] theorem reg_setEvt (c : Nat) (x : Comparator) (q1 : Nat) : reg (setEvt s c x) q1 = reg s q1 := rfl
@[simp] theorem reg_setTimer (n : Fin 32) (t : Timer) (q1 : Nat) : reg (setTimer s n t) q1 = reg s q1 := rfl
@[simp] theorem reg_setPmc (c : Nat) (x : PmcCore) (q1 : Nat) : reg (setPmc s c x) q1 = reg s q1 := rfl
@[simp] theorem reg_setPin (p : Nat) (x : Pin) (q1 : Nat) : reg (setPin s p x) q1 = reg s q1 := rfl
@[simp] theorem reg_setChry (g : Fin 8) (c : Chrysalis) (q1 : Nat) : reg (setChry s g c) q1 = reg s q1 := rfl
@[simp] theorem reg_setEng (e : Nat) (x : Engine) (q1 : Nat) : reg (setEng s e x) q1 = reg s q1 := rfl
@[simp] theorem reg_setCtx (e c : Nat) (x : Ctx) (q1 : Nat) : reg (setCtx s e c x) q1 = reg s q1 := rfl
@[simp] theorem reg_setCopy (i : Fin 3) (c : Copy) (q1 : Nat) : reg (setCopy s i c) q1 = reg s q1 := rfl
@[simp] theorem reg_onMem (f : Memory → Memory) (q1 : Nat) : reg (onMem s f) q1 = reg s q1 := rfl
@[simp] theorem reg_onCfg (f : Loader → Loader) (q1 : Nat) : reg (onCfg s f) q1 = reg s q1 := rfl
@[simp] theorem reg_onFab (f : Fabric → Fabric) (q1 : Nat) : reg (onFab s f) q1 = reg s q1 := rfl
@[simp] theorem reg_onPwr (f : Power → Power) (q1 : Nat) : reg (onPwr s f) q1 = reg s q1 := rfl
@[simp] theorem reg_onDbg (f : Debug → Debug) (q1 : Nat) : reg (onDbg s f) q1 = reg s q1 := rfl
@[simp] theorem reg_onNrg (g : Fin 8) (f : NrgGroup → NrgGroup) (q1 : Nat) : reg (onNrg s g f) q1 = reg s q1 := rfl
@[simp] theorem reg_onCore (p : Nat) (f : Core → Core) (q1 : Nat) : reg (onCore s p f) q1 = reg s q1 := rfl
@[simp] theorem reg_putProg (p w : Nat) (d : BitVec 56) (q1 : Nat) : reg (putProg s p w d) q1 = reg s q1 := rfl
@[simp] theorem reg_answer (w : Word) (q1 : Nat) : reg (answer s w) q1 = reg s q1 := rfl
@[simp] theorem item_setSpk (g : Nat) (sp : Spoke) (q1 q2 : Nat) : item (setSpk s g sp) q1 q2 = item s q1 q2 := rfl
@[simp] theorem item_setChan (ch : Nat) (c : Chan) (q1 q2 : Nat) : item (setChan s ch c) q1 q2 = item s q1 q2 := rfl
@[simp] theorem item_setPair (p : Nat) (x : Pair) (q1 q2 : Nat) : item (setPair s p x) q1 q2 = item s q1 q2 := rfl
@[simp] theorem item_setLink (l : Nat) (k : Link) (q1 q2 : Nat) : item (setLink s l k) q1 q2 = item s q1 q2 := rfl
@[simp] theorem item_setLockEnt (i : Nat) (e : LockEntry) (q1 q2 : Nat) : item (setLockEnt s i e) q1 q2 = item s q1 q2 := rfl
@[simp] theorem item_setAxis (n : Fin 17) (a : Axis) (q1 q2 : Nat) : item (setAxis s n a) q1 q2 = item s q1 q2 := rfl
@[simp] theorem item_setEvt (c : Nat) (x : Comparator) (q1 q2 : Nat) : item (setEvt s c x) q1 q2 = item s q1 q2 := rfl
@[simp] theorem item_setTimer (n : Fin 32) (t : Timer) (q1 q2 : Nat) : item (setTimer s n t) q1 q2 = item s q1 q2 := rfl
@[simp] theorem item_setPmc (c : Nat) (x : PmcCore) (q1 q2 : Nat) : item (setPmc s c x) q1 q2 = item s q1 q2 := rfl
@[simp] theorem item_setPin (p : Nat) (x : Pin) (q1 q2 : Nat) : item (setPin s p x) q1 q2 = item s q1 q2 := rfl
@[simp] theorem item_setChry (g : Fin 8) (c : Chrysalis) (q1 q2 : Nat) : item (setChry s g c) q1 q2 = item s q1 q2 := rfl
@[simp] theorem item_setEng (e : Nat) (x : Engine) (q1 q2 : Nat) : item (setEng s e x) q1 q2 = item s q1 q2 := rfl
@[simp] theorem item_setCtx (e c : Nat) (x : Ctx) (q1 q2 : Nat) : item (setCtx s e c x) q1 q2 = item s q1 q2 := rfl
@[simp] theorem item_setCopy (i : Fin 3) (c : Copy) (q1 q2 : Nat) : item (setCopy s i c) q1 q2 = item s q1 q2 := rfl
@[simp] theorem item_onMem (f : Memory → Memory) (q1 q2 : Nat) : item (onMem s f) q1 q2 = item s q1 q2 := rfl
@[simp] theorem item_onCfg (f : Loader → Loader) (q1 q2 : Nat) : item (onCfg s f) q1 q2 = item s q1 q2 := rfl
@[simp] theorem item_onFab (f : Fabric → Fabric) (q1 q2 : Nat) : item (onFab s f) q1 q2 = item s q1 q2 := rfl
@[simp] theorem item_onPwr (f : Power → Power) (q1 q2 : Nat) : item (onPwr s f) q1 q2 = item s q1 q2 := rfl
@[simp] theorem item_onDbg (f : Debug → Debug) (q1 q2 : Nat) : item (onDbg s f) q1 q2 = item s q1 q2 := rfl
@[simp] theorem item_onNrg (g : Fin 8) (f : NrgGroup → NrgGroup) (q1 q2 : Nat) : item (onNrg s g f) q1 q2 = item s q1 q2 := rfl
@[simp] theorem item_onCore (p : Nat) (f : Core → Core) (q1 q2 : Nat) : item (onCore s p f) q1 q2 = item s q1 q2 := rfl
@[simp] theorem item_putProg (p w : Nat) (d : BitVec 56) (q1 q2 : Nat) : item (putProg s p w d) q1 q2 = item s q1 q2 := rfl
@[simp] theorem item_answer (w : Word) (q1 q2 : Nat) : item (answer s w) q1 q2 = item s q1 q2 := rfl
@[simp] theorem fld_setSpk (g : Nat) (sp : Spoke) (q1 q2 q3 : Nat) : fld (setSpk s g sp) q1 q2 q3 = fld s q1 q2 q3 := rfl
@[simp] theorem fld_setChan (ch : Nat) (c : Chan) (q1 q2 q3 : Nat) : fld (setChan s ch c) q1 q2 q3 = fld s q1 q2 q3 := rfl
@[simp] theorem fld_setPair (p : Nat) (x : Pair) (q1 q2 q3 : Nat) : fld (setPair s p x) q1 q2 q3 = fld s q1 q2 q3 := rfl
@[simp] theorem fld_setLink (l : Nat) (k : Link) (q1 q2 q3 : Nat) : fld (setLink s l k) q1 q2 q3 = fld s q1 q2 q3 := rfl
@[simp] theorem fld_setLockEnt (i : Nat) (e : LockEntry) (q1 q2 q3 : Nat) : fld (setLockEnt s i e) q1 q2 q3 = fld s q1 q2 q3 := rfl
@[simp] theorem fld_setAxis (n : Fin 17) (a : Axis) (q1 q2 q3 : Nat) : fld (setAxis s n a) q1 q2 q3 = fld s q1 q2 q3 := rfl
@[simp] theorem fld_setEvt (c : Nat) (x : Comparator) (q1 q2 q3 : Nat) : fld (setEvt s c x) q1 q2 q3 = fld s q1 q2 q3 := rfl
@[simp] theorem fld_setTimer (n : Fin 32) (t : Timer) (q1 q2 q3 : Nat) : fld (setTimer s n t) q1 q2 q3 = fld s q1 q2 q3 := rfl
@[simp] theorem fld_setPmc (c : Nat) (x : PmcCore) (q1 q2 q3 : Nat) : fld (setPmc s c x) q1 q2 q3 = fld s q1 q2 q3 := rfl
@[simp] theorem fld_setPin (p : Nat) (x : Pin) (q1 q2 q3 : Nat) : fld (setPin s p x) q1 q2 q3 = fld s q1 q2 q3 := rfl
@[simp] theorem fld_setChry (g : Fin 8) (c : Chrysalis) (q1 q2 q3 : Nat) : fld (setChry s g c) q1 q2 q3 = fld s q1 q2 q3 := rfl
@[simp] theorem fld_setEng (e : Nat) (x : Engine) (q1 q2 q3 : Nat) : fld (setEng s e x) q1 q2 q3 = fld s q1 q2 q3 := rfl
@[simp] theorem fld_setCtx (e c : Nat) (x : Ctx) (q1 q2 q3 : Nat) : fld (setCtx s e c x) q1 q2 q3 = fld s q1 q2 q3 := rfl
@[simp] theorem fld_setCopy (i : Fin 3) (c : Copy) (q1 q2 q3 : Nat) : fld (setCopy s i c) q1 q2 q3 = fld s q1 q2 q3 := rfl
@[simp] theorem fld_onMem (f : Memory → Memory) (q1 q2 q3 : Nat) : fld (onMem s f) q1 q2 q3 = fld s q1 q2 q3 := rfl
@[simp] theorem fld_onCfg (f : Loader → Loader) (q1 q2 q3 : Nat) : fld (onCfg s f) q1 q2 q3 = fld s q1 q2 q3 := rfl
@[simp] theorem fld_onFab (f : Fabric → Fabric) (q1 q2 q3 : Nat) : fld (onFab s f) q1 q2 q3 = fld s q1 q2 q3 := rfl
@[simp] theorem fld_onPwr (f : Power → Power) (q1 q2 q3 : Nat) : fld (onPwr s f) q1 q2 q3 = fld s q1 q2 q3 := rfl
@[simp] theorem fld_onDbg (f : Debug → Debug) (q1 q2 q3 : Nat) : fld (onDbg s f) q1 q2 q3 = fld s q1 q2 q3 := rfl
@[simp] theorem fld_onNrg (g : Fin 8) (f : NrgGroup → NrgGroup) (q1 q2 q3 : Nat) : fld (onNrg s g f) q1 q2 q3 = fld s q1 q2 q3 := rfl
@[simp] theorem fld_onCore (p : Nat) (f : Core → Core) (q1 q2 q3 : Nat) : fld (onCore s p f) q1 q2 q3 = fld s q1 q2 q3 := rfl
@[simp] theorem fld_putProg (p w : Nat) (d : BitVec 56) (q1 q2 q3 : Nat) : fld (putProg s p w d) q1 q2 q3 = fld s q1 q2 q3 := rfl
@[simp] theorem fld_answer (w : Word) (q1 q2 q3 : Nat) : fld (answer s w) q1 q2 q3 = fld s q1 q2 q3 := rfl
@[simp] theorem flg_setSpk (g : Nat) (sp : Spoke) (q1 q2 : Nat) : flg (setSpk s g sp) q1 q2 = flg s q1 q2 := rfl
@[simp] theorem flg_setChan (ch : Nat) (c : Chan) (q1 q2 : Nat) : flg (setChan s ch c) q1 q2 = flg s q1 q2 := rfl
@[simp] theorem flg_setPair (p : Nat) (x : Pair) (q1 q2 : Nat) : flg (setPair s p x) q1 q2 = flg s q1 q2 := rfl
@[simp] theorem flg_setLink (l : Nat) (k : Link) (q1 q2 : Nat) : flg (setLink s l k) q1 q2 = flg s q1 q2 := rfl
@[simp] theorem flg_setLockEnt (i : Nat) (e : LockEntry) (q1 q2 : Nat) : flg (setLockEnt s i e) q1 q2 = flg s q1 q2 := rfl
@[simp] theorem flg_setAxis (n : Fin 17) (a : Axis) (q1 q2 : Nat) : flg (setAxis s n a) q1 q2 = flg s q1 q2 := rfl
@[simp] theorem flg_setEvt (c : Nat) (x : Comparator) (q1 q2 : Nat) : flg (setEvt s c x) q1 q2 = flg s q1 q2 := rfl
@[simp] theorem flg_setTimer (n : Fin 32) (t : Timer) (q1 q2 : Nat) : flg (setTimer s n t) q1 q2 = flg s q1 q2 := rfl
@[simp] theorem flg_setPmc (c : Nat) (x : PmcCore) (q1 q2 : Nat) : flg (setPmc s c x) q1 q2 = flg s q1 q2 := rfl
@[simp] theorem flg_setPin (p : Nat) (x : Pin) (q1 q2 : Nat) : flg (setPin s p x) q1 q2 = flg s q1 q2 := rfl
@[simp] theorem flg_setChry (g : Fin 8) (c : Chrysalis) (q1 q2 : Nat) : flg (setChry s g c) q1 q2 = flg s q1 q2 := rfl
@[simp] theorem flg_setEng (e : Nat) (x : Engine) (q1 q2 : Nat) : flg (setEng s e x) q1 q2 = flg s q1 q2 := rfl
@[simp] theorem flg_setCtx (e c : Nat) (x : Ctx) (q1 q2 : Nat) : flg (setCtx s e c x) q1 q2 = flg s q1 q2 := rfl
@[simp] theorem flg_setCopy (i : Fin 3) (c : Copy) (q1 q2 : Nat) : flg (setCopy s i c) q1 q2 = flg s q1 q2 := rfl
@[simp] theorem flg_onMem (f : Memory → Memory) (q1 q2 : Nat) : flg (onMem s f) q1 q2 = flg s q1 q2 := rfl
@[simp] theorem flg_onCfg (f : Loader → Loader) (q1 q2 : Nat) : flg (onCfg s f) q1 q2 = flg s q1 q2 := rfl
@[simp] theorem flg_onFab (f : Fabric → Fabric) (q1 q2 : Nat) : flg (onFab s f) q1 q2 = flg s q1 q2 := rfl
@[simp] theorem flg_onPwr (f : Power → Power) (q1 q2 : Nat) : flg (onPwr s f) q1 q2 = flg s q1 q2 := rfl
@[simp] theorem flg_onDbg (f : Debug → Debug) (q1 q2 : Nat) : flg (onDbg s f) q1 q2 = flg s q1 q2 := rfl
@[simp] theorem flg_onNrg (g : Fin 8) (f : NrgGroup → NrgGroup) (q1 q2 : Nat) : flg (onNrg s g f) q1 q2 = flg s q1 q2 := rfl
@[simp] theorem flg_onCore (p : Nat) (f : Core → Core) (q1 q2 : Nat) : flg (onCore s p f) q1 q2 = flg s q1 q2 := rfl
@[simp] theorem flg_putProg (p w : Nat) (d : BitVec 56) (q1 q2 : Nat) : flg (putProg s p w d) q1 q2 = flg s q1 q2 := rfl
@[simp] theorem flg_answer (w : Word) (q1 q2 : Nat) : flg (answer s w) q1 q2 = flg s q1 q2 := rfl
@[simp] theorem spk_setReg (off : Nat) (v : Word) (h : Nat) : spk (setReg s off v) h = spk s h := rfl
@[simp] theorem spk_orReg (off : Nat) (v : Word) (h : Nat) : spk (orReg s off v) h = spk s h := rfl
@[simp] theorem spk_clrReg (off : Nat) (v : Word) (h : Nat) : spk (clrReg s off v) h = spk s h := rfl
@[simp] theorem spk_setItem (off i : Nat) (v : Word) (h : Nat) : spk (setItem s off i v) h = spk s h := rfl
@[simp] theorem spk_bump (off : Nat) (h : Nat) : spk (bump s off) h = spk s h := rfl
@[simp] theorem spk_satReg (off lo n : Nat) (h : Nat) : spk (satReg s off lo n) h = spk s h := rfl
@[simp] theorem spk_setChan (ch : Nat) (c : Chan) (h : Nat) : spk (setChan s ch c) h = spk s h := rfl
@[simp] theorem spk_setPair (p : Nat) (x : Pair) (h : Nat) : spk (setPair s p x) h = spk s h := rfl
@[simp] theorem spk_setLink (l : Nat) (k : Link) (h : Nat) : spk (setLink s l k) h = spk s h := rfl
@[simp] theorem spk_setLockEnt (i : Nat) (e : LockEntry) (h : Nat) : spk (setLockEnt s i e) h = spk s h := rfl
@[simp] theorem spk_setAxis (n : Fin 17) (a : Axis) (h : Nat) : spk (setAxis s n a) h = spk s h := rfl
@[simp] theorem spk_setEvt (c : Nat) (x : Comparator) (h : Nat) : spk (setEvt s c x) h = spk s h := rfl
@[simp] theorem spk_setTimer (n : Fin 32) (t : Timer) (h : Nat) : spk (setTimer s n t) h = spk s h := rfl
@[simp] theorem spk_setPmc (c : Nat) (x : PmcCore) (h : Nat) : spk (setPmc s c x) h = spk s h := rfl
@[simp] theorem spk_setPin (p : Nat) (x : Pin) (h : Nat) : spk (setPin s p x) h = spk s h := rfl
@[simp] theorem spk_setChry (g : Fin 8) (c : Chrysalis) (h : Nat) : spk (setChry s g c) h = spk s h := rfl
@[simp] theorem spk_setEng (e : Nat) (x : Engine) (h : Nat) : spk (setEng s e x) h = spk s h := rfl
@[simp] theorem spk_setCtx (e c : Nat) (x : Ctx) (h : Nat) : spk (setCtx s e c x) h = spk s h := rfl
@[simp] theorem spk_setCopy (i : Fin 3) (c : Copy) (h : Nat) : spk (setCopy s i c) h = spk s h := rfl
@[simp] theorem spk_onMem (f : Memory → Memory) (h : Nat) : spk (onMem s f) h = spk s h := rfl
@[simp] theorem spk_onCfg (f : Loader → Loader) (h : Nat) : spk (onCfg s f) h = spk s h := rfl
@[simp] theorem spk_onFab (f : Fabric → Fabric) (h : Nat) : spk (onFab s f) h = spk s h := rfl
@[simp] theorem spk_onPwr (f : Power → Power) (h : Nat) : spk (onPwr s f) h = spk s h := rfl
@[simp] theorem spk_onDbg (f : Debug → Debug) (h : Nat) : spk (onDbg s f) h = spk s h := rfl
@[simp] theorem spk_onNrg (g : Fin 8) (f : NrgGroup → NrgGroup) (h : Nat) : spk (onNrg s g f) h = spk s h := rfl
@[simp] theorem spk_onCore (p : Nat) (f : Core → Core) (h : Nat) : spk (onCore s p f) h = spk s h := rfl
@[simp] theorem spk_putProg (p w : Nat) (d : BitVec 56) (h : Nat) : spk (putProg s p w d) h = spk s h := rfl
@[simp] theorem spk_answer (w : Word) (h : Nat) : spk (answer s w) h = spk s h := rfl
@[simp] theorem chan_setReg (off : Nat) (v : Word) (q1 : Nat) : chan (setReg s off v) q1 = chan s q1 := rfl
@[simp] theorem chan_orReg (off : Nat) (v : Word) (q1 : Nat) : chan (orReg s off v) q1 = chan s q1 := rfl
@[simp] theorem chan_clrReg (off : Nat) (v : Word) (q1 : Nat) : chan (clrReg s off v) q1 = chan s q1 := rfl
@[simp] theorem chan_setItem (off i : Nat) (v : Word) (q1 : Nat) : chan (setItem s off i v) q1 = chan s q1 := rfl
@[simp] theorem chan_bump (off : Nat) (q1 : Nat) : chan (bump s off) q1 = chan s q1 := rfl
@[simp] theorem chan_satReg (off lo n : Nat) (q1 : Nat) : chan (satReg s off lo n) q1 = chan s q1 := rfl
@[simp] theorem chan_setSpk (g : Nat) (sp : Spoke) (q1 : Nat) : chan (setSpk s g sp) q1 = chan s q1 := rfl
@[simp] theorem chan_setPair (p : Nat) (x : Pair) (q1 : Nat) : chan (setPair s p x) q1 = chan s q1 := rfl
@[simp] theorem chan_setLink (l : Nat) (k : Link) (q1 : Nat) : chan (setLink s l k) q1 = chan s q1 := rfl
@[simp] theorem chan_setLockEnt (i : Nat) (e : LockEntry) (q1 : Nat) : chan (setLockEnt s i e) q1 = chan s q1 := rfl
@[simp] theorem chan_setAxis (n : Fin 17) (a : Axis) (q1 : Nat) : chan (setAxis s n a) q1 = chan s q1 := rfl
@[simp] theorem chan_setEvt (c : Nat) (x : Comparator) (q1 : Nat) : chan (setEvt s c x) q1 = chan s q1 := rfl
@[simp] theorem chan_setTimer (n : Fin 32) (t : Timer) (q1 : Nat) : chan (setTimer s n t) q1 = chan s q1 := rfl
@[simp] theorem chan_setPmc (c : Nat) (x : PmcCore) (q1 : Nat) : chan (setPmc s c x) q1 = chan s q1 := rfl
@[simp] theorem chan_setPin (p : Nat) (x : Pin) (q1 : Nat) : chan (setPin s p x) q1 = chan s q1 := rfl
@[simp] theorem chan_setChry (g : Fin 8) (c : Chrysalis) (q1 : Nat) : chan (setChry s g c) q1 = chan s q1 := rfl
@[simp] theorem chan_setEng (e : Nat) (x : Engine) (q1 : Nat) : chan (setEng s e x) q1 = chan s q1 := rfl
@[simp] theorem chan_setCtx (e c : Nat) (x : Ctx) (q1 : Nat) : chan (setCtx s e c x) q1 = chan s q1 := rfl
@[simp] theorem chan_setCopy (i : Fin 3) (c : Copy) (q1 : Nat) : chan (setCopy s i c) q1 = chan s q1 := rfl
@[simp] theorem chan_onMem (f : Memory → Memory) (q1 : Nat) : chan (onMem s f) q1 = chan s q1 := rfl
@[simp] theorem chan_onCfg (f : Loader → Loader) (q1 : Nat) : chan (onCfg s f) q1 = chan s q1 := rfl
@[simp] theorem chan_onFab (f : Fabric → Fabric) (q1 : Nat) : chan (onFab s f) q1 = chan s q1 := rfl
@[simp] theorem chan_onPwr (f : Power → Power) (q1 : Nat) : chan (onPwr s f) q1 = chan s q1 := rfl
@[simp] theorem chan_onDbg (f : Debug → Debug) (q1 : Nat) : chan (onDbg s f) q1 = chan s q1 := rfl
@[simp] theorem chan_onNrg (g : Fin 8) (f : NrgGroup → NrgGroup) (q1 : Nat) : chan (onNrg s g f) q1 = chan s q1 := rfl
@[simp] theorem chan_onCore (p : Nat) (f : Core → Core) (q1 : Nat) : chan (onCore s p f) q1 = chan s q1 := rfl
@[simp] theorem chan_putProg (p w : Nat) (d : BitVec 56) (q1 : Nat) : chan (putProg s p w d) q1 = chan s q1 := rfl
@[simp] theorem chan_answer (w : Word) (q1 : Nat) : chan (answer s w) q1 = chan s q1 := rfl
@[simp] theorem pairAt_setReg (off : Nat) (v : Word) (q : Nat) : pairAt (setReg s off v) q = pairAt s q := rfl
@[simp] theorem pairAt_orReg (off : Nat) (v : Word) (q : Nat) : pairAt (orReg s off v) q = pairAt s q := rfl
@[simp] theorem pairAt_clrReg (off : Nat) (v : Word) (q : Nat) : pairAt (clrReg s off v) q = pairAt s q := rfl
@[simp] theorem pairAt_setItem (off i : Nat) (v : Word) (q : Nat) : pairAt (setItem s off i v) q = pairAt s q := rfl
@[simp] theorem pairAt_bump (off : Nat) (q : Nat) : pairAt (bump s off) q = pairAt s q := rfl
@[simp] theorem pairAt_satReg (off lo n : Nat) (q : Nat) : pairAt (satReg s off lo n) q = pairAt s q := rfl
@[simp] theorem pairAt_setSpk (g : Nat) (sp : Spoke) (q : Nat) : pairAt (setSpk s g sp) q = pairAt s q := rfl
@[simp] theorem pairAt_setChan (ch : Nat) (c : Chan) (q : Nat) : pairAt (setChan s ch c) q = pairAt s q := rfl
@[simp] theorem pairAt_setLink (l : Nat) (k : Link) (q : Nat) : pairAt (setLink s l k) q = pairAt s q := rfl
@[simp] theorem pairAt_setLockEnt (i : Nat) (e : LockEntry) (q : Nat) : pairAt (setLockEnt s i e) q = pairAt s q := rfl
@[simp] theorem pairAt_setAxis (n : Fin 17) (a : Axis) (q : Nat) : pairAt (setAxis s n a) q = pairAt s q := rfl
@[simp] theorem pairAt_setEvt (c : Nat) (x : Comparator) (q : Nat) : pairAt (setEvt s c x) q = pairAt s q := rfl
@[simp] theorem pairAt_setTimer (n : Fin 32) (t : Timer) (q : Nat) : pairAt (setTimer s n t) q = pairAt s q := rfl
@[simp] theorem pairAt_setPmc (c : Nat) (x : PmcCore) (q : Nat) : pairAt (setPmc s c x) q = pairAt s q := rfl
@[simp] theorem pairAt_setPin (p : Nat) (x : Pin) (q : Nat) : pairAt (setPin s p x) q = pairAt s q := rfl
@[simp] theorem pairAt_setChry (g : Fin 8) (c : Chrysalis) (q : Nat) : pairAt (setChry s g c) q = pairAt s q := rfl
@[simp] theorem pairAt_setEng (e : Nat) (x : Engine) (q : Nat) : pairAt (setEng s e x) q = pairAt s q := rfl
@[simp] theorem pairAt_setCtx (e c : Nat) (x : Ctx) (q : Nat) : pairAt (setCtx s e c x) q = pairAt s q := rfl
@[simp] theorem pairAt_setCopy (i : Fin 3) (c : Copy) (q : Nat) : pairAt (setCopy s i c) q = pairAt s q := rfl
@[simp] theorem pairAt_onMem (f : Memory → Memory) (q : Nat) : pairAt (onMem s f) q = pairAt s q := rfl
@[simp] theorem pairAt_onCfg (f : Loader → Loader) (q : Nat) : pairAt (onCfg s f) q = pairAt s q := rfl
@[simp] theorem pairAt_onFab (f : Fabric → Fabric) (q : Nat) : pairAt (onFab s f) q = pairAt s q := rfl
@[simp] theorem pairAt_onPwr (f : Power → Power) (q : Nat) : pairAt (onPwr s f) q = pairAt s q := rfl
@[simp] theorem pairAt_onDbg (f : Debug → Debug) (q : Nat) : pairAt (onDbg s f) q = pairAt s q := rfl
@[simp] theorem pairAt_onNrg (g : Fin 8) (f : NrgGroup → NrgGroup) (q : Nat) : pairAt (onNrg s g f) q = pairAt s q := rfl
@[simp] theorem pairAt_onCore (p : Nat) (f : Core → Core) (q : Nat) : pairAt (onCore s p f) q = pairAt s q := rfl
@[simp] theorem pairAt_putProg (p w : Nat) (d : BitVec 56) (q : Nat) : pairAt (putProg s p w d) q = pairAt s q := rfl
@[simp] theorem pairAt_answer (w : Word) (q : Nat) : pairAt (answer s w) q = pairAt s q := rfl
@[simp] theorem link_setReg (off : Nat) (v : Word) (m : Nat) : link (setReg s off v) m = link s m := rfl
@[simp] theorem link_orReg (off : Nat) (v : Word) (m : Nat) : link (orReg s off v) m = link s m := rfl
@[simp] theorem link_clrReg (off : Nat) (v : Word) (m : Nat) : link (clrReg s off v) m = link s m := rfl
@[simp] theorem link_setItem (off i : Nat) (v : Word) (m : Nat) : link (setItem s off i v) m = link s m := rfl
@[simp] theorem link_bump (off : Nat) (m : Nat) : link (bump s off) m = link s m := rfl
@[simp] theorem link_satReg (off lo n : Nat) (m : Nat) : link (satReg s off lo n) m = link s m := rfl
@[simp] theorem link_setSpk (g : Nat) (sp : Spoke) (m : Nat) : link (setSpk s g sp) m = link s m := rfl
@[simp] theorem link_setChan (ch : Nat) (c : Chan) (m : Nat) : link (setChan s ch c) m = link s m := rfl
@[simp] theorem link_setPair (p : Nat) (x : Pair) (m : Nat) : link (setPair s p x) m = link s m := rfl
@[simp] theorem link_setLockEnt (i : Nat) (e : LockEntry) (m : Nat) : link (setLockEnt s i e) m = link s m := rfl
@[simp] theorem link_setAxis (n : Fin 17) (a : Axis) (m : Nat) : link (setAxis s n a) m = link s m := rfl
@[simp] theorem link_setEvt (c : Nat) (x : Comparator) (m : Nat) : link (setEvt s c x) m = link s m := rfl
@[simp] theorem link_setTimer (n : Fin 32) (t : Timer) (m : Nat) : link (setTimer s n t) m = link s m := rfl
@[simp] theorem link_setPmc (c : Nat) (x : PmcCore) (m : Nat) : link (setPmc s c x) m = link s m := rfl
@[simp] theorem link_setPin (p : Nat) (x : Pin) (m : Nat) : link (setPin s p x) m = link s m := rfl
@[simp] theorem link_setChry (g : Fin 8) (c : Chrysalis) (m : Nat) : link (setChry s g c) m = link s m := rfl
@[simp] theorem link_setEng (e : Nat) (x : Engine) (m : Nat) : link (setEng s e x) m = link s m := rfl
@[simp] theorem link_setCtx (e c : Nat) (x : Ctx) (m : Nat) : link (setCtx s e c x) m = link s m := rfl
@[simp] theorem link_setCopy (i : Fin 3) (c : Copy) (m : Nat) : link (setCopy s i c) m = link s m := rfl
@[simp] theorem link_onMem (f : Memory → Memory) (m : Nat) : link (onMem s f) m = link s m := rfl
@[simp] theorem link_onCfg (f : Loader → Loader) (m : Nat) : link (onCfg s f) m = link s m := rfl
@[simp] theorem link_onFab (f : Fabric → Fabric) (m : Nat) : link (onFab s f) m = link s m := rfl
@[simp] theorem link_onPwr (f : Power → Power) (m : Nat) : link (onPwr s f) m = link s m := rfl
@[simp] theorem link_onDbg (f : Debug → Debug) (m : Nat) : link (onDbg s f) m = link s m := rfl
@[simp] theorem link_onNrg (g : Fin 8) (f : NrgGroup → NrgGroup) (m : Nat) : link (onNrg s g f) m = link s m := rfl
@[simp] theorem link_onCore (p : Nat) (f : Core → Core) (m : Nat) : link (onCore s p f) m = link s m := rfl
@[simp] theorem link_putProg (p w : Nat) (d : BitVec 56) (m : Nat) : link (putProg s p w d) m = link s m := rfl
@[simp] theorem link_answer (w : Word) (m : Nat) : link (answer s w) m = link s m := rfl
@[simp] theorem axis_setReg (off : Nat) (v : Word) (m : Fin 17) : axis (setReg s off v) m = axis s m := rfl
@[simp] theorem axis_orReg (off : Nat) (v : Word) (m : Fin 17) : axis (orReg s off v) m = axis s m := rfl
@[simp] theorem axis_clrReg (off : Nat) (v : Word) (m : Fin 17) : axis (clrReg s off v) m = axis s m := rfl
@[simp] theorem axis_setItem (off i : Nat) (v : Word) (m : Fin 17) : axis (setItem s off i v) m = axis s m := rfl
@[simp] theorem axis_bump (off : Nat) (m : Fin 17) : axis (bump s off) m = axis s m := rfl
@[simp] theorem axis_satReg (off lo n : Nat) (m : Fin 17) : axis (satReg s off lo n) m = axis s m := rfl
@[simp] theorem axis_setSpk (g : Nat) (sp : Spoke) (m : Fin 17) : axis (setSpk s g sp) m = axis s m := rfl
@[simp] theorem axis_setChan (ch : Nat) (c : Chan) (m : Fin 17) : axis (setChan s ch c) m = axis s m := rfl
@[simp] theorem axis_setPair (p : Nat) (x : Pair) (m : Fin 17) : axis (setPair s p x) m = axis s m := rfl
@[simp] theorem axis_setLink (l : Nat) (k : Link) (m : Fin 17) : axis (setLink s l k) m = axis s m := rfl
@[simp] theorem axis_setLockEnt (i : Nat) (e : LockEntry) (m : Fin 17) : axis (setLockEnt s i e) m = axis s m := rfl
@[simp] theorem axis_setTimer (n : Fin 32) (t : Timer) (m : Fin 17) : axis (setTimer s n t) m = axis s m := rfl
@[simp] theorem axis_setPmc (c : Nat) (x : PmcCore) (m : Fin 17) : axis (setPmc s c x) m = axis s m := rfl
@[simp] theorem axis_setPin (p : Nat) (x : Pin) (m : Fin 17) : axis (setPin s p x) m = axis s m := rfl
@[simp] theorem axis_setChry (g : Fin 8) (c : Chrysalis) (m : Fin 17) : axis (setChry s g c) m = axis s m := rfl
@[simp] theorem axis_setEng (e : Nat) (x : Engine) (m : Fin 17) : axis (setEng s e x) m = axis s m := rfl
@[simp] theorem axis_setCtx (e c : Nat) (x : Ctx) (m : Fin 17) : axis (setCtx s e c x) m = axis s m := rfl
@[simp] theorem axis_setCopy (i : Fin 3) (c : Copy) (m : Fin 17) : axis (setCopy s i c) m = axis s m := rfl
@[simp] theorem axis_onMem (f : Memory → Memory) (m : Fin 17) : axis (onMem s f) m = axis s m := rfl
@[simp] theorem axis_onCfg (f : Loader → Loader) (m : Fin 17) : axis (onCfg s f) m = axis s m := rfl
@[simp] theorem axis_onFab (f : Fabric → Fabric) (m : Fin 17) : axis (onFab s f) m = axis s m := rfl
@[simp] theorem axis_onPwr (f : Power → Power) (m : Fin 17) : axis (onPwr s f) m = axis s m := rfl
@[simp] theorem axis_onDbg (f : Debug → Debug) (m : Fin 17) : axis (onDbg s f) m = axis s m := rfl
@[simp] theorem axis_onNrg (g : Fin 8) (f : NrgGroup → NrgGroup) (m : Fin 17) : axis (onNrg s g f) m = axis s m := rfl
@[simp] theorem axis_onCore (p : Nat) (f : Core → Core) (m : Fin 17) : axis (onCore s p f) m = axis s m := rfl
@[simp] theorem axis_putProg (p w : Nat) (d : BitVec 56) (m : Fin 17) : axis (putProg s p w d) m = axis s m := rfl
@[simp] theorem axis_answer (w : Word) (m : Fin 17) : axis (answer s w) m = axis s m := rfl
@[simp] theorem evt_setReg (off : Nat) (v : Word) (m : Nat) : evt (setReg s off v) m = evt s m := rfl
@[simp] theorem evt_orReg (off : Nat) (v : Word) (m : Nat) : evt (orReg s off v) m = evt s m := rfl
@[simp] theorem evt_clrReg (off : Nat) (v : Word) (m : Nat) : evt (clrReg s off v) m = evt s m := rfl
@[simp] theorem evt_setItem (off i : Nat) (v : Word) (m : Nat) : evt (setItem s off i v) m = evt s m := rfl
@[simp] theorem evt_bump (off : Nat) (m : Nat) : evt (bump s off) m = evt s m := rfl
@[simp] theorem evt_satReg (off lo n : Nat) (m : Nat) : evt (satReg s off lo n) m = evt s m := rfl
@[simp] theorem evt_setSpk (g : Nat) (sp : Spoke) (m : Nat) : evt (setSpk s g sp) m = evt s m := rfl
@[simp] theorem evt_setChan (ch : Nat) (c : Chan) (m : Nat) : evt (setChan s ch c) m = evt s m := rfl
@[simp] theorem evt_setPair (p : Nat) (x : Pair) (m : Nat) : evt (setPair s p x) m = evt s m := rfl
@[simp] theorem evt_setLink (l : Nat) (k : Link) (m : Nat) : evt (setLink s l k) m = evt s m := rfl
@[simp] theorem evt_setLockEnt (i : Nat) (e : LockEntry) (m : Nat) : evt (setLockEnt s i e) m = evt s m := rfl
@[simp] theorem evt_setTimer (n : Fin 32) (t : Timer) (m : Nat) : evt (setTimer s n t) m = evt s m := rfl
@[simp] theorem evt_setPmc (c : Nat) (x : PmcCore) (m : Nat) : evt (setPmc s c x) m = evt s m := rfl
@[simp] theorem evt_setPin (p : Nat) (x : Pin) (m : Nat) : evt (setPin s p x) m = evt s m := rfl
@[simp] theorem evt_setChry (g : Fin 8) (c : Chrysalis) (m : Nat) : evt (setChry s g c) m = evt s m := rfl
@[simp] theorem evt_setEng (e : Nat) (x : Engine) (m : Nat) : evt (setEng s e x) m = evt s m := rfl
@[simp] theorem evt_setCtx (e c : Nat) (x : Ctx) (m : Nat) : evt (setCtx s e c x) m = evt s m := rfl
@[simp] theorem evt_setCopy (i : Fin 3) (c : Copy) (m : Nat) : evt (setCopy s i c) m = evt s m := rfl
@[simp] theorem evt_onMem (f : Memory → Memory) (m : Nat) : evt (onMem s f) m = evt s m := rfl
@[simp] theorem evt_onCfg (f : Loader → Loader) (m : Nat) : evt (onCfg s f) m = evt s m := rfl
@[simp] theorem evt_onFab (f : Fabric → Fabric) (m : Nat) : evt (onFab s f) m = evt s m := rfl
@[simp] theorem evt_onPwr (f : Power → Power) (m : Nat) : evt (onPwr s f) m = evt s m := rfl
@[simp] theorem evt_onDbg (f : Debug → Debug) (m : Nat) : evt (onDbg s f) m = evt s m := rfl
@[simp] theorem evt_onNrg (g : Fin 8) (f : NrgGroup → NrgGroup) (m : Nat) : evt (onNrg s g f) m = evt s m := rfl
@[simp] theorem evt_onCore (p : Nat) (f : Core → Core) (m : Nat) : evt (onCore s p f) m = evt s m := rfl
@[simp] theorem evt_putProg (p w : Nat) (d : BitVec 56) (m : Nat) : evt (putProg s p w d) m = evt s m := rfl
@[simp] theorem evt_answer (w : Word) (m : Nat) : evt (answer s w) m = evt s m := rfl
@[simp] theorem timer_setReg (off : Nat) (v : Word) (m : Fin 32) : timer (setReg s off v) m = timer s m := rfl
@[simp] theorem timer_orReg (off : Nat) (v : Word) (m : Fin 32) : timer (orReg s off v) m = timer s m := rfl
@[simp] theorem timer_clrReg (off : Nat) (v : Word) (m : Fin 32) : timer (clrReg s off v) m = timer s m := rfl
@[simp] theorem timer_setItem (off i : Nat) (v : Word) (m : Fin 32) : timer (setItem s off i v) m = timer s m := rfl
@[simp] theorem timer_bump (off : Nat) (m : Fin 32) : timer (bump s off) m = timer s m := rfl
@[simp] theorem timer_satReg (off lo n : Nat) (m : Fin 32) : timer (satReg s off lo n) m = timer s m := rfl
@[simp] theorem timer_setSpk (g : Nat) (sp : Spoke) (m : Fin 32) : timer (setSpk s g sp) m = timer s m := rfl
@[simp] theorem timer_setChan (ch : Nat) (c : Chan) (m : Fin 32) : timer (setChan s ch c) m = timer s m := rfl
@[simp] theorem timer_setPair (p : Nat) (x : Pair) (m : Fin 32) : timer (setPair s p x) m = timer s m := rfl
@[simp] theorem timer_setLink (l : Nat) (k : Link) (m : Fin 32) : timer (setLink s l k) m = timer s m := rfl
@[simp] theorem timer_setLockEnt (i : Nat) (e : LockEntry) (m : Fin 32) : timer (setLockEnt s i e) m = timer s m := rfl
@[simp] theorem timer_setAxis (n : Fin 17) (a : Axis) (m : Fin 32) : timer (setAxis s n a) m = timer s m := rfl
@[simp] theorem timer_setEvt (c : Nat) (x : Comparator) (m : Fin 32) : timer (setEvt s c x) m = timer s m := rfl
@[simp] theorem timer_setPmc (c : Nat) (x : PmcCore) (m : Fin 32) : timer (setPmc s c x) m = timer s m := rfl
@[simp] theorem timer_setPin (p : Nat) (x : Pin) (m : Fin 32) : timer (setPin s p x) m = timer s m := rfl
@[simp] theorem timer_setChry (g : Fin 8) (c : Chrysalis) (m : Fin 32) : timer (setChry s g c) m = timer s m := rfl
@[simp] theorem timer_setEng (e : Nat) (x : Engine) (m : Fin 32) : timer (setEng s e x) m = timer s m := rfl
@[simp] theorem timer_setCtx (e c : Nat) (x : Ctx) (m : Fin 32) : timer (setCtx s e c x) m = timer s m := rfl
@[simp] theorem timer_setCopy (i : Fin 3) (c : Copy) (m : Fin 32) : timer (setCopy s i c) m = timer s m := rfl
@[simp] theorem timer_onMem (f : Memory → Memory) (m : Fin 32) : timer (onMem s f) m = timer s m := rfl
@[simp] theorem timer_onCfg (f : Loader → Loader) (m : Fin 32) : timer (onCfg s f) m = timer s m := rfl
@[simp] theorem timer_onFab (f : Fabric → Fabric) (m : Fin 32) : timer (onFab s f) m = timer s m := rfl
@[simp] theorem timer_onPwr (f : Power → Power) (m : Fin 32) : timer (onPwr s f) m = timer s m := rfl
@[simp] theorem timer_onDbg (f : Debug → Debug) (m : Fin 32) : timer (onDbg s f) m = timer s m := rfl
@[simp] theorem timer_onNrg (g : Fin 8) (f : NrgGroup → NrgGroup) (m : Fin 32) : timer (onNrg s g f) m = timer s m := rfl
@[simp] theorem timer_onCore (p : Nat) (f : Core → Core) (m : Fin 32) : timer (onCore s p f) m = timer s m := rfl
@[simp] theorem timer_putProg (p w : Nat) (d : BitVec 56) (m : Fin 32) : timer (putProg s p w d) m = timer s m := rfl
@[simp] theorem timer_answer (w : Word) (m : Fin 32) : timer (answer s w) m = timer s m := rfl
@[simp] theorem pmcCore_setReg (off : Nat) (v : Word) (m : Nat) : pmcCore (setReg s off v) m = pmcCore s m := rfl
@[simp] theorem pmcCore_orReg (off : Nat) (v : Word) (m : Nat) : pmcCore (orReg s off v) m = pmcCore s m := rfl
@[simp] theorem pmcCore_clrReg (off : Nat) (v : Word) (m : Nat) : pmcCore (clrReg s off v) m = pmcCore s m := rfl
@[simp] theorem pmcCore_setItem (off i : Nat) (v : Word) (m : Nat) : pmcCore (setItem s off i v) m = pmcCore s m := rfl
@[simp] theorem pmcCore_bump (off : Nat) (m : Nat) : pmcCore (bump s off) m = pmcCore s m := rfl
@[simp] theorem pmcCore_satReg (off lo n : Nat) (m : Nat) : pmcCore (satReg s off lo n) m = pmcCore s m := rfl
@[simp] theorem pmcCore_setSpk (g : Nat) (sp : Spoke) (m : Nat) : pmcCore (setSpk s g sp) m = pmcCore s m := rfl
@[simp] theorem pmcCore_setChan (ch : Nat) (c : Chan) (m : Nat) : pmcCore (setChan s ch c) m = pmcCore s m := rfl
@[simp] theorem pmcCore_setPair (p : Nat) (x : Pair) (m : Nat) : pmcCore (setPair s p x) m = pmcCore s m := rfl
@[simp] theorem pmcCore_setLink (l : Nat) (k : Link) (m : Nat) : pmcCore (setLink s l k) m = pmcCore s m := rfl
@[simp] theorem pmcCore_setLockEnt (i : Nat) (e : LockEntry) (m : Nat) : pmcCore (setLockEnt s i e) m = pmcCore s m := rfl
@[simp] theorem pmcCore_setAxis (n : Fin 17) (a : Axis) (m : Nat) : pmcCore (setAxis s n a) m = pmcCore s m := rfl
@[simp] theorem pmcCore_setEvt (c : Nat) (x : Comparator) (m : Nat) : pmcCore (setEvt s c x) m = pmcCore s m := rfl
@[simp] theorem pmcCore_setTimer (n : Fin 32) (t : Timer) (m : Nat) : pmcCore (setTimer s n t) m = pmcCore s m := rfl
@[simp] theorem pmcCore_setPin (p : Nat) (x : Pin) (m : Nat) : pmcCore (setPin s p x) m = pmcCore s m := rfl
@[simp] theorem pmcCore_setChry (g : Fin 8) (c : Chrysalis) (m : Nat) : pmcCore (setChry s g c) m = pmcCore s m := rfl
@[simp] theorem pmcCore_setEng (e : Nat) (x : Engine) (m : Nat) : pmcCore (setEng s e x) m = pmcCore s m := rfl
@[simp] theorem pmcCore_setCtx (e c : Nat) (x : Ctx) (m : Nat) : pmcCore (setCtx s e c x) m = pmcCore s m := rfl
@[simp] theorem pmcCore_setCopy (i : Fin 3) (c : Copy) (m : Nat) : pmcCore (setCopy s i c) m = pmcCore s m := rfl
@[simp] theorem pmcCore_onMem (f : Memory → Memory) (m : Nat) : pmcCore (onMem s f) m = pmcCore s m := rfl
@[simp] theorem pmcCore_onCfg (f : Loader → Loader) (m : Nat) : pmcCore (onCfg s f) m = pmcCore s m := rfl
@[simp] theorem pmcCore_onFab (f : Fabric → Fabric) (m : Nat) : pmcCore (onFab s f) m = pmcCore s m := rfl
@[simp] theorem pmcCore_onPwr (f : Power → Power) (m : Nat) : pmcCore (onPwr s f) m = pmcCore s m := rfl
@[simp] theorem pmcCore_onDbg (f : Debug → Debug) (m : Nat) : pmcCore (onDbg s f) m = pmcCore s m := rfl
@[simp] theorem pmcCore_onNrg (g : Fin 8) (f : NrgGroup → NrgGroup) (m : Nat) : pmcCore (onNrg s g f) m = pmcCore s m := rfl
@[simp] theorem pmcCore_onCore (p : Nat) (f : Core → Core) (m : Nat) : pmcCore (onCore s p f) m = pmcCore s m := rfl
@[simp] theorem pmcCore_putProg (p w : Nat) (d : BitVec 56) (m : Nat) : pmcCore (putProg s p w d) m = pmcCore s m := rfl
@[simp] theorem pmcCore_answer (w : Word) (m : Nat) : pmcCore (answer s w) m = pmcCore s m := rfl
@[simp] theorem lockEnt_setReg (off : Nat) (v : Word) (j : Nat) : lockEnt (setReg s off v) j = lockEnt s j := rfl
@[simp] theorem lockEnt_orReg (off : Nat) (v : Word) (j : Nat) : lockEnt (orReg s off v) j = lockEnt s j := rfl
@[simp] theorem lockEnt_clrReg (off : Nat) (v : Word) (j : Nat) : lockEnt (clrReg s off v) j = lockEnt s j := rfl
@[simp] theorem lockEnt_setItem (off i : Nat) (v : Word) (j : Nat) : lockEnt (setItem s off i v) j = lockEnt s j := rfl
@[simp] theorem lockEnt_bump (off : Nat) (j : Nat) : lockEnt (bump s off) j = lockEnt s j := rfl
@[simp] theorem lockEnt_satReg (off lo n : Nat) (j : Nat) : lockEnt (satReg s off lo n) j = lockEnt s j := rfl
@[simp] theorem lockEnt_setSpk (g : Nat) (sp : Spoke) (j : Nat) : lockEnt (setSpk s g sp) j = lockEnt s j := rfl
@[simp] theorem lockEnt_setChan (ch : Nat) (c : Chan) (j : Nat) : lockEnt (setChan s ch c) j = lockEnt s j := rfl
@[simp] theorem lockEnt_setPair (p : Nat) (x : Pair) (j : Nat) : lockEnt (setPair s p x) j = lockEnt s j := rfl
@[simp] theorem lockEnt_setLink (l : Nat) (k : Link) (j : Nat) : lockEnt (setLink s l k) j = lockEnt s j := rfl
@[simp] theorem lockEnt_setAxis (n : Fin 17) (a : Axis) (j : Nat) : lockEnt (setAxis s n a) j = lockEnt s j := rfl
@[simp] theorem lockEnt_setEvt (c : Nat) (x : Comparator) (j : Nat) : lockEnt (setEvt s c x) j = lockEnt s j := rfl
@[simp] theorem lockEnt_setTimer (n : Fin 32) (t : Timer) (j : Nat) : lockEnt (setTimer s n t) j = lockEnt s j := rfl
@[simp] theorem lockEnt_setPmc (c : Nat) (x : PmcCore) (j : Nat) : lockEnt (setPmc s c x) j = lockEnt s j := rfl
@[simp] theorem lockEnt_setPin (p : Nat) (x : Pin) (j : Nat) : lockEnt (setPin s p x) j = lockEnt s j := rfl
@[simp] theorem lockEnt_setChry (g : Fin 8) (c : Chrysalis) (j : Nat) : lockEnt (setChry s g c) j = lockEnt s j := rfl
@[simp] theorem lockEnt_setEng (e : Nat) (x : Engine) (j : Nat) : lockEnt (setEng s e x) j = lockEnt s j := rfl
@[simp] theorem lockEnt_setCtx (e c : Nat) (x : Ctx) (j : Nat) : lockEnt (setCtx s e c x) j = lockEnt s j := rfl
@[simp] theorem lockEnt_setCopy (i : Fin 3) (c : Copy) (j : Nat) : lockEnt (setCopy s i c) j = lockEnt s j := rfl
@[simp] theorem lockEnt_onMem (f : Memory → Memory) (j : Nat) : lockEnt (onMem s f) j = lockEnt s j := rfl
@[simp] theorem lockEnt_onCfg (f : Loader → Loader) (j : Nat) : lockEnt (onCfg s f) j = lockEnt s j := rfl
@[simp] theorem lockEnt_onFab (f : Fabric → Fabric) (j : Nat) : lockEnt (onFab s f) j = lockEnt s j := rfl
@[simp] theorem lockEnt_onPwr (f : Power → Power) (j : Nat) : lockEnt (onPwr s f) j = lockEnt s j := rfl
@[simp] theorem lockEnt_onDbg (f : Debug → Debug) (j : Nat) : lockEnt (onDbg s f) j = lockEnt s j := rfl
@[simp] theorem lockEnt_onNrg (g : Fin 8) (f : NrgGroup → NrgGroup) (j : Nat) : lockEnt (onNrg s g f) j = lockEnt s j := rfl
@[simp] theorem lockEnt_onCore (p : Nat) (f : Core → Core) (j : Nat) : lockEnt (onCore s p f) j = lockEnt s j := rfl
@[simp] theorem lockEnt_putProg (p w : Nat) (d : BitVec 56) (j : Nat) : lockEnt (putProg s p w d) j = lockEnt s j := rfl
@[simp] theorem lockEnt_answer (w : Word) (j : Nat) : lockEnt (answer s w) j = lockEnt s j := rfl
@[simp] theorem eng_setReg (off : Nat) (v : Word) (j : Nat) : eng (setReg s off v) j = eng s j := rfl
@[simp] theorem eng_orReg (off : Nat) (v : Word) (j : Nat) : eng (orReg s off v) j = eng s j := rfl
@[simp] theorem eng_clrReg (off : Nat) (v : Word) (j : Nat) : eng (clrReg s off v) j = eng s j := rfl
@[simp] theorem eng_setItem (off i : Nat) (v : Word) (j : Nat) : eng (setItem s off i v) j = eng s j := rfl
@[simp] theorem eng_bump (off : Nat) (j : Nat) : eng (bump s off) j = eng s j := rfl
@[simp] theorem eng_satReg (off lo n : Nat) (j : Nat) : eng (satReg s off lo n) j = eng s j := rfl
@[simp] theorem eng_setSpk (g : Nat) (sp : Spoke) (j : Nat) : eng (setSpk s g sp) j = eng s j := rfl
@[simp] theorem eng_setChan (ch : Nat) (c : Chan) (j : Nat) : eng (setChan s ch c) j = eng s j := rfl
@[simp] theorem eng_setPair (p : Nat) (x : Pair) (j : Nat) : eng (setPair s p x) j = eng s j := rfl
@[simp] theorem eng_setLink (l : Nat) (k : Link) (j : Nat) : eng (setLink s l k) j = eng s j := rfl
@[simp] theorem eng_setLockEnt (i : Nat) (e : LockEntry) (j : Nat) : eng (setLockEnt s i e) j = eng s j := rfl
@[simp] theorem eng_setAxis (n : Fin 17) (a : Axis) (j : Nat) : eng (setAxis s n a) j = eng s j := rfl
@[simp] theorem eng_setEvt (c : Nat) (x : Comparator) (j : Nat) : eng (setEvt s c x) j = eng s j := rfl
@[simp] theorem eng_setTimer (n : Fin 32) (t : Timer) (j : Nat) : eng (setTimer s n t) j = eng s j := rfl
@[simp] theorem eng_setPmc (c : Nat) (x : PmcCore) (j : Nat) : eng (setPmc s c x) j = eng s j := rfl
@[simp] theorem eng_setChry (g : Fin 8) (c : Chrysalis) (j : Nat) : eng (setChry s g c) j = eng s j := rfl
@[simp] theorem eng_setCopy (i : Fin 3) (c : Copy) (j : Nat) : eng (setCopy s i c) j = eng s j := rfl
@[simp] theorem eng_onMem (f : Memory → Memory) (j : Nat) : eng (onMem s f) j = eng s j := rfl
@[simp] theorem eng_onCfg (f : Loader → Loader) (j : Nat) : eng (onCfg s f) j = eng s j := rfl
@[simp] theorem eng_onFab (f : Fabric → Fabric) (j : Nat) : eng (onFab s f) j = eng s j := rfl
@[simp] theorem eng_onPwr (f : Power → Power) (j : Nat) : eng (onPwr s f) j = eng s j := rfl
@[simp] theorem eng_onDbg (f : Debug → Debug) (j : Nat) : eng (onDbg s f) j = eng s j := rfl
@[simp] theorem eng_onNrg (g : Fin 8) (f : NrgGroup → NrgGroup) (j : Nat) : eng (onNrg s g f) j = eng s j := rfl
@[simp] theorem eng_onCore (p : Nat) (f : Core → Core) (j : Nat) : eng (onCore s p f) j = eng s j := rfl
@[simp] theorem eng_putProg (p w : Nat) (d : BitVec 56) (j : Nat) : eng (putProg s p w d) j = eng s j := rfl
@[simp] theorem eng_answer (w : Word) (j : Nat) : eng (answer s w) j = eng s j := rfl
@[simp] theorem spk_setSpk (g h : Nat) (x : Spoke) : spk (setSpk s g x) h = if h = g then x else spk s h := by simp only [spk, setSpk, tget_tput]
@[simp] theorem chan_setChan (g h : Nat) (x : Chan) : chan (setChan s g x) h = if h = g then x else chan s h := by simp only [chan, setChan, tget_tput]
@[simp] theorem pairAt_setPair (g h : Nat) (x : Pair) : pairAt (setPair s g x) h = if h = g then x else pairAt s h := by simp only [pairAt, setPair, tget_tput]
@[simp] theorem evt_setEvt (g h : Nat) (x : Comparator) : evt (setEvt s g x) h = if h = g then x else evt s h := by simp only [evt, setEvt, tget_tput]
@[simp] theorem link_setLink (g h : Nat) (x : Link) : link (setLink s g x) h = if h = g then x else link s h := by simp only [link, setLink, tget_tput]
@[simp] theorem pmcCore_setPmc (g h : Nat) (x : PmcCore) : pmcCore (setPmc s g x) h = if h = g then x else pmcCore s h := by simp only [pmcCore, setPmc, tget_tput]
@[simp] theorem axis_setAxis_self (n : Fin 17) (a : Axis) : axis (setAxis s n a) n = a := by simp [axis, setAxis]
theorem axis_setAxis_ne (n m : Fin 17) (a : Axis) (h : m ≠ n) : axis (setAxis s n a) m = axis s m := by
  have : n.val ≠ m.val := fun e => h (Fin.ext e.symm)
  simp [axis, setAxis, Vector.getElem_set, this]
@[simp] theorem timer_setTimer_self (n : Fin 32) (t : Timer) : timer (setTimer s n t) n = t := by simp [timer, setTimer]
theorem timer_setTimer_ne (n m : Fin 32) (t : Timer) (h : m ≠ n) : timer (setTimer s n t) m = timer s m := by
  have : n.val ≠ m.val := fun e => h (Fin.ext e.symm)
  simp [timer, setTimer, Vector.getElem_set, this]

end Sys2Proof.Laws
end

