-- ==== Sys2Proof/Laws/Spoke.lean ====
section
/-! SUPPORT. What one instruction of a spoke that stands alone does: what it completes with, and what it leaves unchanged. -/
namespace Sys2Proof
open Sys2Proof.Machine

/-! ## What counts, and nothing else -/

theorem Counts.refl (s : State) : Counts s s := ⟨rfl, fun p => ⟨_, _, _, rfl⟩⟩

theorem Counts.trans {a b c : State} (h : Counts a b) (k : Counts b c) : Counts a c := by
  refine ⟨k.1.trans (by rw [h.1]), fun p => ?_⟩
  obtain ⟨x, y, u, e⟩ := h.2 p
  obtain ⟨x', y', u', e'⟩ := k.2 p
  exact ⟨x', y', u', by rw [e', e]⟩

theorem Counts.spk {s t : State} (h : Counts s t) (k : Nat) : Sys2Proof.Machine.spk t k = Sys2Proof.Machine.spk s k := by
  rw [h.1]; rfl

end Sys2Proof

namespace Sys2Proof.Laws
open Sys2Proof.Machine

variable {s : State} {g : Nat}

theorem counts_pmc (s : State) (p : Pmc) : Counts s { s with pmc := p } := ⟨rfl, fun _ => ⟨_, _, _, rfl⟩⟩

theorem pmcEvent_counts (s : State) (c k : Nat) (w : Bool) (j : Nat) : Counts s (pmcEvent s c k w j) := by
  unfold pmcEvent
  dsimp only
  split
  · exact counts_pmc _ _
  · exact Counts.refl s

theorem spokeEvent_counts (s : State) (g k : Nat) : Counts s (spokeEvent s g k) := pmcEvent_counts _ _ _ _ _

/-- A core whose slots or last grants change. -/
theorem onCore_counts (s : State) (p : Nat) (f : Core → Core)
    (h : ∀ k, ∃ a b u, f k = { k with lastA := a, lastB := b, used := u }) : Counts s (onCore s p f) := by
  refine ⟨rfl, fun q => ?_⟩
  simp only [onCore, Fin.getElem_fin, Vector.getElem_mapIdx]
  split
  · exact h _
  · exact ⟨_, _, _, rfl⟩

theorem useSlot_counts (s : State) (g : Nat) (e : Bool) : Counts s (useSlot s g e) := onCore_counts _ _ _ fun _ => ⟨_, _, _, rfl⟩

theorem noteGrant_counts (s : State) (g : Nat) : Counts s (noteGrant s g) := by
  unfold noteGrant
  dsimp only
  split
  · have h : Counts s (onCore s (physCore s (coreOf g)) fun k =>
        if (spk s g).poolB then { k with lastB := g % 32 } else { k with lastA := g % 32 }) :=
      onCore_counts s _ _ fun k => by split <;> exact ⟨_, _, _, rfl⟩
    generalize onCore s _ _ = t at h ⊢
    split
    · exact h.trans (spokeEvent_counts _ _ _)
    · exact h
  · exact Counts.refl s

theorem countRetired_counts (s : State) (g : Nat) : Counts s (countRetired s g) := by
  unfold countRetired
  split
  · exact Counts.refl s
  · dsimp only
    split
    · exact (spokeEvent_counts _ _ _).trans (spokeEvent_counts _ _ _)
    · exact spokeEvent_counts _ _ _

/-- The retirement of an instruction counts and changes nothing else. -/
theorem retire_counts (s : State) (g : Nat) : Counts s (retire s g) := (useSlot_counts _ _ _).trans (countRetired_counts _ _)

@[simp] theorem spk_spokeEvent (s : State) (g k h : Nat) : spk (spokeEvent s g k) h = spk s h := (spokeEvent_counts s g k).spk h
@[simp] theorem spk_useSlot (s : State) (g h : Nat) (e : Bool) : spk (useSlot s g e) h = spk s h := (useSlot_counts s g e).spk h
@[simp] theorem spk_noteGrant (s : State) (g h : Nat) : spk (noteGrant s g) h = spk s h := (noteGrant_counts s g).spk h
@[simp] theorem spk_retire (s : State) (g h : Nat) : spk (retire s g) h = spk s h := (retire_counts s g).spk h

theorem onlySpoke_set {t : State} (h : Counts s t) (g : Nat) (sp : Spoke) : OnlySpoke s (setSpk t g sp) g := by
  refine ⟨?_, ⟨?_, h.2⟩, fun k hk => ?_⟩
  · rw [h.1]; rfl
  · rw [h.1]; rfl
  · rw [spk_setSpk, if_neg hk]; exact h.spk k

/-! ## A spoke that stands alone -/

/-- It completes a unit: its registers, its PC, and what counts. -/
theorem finish_alone {t : State} (ht : Counts s t) (sp : Spoke) (n : Nat) (hp : sp.pair = none) (hs : sp.slot = none)
    (hr : repn sp.tsw = 0) (hq : sp.req = none) (hpc : sp.pc = (spk s g).pc) : Completed s (finish t g sp n) g n sp := by
  have e : finish t g sp n = setSpk (retire t g) g { sp with pc := sp.pc + BitVec.ofNat 18 n } := by
    unfold finish advance
    simp only [endUnit, hs, hr, ne_eq, not_true_eq_false, if_false]
    simp [pairUnit, member, hp, settle, front, hq]
  rw [e]
  exact ⟨onlySpoke_set (ht.trans (retire_counts t g)) g _, by simp [hpc]⟩

/-- No comparator is set up: nothing is watched. -/
theorem watch_none (s : State) (g k : Nat) (l : Look) (h : s.dbg.cmps = []) : watch s g k l = s := by
  simp [watch, h]

/-- Where no register has bad parity there is none to mend. -/
theorem mend_sound (t : State) (i : Ins) (a : Act) (h : (spk t g).badRegs = []) : mend t g i a = t := by
  unfold mend; split
  · rfl
  · simp [h]

theorem startUnit_alone (sp : Spoke) (h : repn sp.tsw = 0) : startUnit sp = sp := by simp [startUnit, h]

/-- The instruction of a spoke that stands alone reaches EX and is carried out. -/
theorem issue_alone (h : Alone s g) (i : Ins) (hn : i.parcels ≤ 2) :
    issue s g i = mend (watchAct (doAct (setSpk (noteGrant s g) g (spk s g)) g (spk s g) i.parcels (i.run (noteGrant s g) g (spk s g)))
      g (spk s g).pc (i.run (noteGrant s g) g (spk s g))) g i (i.run (noteGrant s g) g (spk s g)) := by
  have hr := h.room
  have hg : gateFull s g = false := by simp [gateFull, member, h.solo]
  have hst : (spk s g).st = .run := by
    have := h.can; unfold canIssue at this; simp only [Bool.and_eq_true, beq_iff_eq] at this; exact this.1.1.1.1.1.2
  have hs : stalls (spk s g) i = false := by
    simp only [stalls, List.any_eq_false]
    intro r _
    cases r <;> simp [regPending, pendingBit, h.noFlight, h.noStuck]
  have hl : linked (spk s g) i.parcels = spk s g := by simp [linked, h.noSlot]
  have ha : atEx (spk s g) i (i.run (noteGrant s g) g (spk s g)) = i.run (noteGrant s g) g (spk s g) := by
    simp only [atEx, h.noRep]
    split
    · rfl
    · rw [if_neg (by simp), if_neg (by omega)]
  have hb : badRead (spk s g) i = false := by simp [badRead, h.soundRegs]
  have hm : ∀ a, astray (setSpk (noteGrant s g) g (spk s g)) g a = none := fun a => by simp [astray, member, h.solo]
  have hm' : ∀ a, astray (noteGrant s g) g a = none := fun a => by simp [astray, member, h.solo]
  simp only [issue, h.can, h.noSlot, watch_none _ _ _ _ h.noCmp]
  rw [if_neg (by simp), if_neg (by omega), if_neg (by simp [hst])]
  simp only [execute, h.noSlot, hs, hg, hl, startUnit_alone _ h.noRep, ha, hb, hm']
  simp

theorem onlySpoke_setSpk {t : State} (sp : Spoke) (h : OnlySpoke (setSpk s g sp) t g) : OnlySpoke s t g := by
  refine ⟨h.1.trans rfl, h.2.1, fun k hk => ?_⟩
  rw [h.2.2 k hk]; simp [hk]

/-- An instruction on registers alone completes: one statement for all of them. -/
theorem issue_done (h : Alone s g) (i : Ins) (hn : i.parcels ≤ 2) (sp : Spoke) (hi : i.run (noteGrant s g) g (spk s g) = .done sp)
    (hp : sp.pair = none) (hs : sp.slot = none) (hr : repn sp.tsw = 0) (hq : sp.req = none) (hb : sp.badRegs = [])
    (hpc : sp.pc = (spk s g).pc) : Completed s (issue s g i) g i.parcels sp := by
  rw [issue_alone h i hn, hi]
  have hc : Counts (setSpk s g (spk s g)) (setSpk (noteGrant s g) g (spk s g)) := by
    have := noteGrant_counts s g
    exact ⟨by rw [this.1]; rfl, this.2⟩
  have := finish_alone (g := g) hc sp i.parcels hp hs hr hq (by simpa using hpc)
  have e : mend (watchAct (doAct (setSpk (noteGrant s g) g (spk s g)) g (spk s g) i.parcels (.done sp)) g (spk s g).pc (.done sp)) g i
      (.done sp) = finish (setSpk (noteGrant s g) g (spk s g)) g sp i.parcels := by
    exact mend_sound _ i _ ((congrArg Spoke.badRegs this.2).trans hb)
  rw [e]
  exact ⟨onlySpoke_setSpk _ this.1, by simpa using this.2⟩

theorem wg_eq (sp : Spoke) (rd : GReg) (w : Word) : wg sp rd w = { sp with g := gSet sp rd w } := by
  unfold wg gSet; split <;> rfl

theorem put_eq (sp : Spoke) (rd : GReg) (r : RF) : put sp rd r = { sp with tsw := r.2, g := gSet sp rd r.1 } := by
  simp only [put, wg_eq]; rfl

/-- An instruction on g, a, v and s registers and TSW completes. -/
theorem issue_regs (h : Alone s g) (i : Ins) (hn : i.parcels ≤ 2) (t : Word) (gs : Vector Word 16) (as : Vector Acc 4)
    (vs : Vector MemWord 8) (ss : Vector (BitVec 64) 8)
    (hi : i.run (noteGrant s g) g (spk s g) = .done { spk s g with tsw := t, g := gs, a := as, v := vs, s := ss })
    (hr : repn t = repn (spk s g).tsw) :
    Completed s (issue s g i) g i.parcels { spk s g with tsw := t, g := gs, a := as, v := vs, s := ss } :=
  issue_done h i hn _ hi h.solo h.noSlot (hr.trans h.noRep) h.noReq h.soundRegs rfl

/-- The same for an instruction on registers alone. -/
theorem run_regs (h : Alone s g) (n : Nat) (hn : n ≤ 2) (rs ws : List SpokeReg) (f : Spoke → Spoke) (t : Word)
    (gs : Vector Word 16) (as : Vector Acc 4) (vs : Vector MemWord 8) (ss : Vector (BitVec 64) 8)
    (hf : f (spk s g) = { spk s g with tsw := t, g := gs, a := as, v := vs, s := ss }) (hr : repn t = repn (spk s g).tsw) :
    Completed s (issue s g (regs n rs ws f)) g n { spk s g with tsw := t, g := gs, a := as, v := vs, s := ss } :=
  issue_regs h (regs n rs ws f) hn t gs as vs ss (by simp only [regs, hf]) hr

end Sys2Proof.Laws
end

