-- ==== Sys2Proof/Laws/Stop.lean ====
section
/-! SUPPORT. What stopping and faulting a spoke do to the spokes, and what they leave unchanged. -/
namespace Sys2Proof.Laws
open Sys2Proof.Machine

variable {s : State} {g : Nat}

/-- Two spokes that differ in urgency alone. -/
def SameButUrgent (a b : Spoke) : Prop := ∃ u d, b = { a with urgent := u, urgeDue := d }

theorem SameButUrgent.refl (a : Spoke) : SameButUrgent a a := ⟨a.urgent, a.urgeDue, rfl⟩
theorem SameButUrgent.trans {a b c : Spoke} : SameButUrgent a b → SameButUrgent b c → SameButUrgent a c := by
  rintro ⟨u, d, rfl⟩ ⟨v, e, rfl⟩; exact ⟨v, e, rfl⟩

/-- What a fold of steps that keep a property of a state keeps. -/
theorem foldl_inv {α β : Type} (P : β → Prop) (f : β → α → β) (h : ∀ s x, P s → P (f s x)) (l : List α) (s : β) (h0 : P s) :
    P (l.foldl f s) := by
  induction l generalizing s with
  | nil => exact h0
  | cons x l ih => exact ih _ (h _ _ h0)

/-- From s to t channels, reports, locks, the peloton, the pairs and the log may move; spokes keep all but their urgency. -/
structure Mild (s t : State) : Prop where
  spk : ∀ h, SameButUrgent (spk s h) (spk t h)
  mem : t.mem = s.mem
  progs : t.progs = s.progs
  cores : t.cores = s.cores
  cad : t.cad = s.cad
  cfg : t.cfg = s.cfg
  dbg : t.dbg = s.dbg
  coreReset : t.coreReset = s.coreReset
  released : t.released = s.released
  pending : t.pending = s.pending

theorem mild_refl (s : State) : Mild s s := ⟨fun _ => .refl _, rfl, rfl, rfl, rfl, rfl, rfl, rfl, rfl, rfl⟩
theorem Mild.trans {a b c : State} (h : Mild a b) (k : Mild b c) : Mild a c :=
  ⟨fun x => (h.spk x).trans (k.spk x), k.mem.trans h.mem, k.progs.trans h.progs, k.cores.trans h.cores, k.cad.trans h.cad,
    k.cfg.trans h.cfg, k.dbg.trans h.dbg, k.coreReset.trans h.coreReset, k.released.trans h.released, k.pending.trans h.pending⟩

/-- A state that differs in none of these fields. -/
theorem mild_of {s t : State} (h : t = { s with
    bc := t.bc, regs := t.regs, chans := t.chans, sysBuf := t.sysBuf, dl := t.dl, avl := t.avl, lck := t.lck, fab := t.fab,
    pmc := t.pmc, str := t.str, host := t.host, free := t.free }) : Mild s t := by
  rw [h]; exact ⟨fun _ => .refl _, rfl, rfl, rfl, rfl, rfl, rfl, rfl, rfl, rfl⟩

theorem mild_urgent (s : State) (g : Nat) (u d : Bool) : Mild s (setSpk s g { spk s g with urgent := u, urgeDue := d }) := by
  refine ⟨fun h => ?_, rfl, rfl, rfl, rfl, rfl, rfl, rfl, rfl, rfl⟩
  rw [spk_setSpk]; split
  · subst h; exact ⟨u, d, rfl⟩
  · exact .refl _

theorem mild_foldl {α : Type} (f : State → α → State) (h : ∀ s x, Mild s (f s x)) (l : List α) (s : State) : Mild s (l.foldl f s) :=
  foldl_inv (Mild s) f (fun t x ht => ht.trans (h t x)) l s (mild_refl s)

theorem calm_mild (s : State) (g : Nat) : Mild s (calm s g) := by
  unfold calm; split
  · exact mild_foldl _ (fun t h => mild_urgent t h false false) _ _
  · exact mild_refl s

theorem urge_mild (s : State) (e : Endpoint) : Mild s (urge s e) := by
  unfold urge; dsimp only; split
  · split
    · exact mild_urgent s _ _ _
    · exact mild_urgent s _ _ _
  · exact mild_refl s

theorem pushWords_mild (s : State) (ch : Nat) (ws : List ChanWord) : Mild s (pushWords s ch ws) := by
  have h : ∀ c, Mild s (setChan s ch c) := fun c => mild_of rfl
  unfold pushWords
  dsimp only
  generalize (if (chan s ch).rdisc = true then discardRest ws else (ws, false)) = r
  split
  · exact (h _).trans (urge_mild _ _)
  · exact h _

theorem truncateStaging_mild (s : State) (ch : Nat) : Mild s (truncateStaging s ch) := by
  unfold truncateStaging
  dsimp only
  split
  · exact (mild_of (t := setChan s ch _) rfl).trans (pushWords_mild _ _ _)
  · exact mild_of rfl

theorem discardReader_mild (s : State) (ch : Nat) : Mild s (discardReader s ch) := mild_of rfl

theorem reportWord_mild (s : State) (cl : Nat) (w : Word) : Mild s (reportWord s cl w) := by
  unfold reportWord; dsimp only; split
  · exact pushWords_mild _ _ _
  · split <;> exact mild_of rfl

theorem report_mild (s : State) (kind code g : Nat) : Mild s (report s kind code g) := by
  unfold report; split
  · exact mild_refl s
  · exact reportWord_mild _ _ _

theorem bump_mild (s : State) (off : Nat) : Mild s (bump s off) := mild_of rfl
theorem orReg_mild (s : State) (off : Nat) (v : Word) : Mild s (orReg s off v) := mild_of rfl

theorem fabSpokeLost_mild (s : State) (g : Nat) : Mild s (fabSpokeLost s g) := by
  unfold fabSpokeLost; dsimp only; split
  · exact mild_refl s
  · refine ((orReg_mild s 0x1200C 0x10).trans (mild_foldl (fun s _ => bump s 0x12078) (fun t _ => bump_mild t _) _ _)).trans (mild_of rfl)

theorem noteLoss_mild (s : State) (w : BitVec 16) : Mild s (noteLoss s w) := by
  unfold noteLoss; split
  · exact mild_refl s
  · exact mild_of rfl

theorem abandon_mild (s : State) (g : Nat) : Mild s (abandon s g false) := by
  unfold abandon; dsimp only; simp only [Bool.false_eq_true, if_false]; split
  all_goals first | exact mild_refl s | exact mild_of rfl

theorem endEpisode_mild (s : State) (g : Nat) : Mild s (endEpisode s g) := by
  unfold endEpisode; split
  · exact mild_of rfl
  · exact mild_refl s

/-- A spoke enters a state: it and nothing else of the spokes changes, but for urgency. -/
theorem enter_mild (s : State) (g : Nat) (sp : Spoke) (st : SpokeState) : Mild (setSpk s g { sp with st := st }) (enter s g sp st) := by
  have h : ∀ t, Mild s t → Mild (setSpk s g { sp with st := st }) (setSpk t g { sp with st := st }) := by
    intro t h
    refine ⟨fun k => ?_, h.mem, h.progs, h.cores, h.cad, h.cfg, h.dbg, h.coreReset, h.released, h.pending⟩
    simp only [spk_setSpk]; split
    · exact .refl _
    · exact h.spk k
  have he : SameButUrgent { sp with st := st } { (if st = .run then becomeEligible sp else sp) with st := st } := by
    unfold becomeEligible; split
    · split
      · exact ⟨_, _, rfl⟩
      · exact .refl _
    · exact .refl _
  have h' : ∀ t, Mild s t →
      Mild (setSpk s g { sp with st := st }) (setSpk t g { (if st = .run then becomeEligible sp else sp) with st := st }) := by
    intro t k
    refine (h t k).trans ⟨fun x => ?_, rfl, rfl, rfl, rfl, rfl, rfl, rfl, rfl, rfl⟩
    simp only [spk_setSpk]; split
    · exact he
    · exact .refl _
  unfold enter; dsimp only
  generalize (if st = .run then becomeEligible sp else sp) = q at h' ⊢
  have h1 : Mild s (if sp.st = .blocked ∧ st ≠ .blocked then endEpisode s g else s) := by
    split
    · exact endEpisode_mild s g
    · exact mild_refl s
  split
  · exact (h' _ h1).trans (calm_mild _ _)
  · exact h' _ h1

theorem enter_spk (s : State) (g h : Nat) (sp : Spoke) (st : SpokeState) :
    SameButUrgent (if h = g then { sp with st := st } else spk s h) (spk (enter s g sp st) h) := by
  have := (enter_mild s g sp st).spk h; rwa [spk_setSpk] at this

theorem mild_set_set (s : State) (g : Nat) (a b : Spoke) : Mild (setSpk s g b) (setSpk (setSpk s g a) g b) := by
  refine ⟨fun k => ?_, rfl, rfl, rfl, rfl, rfl, rfl, rfl, rfl, rfl⟩
  simp only [spk_setSpk]; split <;> exact .refl _

/-- The spoke as a stop for a cause leaves it, but for its urgency. -/
def stoppedBy (sp : Spoke) (c : StopCause) : Spoke :=
  { sp with cause := c, wait := none, resv := none, req := none, slot := none, flight := [], st := .stopped }

/-- Where stopOne leads: the spoke is STOPPED with its cause and its registers as they were; the others keep all but their urgency. -/
theorem stopOne_mild (s : State) (g : Nat) (c : StopCause) :
    ∃ u d, Mild (setSpk s g { stoppedBy (spk s g) c with urgent := u, urgeDue := d }) (stopOne s g c) := by
  have ha := abandon_mild s g
  obtain ⟨u, d, hu⟩ := ha.spk g
  refine ⟨u, d, ?_⟩
  unfold stopOne
  dsimp only
  have he := enter_mild (abandon s g false) g
    { spk (abandon s g false) g with cause := c, wait := none, resv := none, req := none, slot := none, flight := [] } .stopped
  have hm : Mild (setSpk s g { stoppedBy (spk s g) c with urgent := u, urgeDue := d })
      (setSpk (abandon s g false) g { spk (abandon s g false) g with
        cause := c, wait := none, resv := none, req := none, slot := none, flight := [], st := .stopped }) := by
    refine ⟨fun k => ?_, ha.mem, ha.progs, ha.cores, ha.cad, ha.cfg, ha.dbg, ha.coreReset, ha.released, ha.pending⟩
    simp only [spk_setSpk, hu]; split
    · exact .refl _
    · exact ha.spk k
  refine (((hm.trans he).trans (mild_foldl _ truncateStaging_mild _ _)).trans (mild_foldl _ discardReader_mild _ _)).trans
    ((fabSpokeLost_mild _ _).trans (noteLoss_mild _ _))

/-- The fault of an unpaired spoke that has nothing in flight and no request (R48, R55, R61). -/
theorem faultStop_mild (s : State) (g code detail : Nat) (hp : (spk s g).pair = none) (hf : (spk s g).flight = [])
    (hq : (spk s g).req = none) :
    ∃ u d, Mild (setSpk s g { stoppedBy { spk s g with
        pc := faultPc (spk s g), fcode := BitVec.ofNat 8 code, fdetail := BitVec.ofNat 8 detail } .fault with urgent := u, urgeDue := d })
      (faultStop s g code detail) := by
  obtain ⟨u, d, hu⟩ := stopOne_mild (recordFault s g code detail) g .fault
  refine ⟨u, d, ?_⟩
  have e : faultStop s g code detail = report (faultBit (stopOne (recordFault s g code detail) g .fault) g) 1 code g := by
    obtain ⟨h1, h2, h3, h4⟩ : (spk (recordFault s g code detail) g).pair = none ∧ (spk (recordFault s g code detail) g).flight = [] ∧
        (spk (recordFault s g code detail) g).req = none ∧ (spk (recordFault s g code detail) g).slot = none := by
      simp [recordFault, noteFault, hp, hf, hq]
    simp [faultStop, together, hp, h1, h2, h3, h4, stopNow, request, front, inReplay, atBoundary, drained, applyReq, mergeReq]
  rw [e]
  refine Mild.trans ?_ ((hu.trans (orReg_mild _ _ _)).trans (report_mild _ _ _ _))
  refine ⟨fun k => ?_, rfl, rfl, rfl, rfl, rfl, rfl, rfl, rfl, rfl⟩
  simp only [recordFault, noteFault, spk_setSpk, if_true]
  by_cases h : k = g
  · simp only [h, if_true]; exact ⟨_, _, rfl⟩
  · simp only [h, if_false]; exact .refl _

/-- The fault of an unpaired spoke with no delay slot due, in the terms of the statements. -/
theorem faultStop_faulted (s : State) (g code detail : Nat) (hp : (spk s g).pair = none) (hs : (spk s g).slot = none)
    (hf : (spk s g).flight = []) (hq : (spk s g).req = none) : Faulted s (faultStop s g code detail) g code := by
  obtain ⟨u, d, hm⟩ := faultStop_mild s g code detail hp hf hq
  obtain ⟨v, e, hv⟩ := hm.spk g
  rw [spk_setSpk, if_pos rfl] at hv
  refine ⟨?_, ?_, ?_, ?_, ?_, ?_, ?_, ?_, ?_, by rw [hm.mem]; rfl⟩ <;> rw [hv]
  all_goals simp [stoppedBy, faultPc, hs]

theorem exFault_solo (s : State) (g code detail : Nat) (hp : (spk s g).pair = none) : exFault s g code detail = faultStop s g code detail := by
  simp [exFault, member, hp]

end Sys2Proof.Laws
end

