-- ==== Sys2Proof/Tests/Slice0.lean ====
section
/-! SUPPORT. Small tests: the well-formedness checks refuse, worked values of the spec, and for each statement's hypotheses a concrete
state and operands that meet them, with a look at one or two fields of the result. -/
namespace Sys2Proof.Tests
open Sys2Proof Sys2Proof.Machine
set_option Elab.async false

/-! ## Small states -/

/-- A released block with memory ready, every bank owned by cluster 0, the debug domain powered. -/
def blk : State := { ({} : State) with
  coreReset := false, released := true, bc := 5000, coldStart := false, bootDue := false
  mem := { ({} : Memory) with initDone := true, banks := ({} : Memory).banks.map fun k => { k with owner := 0 } }
  pwr := { ({} : Power) with vdbgGood := true, vmemGood := true, vcoreGood := true } }
/-- A bank segment over the first 64 KiB with every right. -/
def seg : BitVec 64 := 0x9C00FFFF00000000
/-- A running spoke whose registers hold their own numbers. -/
def spr : Spoke := { ({} : Spoke) with
  listed := true, st := .run, pc := 16, g := #v[0, 1, 2, 3, 4, 5, 6, 7, 8, 9, 10, 11, 12, 13, 14, 15], s := Vector.replicate 8 seg }
/-- Spoke 5 runs beside its master, spoke 0. -/
def sRun : State := { blk with spokes := [(0, { spr with pc := 64 }), (5, spr)] }
/-- sRun with another spoke 5. -/
def with5 (f : Spoke → Spoke) : State := { blk with spokes := [(0, { spr with pc := 64 }), (5, f spr)] }
/-- The command answers a next state that passes a look. -/
def nx (o : Host.Outcome State Fault Refusal) (p : State → Bool) : Bool :=
  match o with
  | .next t => p t
  | _ => false

/-! ## Well-formedness: a term that each check refuses (R50, R85 to R95, R144 to R150, R192, R194, R245, R265, R272) -/

theorem test_wf_element : (Instr.vins 5 true 8 0 0).wellFormed = false ∧ (Instr.vext 5 true 8 0 0).wellFormed = false
    ∧ (Instr.vins 5 false 8 0 0).wellFormed = true := by decide
theorem test_wf_div_stop : (Instr.div 5 .signed 1 1 2 3).wellFormed = false ∧ (Instr.stop 5 true 1 0).wellFormed = false
    ∧ (Instr.stop 5 false 1 0).wellFormed = true := by decide
theorem test_wf_channels : (Instr.truncatedMessageEnter 0x3400).wellFormed = false
    ∧ (Instr.workMessageDeliver 0x3400).wellFormed = false ∧ (Instr.resultRecord 0x3400).wellFormed = false
    ∧ (Instr.resultRecord 0x33FF).wellFormed = true := by decide
theorem test_wf_retire_poll : (Instr.avlRetire 52).wellFormed = false ∧ (Instr.avlRetire 51).wellFormed = true
    ∧ (Instr.mirrorSend 0 []).wellFormed = false := by decide
theorem test_wf_frames : (Instr.mirror 0 ⟨0xF0, 0, [], true, .good, clean⟩).wellFormed = false
    ∧ (Instr.ckptRecord 0 ⟨0xF3, 0, [0], true, .good, clean⟩).wellFormed = false
    ∧ (Instr.ethFrameReceived 0 ⟨[0], 64, true, clean⟩).wellFormed = false := by decide
theorem test_wf_sequencer : (Instr.chryDrive 0 false 3 2 true).wellFormed = false ∧ (Instr.chryFloat 0 3 2).wellFormed = false
    ∧ (Instr.chryLoopDec 0 48).wellFormed = false ∧ (Instr.chryLoopJumpF0 0 48).wellFormed = false
    ∧ (Instr.chryLoopJump 0 48).wellFormed = false := by decide

/-! ## The machine -/

/-- R281's CRC-32C, the Castagnoli check value of "123456789". -/
theorem test_crc32c : crc32c [0x31, 0x32, 0x33, 0x34, 0x35, 0x36, 0x37, 0x38, 0x39] = 0xE3069283 := by decide +kernel
theorem witness_StepRunsTheFrontCommand : (match step { sRun with pending := [.add 5 3 4, .sub 5 3 4] } with
    | .next t => t.pending == [.sub 5 3 4] && (spk t 5).g[3] == 7 | _ => false) = true := by decide +kernel
theorem witness_QueueIsFirstInFirstOut : (match step { blk with pending := [.clrDis, .cfgScan, .authNew] } with
    | .next t => t.pending == [.cfgScan, .authNew] | _ => false) = true := by decide +kernel
theorem witness_StepRunsTheFrontCommand_idle : (match step blk with | .next t => t.bc == 5001 && t.pending == [] | _ => false) = true := by decide +kernel
theorem witness_MemoryStaysCanonical : sRun.mem.wf = true
    ∧ nx (step { sRun with pending := [.st 5 .b4 3 4 1 3 allClean] }) (fun t => t.mem.cells == [(16, 3)]) := by decide +kernel
theorem witness_ResetAndStartUp_vmem_lost : blk.pwr.vmemGood = true ∧ blk.coreReset = false
    ∧ nx (exec .vmemResetLevel blk) (fun t => t.coreReset && !t.pwr.vmemGood) = true := by decide +kernel
/-- The block with VMEM lost. -/
def sNoVmem : State := { blk with coreReset := true, released := false, pwr := { blk.pwr with vmemGood := false } }
theorem witness_ResetAndStartUp_vmem_back : sNoVmem.pwr.vmemGood = false
    ∧ nx (exec .vmemPowerUp sNoVmem) (fun t => t.coldStart && t.pwr.vmemGood) = true := by decide +kernel
/-- The block with VMEM good, in core reset. -/
def sReset : State := { blk with coreReset := true, released := false, coldStart := true, resetAge := 1000 }
theorem witness_ResetAndStartUp_release : sReset.coreReset = true ∧ sReset.pwr.vmemGood = true ∧ sReset.pwr.tripHold = false
    ∧ nx (exec .coreResetRelease sReset) (fun t => !t.coreReset && t.pwr.vcoreGood) = true := by decide +kernel
theorem witness_ResetAndStartUp_init : nx (exec .memoryInitDone { blk with mem := { blk.mem with initDone := false } })
    (fun t => t.mem.initDone && t.mem.cells == []) = true := by decide +kernel
theorem witness_OnlyBadChannelsStop : exec (.resultRecord 0x3400) blk = .fault .noChannel := by rfl

/-! ## Spoke instructions -/

theorem alone_sRun : Alone sRun 5 :=
  ⟨by decide, by decide, by decide, by decide, by decide, by decide, by decide, by decide, by decide, by decide, by decide⟩
theorem alone_with5 (f : Spoke → Spoke) (h1 : canIssue (with5 f) 5 = true) (h2 : (spk (with5 f) 5).pair = none)
    (h3 : (spk (with5 f) 5).slot = none) (h4 : repn (spk (with5 f) 5).tsw = 0) (h5 : (spk (with5 f) 5).req = none)
    (h6 : (spk (with5 f) 5).flight = []) (h7 : (spk (with5 f) 5).stuck = [])
    (h8 : (spk (with5 f) 5).badRegs = []) (h9 : (spk (with5 f) 5).badCheck = false)
    (h10 : (spk (with5 f) 5).pc.toNat + 2 ≤ 0x30000) : Alone (with5 f) 5 :=
  ⟨h1, h2, h3, h4, h5, h6, h7, h8, h9, rfl, h10⟩

/-- R103: the most negative value, and the edges of ADD and SUB. -/
theorem test_add_saturates : nx (exec (.add 5 3 4) (with5 fun p => { p with tsw := 0x400, g := (p.g.set 3 0x7FFFFFFF).set 4 1 }))
    (fun t => (spk t 5).g[3] == 0x7FFFFFFF && (spk t 5).tsw == 0x418) = true := by decide +kernel
theorem test_sub_borrow : nx (exec (.sub 5 3 4) (with5 fun p => { p with g := (p.g.set 3 0x80000000).set 4 1 }))
    (fun t => (spk t 5).g[3] == 0x7FFFFFFF && (spk t 5).tsw == 0xC) = true := by decide +kernel
theorem test_abs_most_negative : nx (exec (.abs 5 3) (with5 fun p => { p with g := p.g.set 3 0x80000000 }))
    (fun t => (spk t 5).g[3] == 0x80000000 && (spk t 5).tsw == 0xA) = true := by decide +kernel
theorem witness_IntegerSumsAndAbs : (sumForm sRun (.add 5 3 4)).isSome = true ∧ (sumForm sRun (.alu3 5 .cmp 0 3 4)).isSome = true
    ∧ Alone sRun 5 := ⟨rfl, rfl, alone_sRun⟩
theorem witness_LogicResult : (logicForm sRun (.andOp 5 3 4)).isSome = true ∧ (logicForm sRun (.logi 5 .andn 0 3 1)).isSome = true
    ∧ Alone sRun 5 := ⟨rfl, rfl, alone_sRun⟩
theorem test_and_discards : nx (exec (.andOp 5 0 4) sRun) (fun t => (spk t 5).g == (spk sRun 5).g && (spk t 5).tsw == 1) = true := by
  decide +kernel
theorem witness_ShiftResult : (shiftForm sRun (.shi 5 .asr 3 4 0xFF)).isSome = true ∧ (shiftForm sRun (.alu3 5 .rot 3 4 5)).isSome = true
    ∧ Alone sRun 5 := ⟨rfl, rfl, alone_sRun⟩
/-- R104: an arithmetic left shift of a non-zero value by 32 or more overflows. -/
theorem test_asr_left_overflows : nx (exec (.shi 5 .asr 3 4 0x80) (with5 fun p => { p with tsw := 0x400 }))
    (fun t => (spk t 5).g[3] == 0x7FFFFFFF && (spk t 5).tsw == 0x418) = true := by decide +kernel
theorem test_lsl_by_minus_one : nx (exec (.shi 5 .lsl 3 4 0xFF) sRun) (fun t => (spk t 5).g[3] == 2) = true := by decide +kernel
theorem witness_MovesAndBitCounts : (moveForm sRun (.bswp 5 3)).isSome = true ∧ (moveForm sRun (.rda 5 3 0 .guard)).isSome = true
    ∧ Alone sRun 5 := ⟨rfl, rfl, alone_sRun⟩
theorem test_clz_zero : nx (exec (.clz 5 0) sRun) (fun t => (spk t 5).g[0] == 0)
    && nx (exec (.clz 5 3) (with5 fun p => { p with g := p.g.set 3 0 })) (fun t => (spk t 5).g[3] == 32) = true := by decide +kernel
theorem test_cls_minus_one : nx (exec (.cls 5 3) (with5 fun p => { p with g := p.g.set 3 0xFFFFFFFF })) (fun t => (spk t 5).g[3] == 31) = true := by
  decide +kernel
theorem witness_MulResult : Alone sRun 5 := alone_sRun
theorem witness_AccumulatorResult : Alone sRun 5 := alone_sRun
/-- R105: −1 × −1 in Q31, and in Q15 with garbage in the upper halves. -/
theorem test_mul_q31 : nx (exec (.mul 5 .q31 .tsw 3 4 4) (with5 fun p => { p with tsw := 0x400, g := p.g.set 4 0x80000000 }))
    (fun t => (spk t 5).g[3] == 0x7FFFFFFF && (spk t 5).tsw == 0x418) = true := by decide +kernel
theorem test_mul_q15 : nx (exec (.mul 5 .q15 .tsw 3 4 5) (with5 fun p => { p with g := (p.g.set 4 0x12348000).set 5 0x00008000 }))
    (fun t => (spk t 5).g[3] == 0x80000000 && (spk t 5).tsw == 0xA) = true := by decide +kernel
/-- R103: 0x8000_0000 ÷ −1. -/
theorem test_div_edge : nx (exec (.div 5 .signed 3 6 4 5) (with5 fun p => { p with tsw := 0x400, g := (p.g.set 4 0x80000000).set 5 0xFFFFFFFF }))
    (fun t => (spk t 5).g[3] == 0x7FFFFFFF && (spk t 5).g[6] == 0 && (spk t 5).tsw == 0x418) = true := by decide +kernel
theorem witness_DivResult : rg (spk sRun 5) 4 ≠ 0 ∧ (3 : GReg) ≠ 6
    ∧ (1 : Int) = (rg (spk sRun 5) 5).toInt.tdiv (rg (spk sRun 5) 4).toInt ∧ Alone sRun 5 := by
  refine ⟨by decide, by decide, by decide, alone_sRun⟩
theorem witness_DivideByZero : rg (spk sRun 5) 0 = 0 ∧ (spk sRun 5).tsw.getLsbD 11 = false
    ∧ nx (exec (.div 5 .unsigned 3 6 4 0) sRun) (fun t => (spk t 5).g[3] == 0xFFFFFFFF && (spk t 5).g[6] == 4) = true := by decide +kernel
theorem witness_DivideByZero_trap : (spk (with5 fun p => { p with tsw := 0x800 }) 5).tsw.getLsbD 11 = true
    ∧ nx (exec (.div 5 .signed 3 6 4 0) (with5 fun p => { p with tsw := 0x800 })) (fun t => (spk t 5).fcode == 0xC) = true := by
  decide +kernel
/-- R103: MAC into the largest accumulator. -/
theorem test_mac_saturates : nx (exec (.mac 5 .int false 0 3 4) (with5 fun p => { p with a := p.a.set 0 0x7FFFFFFFFFFFFFFFFF }))
    (fun t => (spk t 5).a[0] == 0x7FFFFFFFFFFFFFFFFF && (spk t 5).tsw == 0x10) = true := by decide +kernel
/-- R103: EXT of +2.0. -/
theorem test_ext_saturates : nx (exec (.ext 5 .tsw 3 0 0) (with5 fun p => { p with a := p.a.set 0 0x010000000000000000 }))
    (fun t => (spk t 5).g[3] == 0x7FFFFFFF && (spk t 5).tsw == 0x18) = true := by decide +kernel
theorem witness_VectorResult : (vecForm sRun (.vmac 5 true .rnu 1 2 3)).isSome = true ∧ (vecForm sRun (.vperm 5 false 1 2 3)).isSome = true
    ∧ Alone sRun 5 := ⟨rfl, rfl, alone_sRun⟩
theorem test_vadd_saturates : nx (exec (.vadd 5 false 1 2 3) (with5 fun p => { p with tsw := 0x400, v := (p.v.set 2 0x7FFF).set 3 0x10001 }))
    (fun t => (spk t 5).v[1] == 0x17FFF && (spk t 5).tsw == 0x410) = true := by decide +kernel
theorem witness_ElementMoves : (7 : BitVec 4).toNat < lanes true ∧ (15 : BitVec 4).toNat < lanes false ∧ Alone sRun 5 :=
  ⟨by decide, by decide, alone_sRun⟩
theorem test_vext_sign : nx (exec (.vext 5 false 1 3 2) (with5 fun p => { p with v := p.v.set 2 0x80000000 }))
    (fun t => (spk t 5).g[3] == 0xFFFF8000) = true := by decide +kernel
theorem witness_SegmentArithmetic : seg.getLsbD 63 = true ∧ (rg (spk sRun 5) 4).toNat ≤ descLimit seg
    ∧ nx (exec (.snb 5 1 2 4 7) sRun) (fun t => (spk t 5).s[1] == 0x9C00FFFB00000004) = true := by decide +kernel
theorem witness_SegmentArithmetic_limit : descLimit (spk (with5 fun p => { p with s := p.s.set 2 0x9C00000300000000 }) 5).s[2] < 4
    ∧ nx (exec (.snb 5 1 2 4 7) (with5 fun p => { p with s := p.s.set 2 0x9C00000300000000 })) (fun t => (spk t 5).fcode == 6) = true := by
  decide +kernel
theorem witness_SegmentArithmetic_invalid : (0x1C00FFFF00000000 : BitVec 64).getLsbD 63 = false
    ∧ nx (exec (.srr 5 1 2) (with5 fun p => { p with s := p.s.set 2 0x1C00FFFF00000000 })) (fun t => (spk t 5).fcode == 4) = true := by
  decide +kernel
theorem witness_StatusWritesAndIllegalForms_IllegalForms : (1 : GReg) ≠ 0 ∧ 8 ≤ (8 : BitVec 4).toNat ∧ ((1 : Fin 4) ≠ 0 ∨ (0 : Fin 32) ≠ 0)
    ∧ nx (exec (.alu3 5 .cmp 1 2 3) sRun) (fun t => (spk t 5).fcode == 1 && (spk t 5).pc == 16)
    ∧ nx (exec (.vins 5 true 8 1 2) sRun) (fun t => (spk t 5).fcode == 1) := by decide +kernel

/-! ## Memory accesses of a spoke -/

theorem bankSegment_seg : bankSegment seg := ⟨by decide, by decide, by decide⟩
theorem witness_StoreWritesItsBytes : (spk sRun 5).s[1].getLsbD 59 = true ∧ accessOffset (rg (spk sRun 5) 4) (3 * 4) + 4 - 1 ≤ descLimit seg
    ∧ refusing sRun (clusterOf 5) (wordsOf 16 4) true = [] ∧ ((wordsOf 16 4).all fun w => symbolsIn (errAt sRun w) ≤ 1) = true
    ∧ nx (exec (.st 5 .b4 7 4 1 3 allClean) sRun) (fun t => t.mem.cells == [(16, 7)] && (spk t 5).pc == 18) = true := by decide +kernel
/-- The last bytes inside LIMIT. -/
theorem witness_StoreWritesItsBytes_limit : accessOffset (rg (spk (with5 fun p => { p with g := p.g.set 4 0xFFE0 }) 5) 4) (0 * 32) + 32 - 1 ≤ descLimit seg
    ∧ nx (exec (.vst 5 .b32 1 4 1 0 allClean) (with5 fun p => { p with g := p.g.set 4 0xFFE0, v := p.v.set 1 0x01020304 }))
      (fun t => t.mem.cells == [(0xFFE0, 4), (0xFFE1, 3), (0xFFE2, 2), (0xFFE3, 1)]) = true := by decide +kernel
/-- sRun with bytes at address 16. -/
def sMem : State := { sRun with mem := { sRun.mem with cells := [(16, 0x34), (17, 0x92)] } }
theorem witness_LoadsDeliver : sMem.mem.wf = true ∧ (spk sMem 5).s[1].getLsbD 58 = true ∧ (spk sMem 5).s[1].getLsbD 60 = true
    ∧ accessOffset (rg (spk sMem 5) 4) (6 * 2) + 2 - 1 ≤ descLimit seg ∧ refusing sMem (clusterOf 5) (wordsOf 16 2) false = []
    ∧ nx (exec (.ld 5 .b2 true 3 4 1 6) sMem) (fun t => (spk t 5).g[3] == 3 && pendingBit (spk t 5) (.g 3)
        && nx (exec (.loadComplete 5 allClean) t) (fun u => (spk u 5).g[3] == 0xFFFF9234 && (spk u 5).flight == [])) = true := by
  decide +kernel
theorem test_ldl_reserves : nx (exec (.ldl 5 3 4 1 3) sMem) (fun t => (spk t 5).resv == some 0) = true := by decide +kernel
/-- A device segment over SELF. -/
def sDev : State := { with5 fun p => { p with s := p.s.set 1 0xC400001F10040100 } with cfg := { ({} : Loader) with gen := 9 } }
theorem witness_LoadsDeliver_device : (spk sDev 5).s[1].getLsbD 63 = true ∧ (spk sDev 5).s[1].getLsbD 62 = true
    ∧ (spk sDev 5).s[1].getLsbD 61 = false ∧ (spk sDev 5).s[1].getLsbD 58 = true
    ∧ (descBase (spk sDev 5).s[1] + accessOffset (rg (spk sDev 5) 4) (1 * 4)) % 2 ^ 32 = 0x10040108
    ∧ nx (exec (.ld 5 .b4 false 3 4 1 1) sDev) (fun t => nx (exec (.deviceLoadComplete 5) t) (fun u => (spk u 5).g[3] == 9)) = true := by
  decide +kernel
/-- sRun with descriptor d in s1 of spoke 5. -/
def withSeg (d : BitVec 64) : State := with5 fun p => { p with s := p.s.set 1 d }
theorem witness_SegmentChecksAndLateFaults_SegmentChecks : (0x1C00FFFF00000000 : BitVec 64).getLsbD 63 = false ∧ (0x9800FFFF00000000 : BitVec 64).getLsbD 58 = false
    ∧ (0x9400FFFF00000000 : BitVec 64).getLsbD 59 = false ∧ descLimit 0x9C00000600000000 < accessOffset (rg (spk sRun 5) 4) (0 * 4) + 3
    ∧ nx (exec (.lck 5 3 4 1 0) (withSeg 0x1C00FFFF00000000)) (fun t => (spk t 5).fcode == 4)
    ∧ nx (exec (.ld 5 .b4 false 3 4 1 0) (withSeg 0x9800FFFF00000000)) (fun t => (spk t 5).fcode == 5)
    ∧ nx (exec (.st 5 .b4 3 4 1 0 allClean) (withSeg 0x9400FFFF00000000)) (fun t => (spk t 5).fcode == 5)
    ∧ nx (exec (.st 5 .b4 3 4 1 0 allClean) (withSeg 0x9C00000600000000)) (fun t => (spk t 5).fcode == 6)
    ∧ nx (exec (.st 5 .b4 3 4 1 0 allClean) (withSeg 0x9C00000700000000)) (fun t => (spk t 5).st == .run)
    ∧ (descBase seg + accessOffset (rg (spk sRun 5) 5) (0 * 4)) % 4 ≠ 0
    ∧ nx (exec (.ldl 5 3 5 1 0) sRun) (fun t => (spk t 5).fcode == 7) := by decide +kernel
/-- sRun with every bank owned by HOST. -/
def sHost : State := { sRun with mem := { sRun.mem with banks := sRun.mem.banks.map fun k => { k with owner := 0x13 } } }
theorem witness_SegmentChecksAndLateFaults_LateFault : refusing sHost (clusterOf 5) (wordsOf 16 4) true ≠ [] ∧ sHost.dbg.feed ≠ some 5
    ∧ nx (exec (.st 5 .b4 7 4 1 3 allClean) sHost) (fun t => t.mem.cells == [] && (spk t 5).st == .run
        && nx (exec (.deferredFault 5) t) (fun u => (spk u 5).st == .stopped && (spk u 5).fcode == 9 && (spk u 5).failPc == some 16)) = true := by
  decide +kernel
/-- sRun with spoke 5 holding the reservation of word 0. -/
def sResv : State := with5 fun p => { p with resv := some 0 }
theorem witness_ConditionalAndProgramStores_ConditionalStore : (spk sResv 5).resv = some (16 / 32) ∧ (spk sRun 5).resv ≠ some (16 / 32) ∧ symbolsIn (errAt sResv (16 / 32)) ≤ 1
    ∧ nx (exec (.stc 5 7 4 6 1 3 allClean) sResv) (fun t => t.mem.cells == [(16, 7)] && (spk t 5).g[6] == 1 && (spk t 5).resv == none)
    ∧ nx (exec (.stc 5 7 4 6 1 3 allClean) sRun) (fun t => t.mem.cells == [] && (spk t 5).g[6] == 0) := by decide +kernel
theorem witness_ConditionalAndProgramStores_ProgramStore : (0xA000FFFF00000000 : BitVec 64).getLsbD 63 = true ∧ (0xA000FFFF00000000 : BitVec 64).getLsbD 62 = false
    ∧ (0xA000FFFF00000000 : BitVec 64).getLsbD 61 = true ∧ accessOffset (rg (spk sRun 5) 8) (1 * 8) % 8 = 0
    ∧ nx (exec (.pst 5 2 8 1 1) (with5 fun p => { p with s := p.s.set 1 0xA000FFFF00000000, v := p.v.set 2 0xFFAABBCCDDEEFF01 }))
      (fun t => tget 0 t.progs 2 == 0xAABBCCDDEEFF01 && (spk t 5).pc == 18) = true := by decide +kernel

/-! ## Channels, locks, comparators -/

/-- sRun with channel 7: from spoke 5 (or 6), to spoke 5 (or 6). -/
def sChan (w r : Nat) (c : Chan) : State :=
  { sRun with chans := [(7, { c with writer := ⟨.spoke, w⟩, reader := ⟨.spoke, r⟩ })] }
/-- Words without marks. -/
def words (n : Nat) : List ChanWord := (List.range n).map fun i => ⟨BitVec.ofNat 32 i, false, false, false, false⟩
theorem witness_MessagesEnterWhole : ((0 : BitVec 14).toNat + (rg (spk sRun 5) 7).toNat % 2 ^ 14) % 2 ^ 14 = 7
    ∧ (chan (sChan 5 6 { staged := [9, 8, 7] }) 7).staged.length < 4 ∧ (chan (sChan 5 6 { fifo := words 4, staged := [9, 8, 7] }) 7).rdisc = false
    ∧ (chan (sChan 5 6 { waiting := [words 2] }) 7).waiting ≠ []
    ∧ nx (exec (.out 5 3 7 0) (sChan 5 6 { staged := [9, 8, 7] })) (fun t => (chan t 7).staged == [9, 8, 7, 3])
    ∧ nx (exec (.post 5 3 7 0) (sChan 5 6 { fifo := words 4, staged := [9, 8, 7] }))
        (fun t => (chan t 7).fifo.map (·.word) == [0, 1, 2, 3, 9, 8, 7, 3] && ((chan t 7).fifo.getLast?.map (·.last)) == some true)
    ∧ nx (exec (.postu 5 3 7 0) (sChan 5 6 { fifo := words 5, staged := [9, 8, 7] }))
        (fun t => (chan t 7).fifo == words 5 && (spk t 5).st == .blocked)
    ∧ nx (exec (.post 5 3 7 0) (sChan 5 6 { waiting := [words 2] })) (fun t => (chan t 7).fifo == [] && (spk t 5).st == .blocked) := by
  decide +kernel
theorem witness_ChannelReadsAndWakes_ChannelRead : (chan (sChan 6 5 { fifo := [⟨0xAB, true, true, false, false⟩] }) 7).reader = ⟨.spoke, 5⟩
    ∧ (chan (sChan 6 5 {}) 7).writer.kind ≠ .cadence
    ∧ nx (exec (.inOp 5 3 7 0) (sChan 6 5 { fifo := [⟨0xAB, true, true, false, false⟩] })) (fun t => (spk t 5).g[3] == 0xAB && (spk t 5).tsw == 0xC0)
    ∧ nx (exec (.inOp 5 3 7 0) (sChan 6 5 {})) (fun t => (spk t 5).st == .blocked && (spk t 5).wait == some (.input 7 3)) := by
  decide +kernel
/-- R258: the message with a double error shows CHE on its last word. -/
theorem test_bad_word : nx (exec (.inOp 5 3 7 0) (sChan 6 5 { fifo := [⟨0xAB, true, false, false, true⟩] }))
    (fun t => (spk t 5).tsw == 0xC0) = true := by decide +kernel
theorem witness_ChannelReadsAndWakes_BlockedSpokesWake :
    nx (exec (.inOp 5 3 7 0) (sChan 6 5 {})) (fun t =>
      nx (exec (.inWake 5) { t with chans := (sChan 6 5 { fifo := words 2 }).chans }) (fun u => (spk u 5).pc == 18 && (chan u 7).fifo.length == 1))
    ∧ nx (exec (.post 5 3 7 0) (sChan 5 6 { fifo := words 8 })) (fun t =>
      nx (exec (.postWake 5) { t with chans := (sChan 5 6 { fifo := words 7 }).chans }) (fun u => (spk u 5).pc == 18 && (chan u 7).fifo.length == 8)) := by
  decide +kernel
/-- sRun with lock 0 of address 16. -/
def sLock (holder : BitVec 16) : State := { sRun with lck := { sRun.lck with table := [(0, ⟨.held, 16, holder, []⟩)] } }
theorem witness_LocksAndComparatorsOfSpokes_LockOperations : findLock sRun 16 = none ∧ freeLock sRun = some 0 ∧ findLock (sLock 0x1006) 16 = some 0
    ∧ (lockEnt (sLock 0x1006) 0).holder ≠ lockIdSpoke (sLock 0x1006) 5 ∧ (lockEnt (sLock 0x1005) 0).holder = lockIdSpoke (sLock 0x1005) 5
    ∧ nx (exec (.lck 5 6 4 1 3) sRun) (fun t => (lockEnt t 0).holder == 0x1005 && (spk t 5).g[6] == 0)
    ∧ nx (exec (.tryOp 5 6 4 1 3) (sLock 0x1006)) (fun t => (spk t 5).g[6] == 2)
    ∧ nx (exec (.lck 5 6 4 1 3) (sLock 0x1006)) (fun t => (lockEnt t 0).waiters == [0x1005] && (spk t 5).st == .blocked)
    ∧ nx (exec (.ulk 5 6 4 1 3) (sLock 0x1006)) (fun t => (spk t 5).g[6] == 6)
    ∧ nx (exec (.ulk 5 6 4 1 3) (sLock 0x1005)) (fun t => lockEnt t 0 == {} && (spk t 5).g[6] == 0) := by decide +kernel
theorem witness_LocksAndComparatorsOfSpokes_ArmpArms : (evt sRun 3).act.toNat / 2 ^ 16 = clusterOf 5
    ∧ nx (exec (.armp 5 6 7 8 3) sRun) (fun t => (evt t 3).st == .armed && (evt t 3).target == 0x0000000800000007)
    ∧ (evt { sRun with cad := { sRun.cad with evts := [(3, { ({} : Comparator) with act := 0x10000 })] } } 3).act.toNat / 2 ^ 16 ≠ clusterOf 5
    ∧ nx (exec (.armp 5 6 7 8 3) { sRun with cad := { sRun.cad with evts := [(3, { ({} : Comparator) with act := 0x10000 })] } })
        (fun t => (spk t 5).fcode == 0x11) := by decide +kernel

/-! ## System instructions -/

theorem alone_master : Alone sRun 0 :=
  ⟨by decide, by decide, by decide, by decide, by decide, by decide, by decide, by decide, by decide, by decide, by decide⟩
/-- sRun with spoke 5 in another state. -/
def sTarget (st : SpokeState) : State := with5 fun p => { p with st := st }
theorem witness_MasterAndOwnStop_MasterInstructions : 5 = 128 * clusterOf 0 + 32 * (0 : Fin 4).val + (5 : Fin 32).val ∧ (spk (sTarget .deferred) 5).listed = true
    ∧ (spk (sTarget .deferred) 5).elastic = false
    ∧ nx (exec (.setctx 0 6 7 0 5 (.g 9)) (sTarget .deferred)) (fun t => (spk t 5).g[9] == 7 && (spk t 0).g[6] == 0)
    ∧ nx (exec (.setctx 0 6 7 0 5 .pc) (sTarget .deferred)) (fun t => (spk t 5).pc == 7)
    ∧ nx (exec (.setseg 0 6 1 0 5 2) (withSeg seg)) (fun t => (spk t 5).st == .run)
    ∧ nx (exec (.release 0 6 0 5) (sTarget .deferred)) (fun t => (spk t 5).st == .run && (spk t 5).pc == 16)
    ∧ nx (exec (.stop 0 false 0 5) sRun) (fun t => (spk t 5).st == .stopped && (spk t 5).cause == .master)
    ∧ nx (exec (.release 5 6 0 0) sRun) (fun t => (spk t 5).fcode == 0x10 && (spk t 0).st == .run) := by decide +kernel
theorem witness_MasterAndOwnStop_own : nx (exec (.stop 5 true 0 0) sRun) (fun t => (spk t 5).st == .stopped && (spk t 5).cause == .own && (spk t 5).pc == 18) = true := by
  decide +kernel
theorem onlyOneRuns_sRun : OnlyOneRuns sRun 5 := fun h => absurd h (by decide)
theorem witness_BranchAndDelaySlot : (spk sRun 5).pc.toNat + 2 + 1 ≤ 0x30000 ∧ condTable (spk sRun 5).tsw .ne = true
    ∧ condTable (spk sRun 5).tsw .eq = false
    ∧ nx (exec (.br 5 .ne false 0x10 .plain) sRun) (fun t => nx (exec (.mov 5 3 4) t) (fun u => (spk u 5).pc == 32 && (spk u 5).g[3] == 4))
    ∧ nx (exec (.br 5 .eq true 0x10 .plain) sRun) (fun t => nx (exec (.mov 5 3 4) t) (fun u => (spk u 5).pc == 19 && (spk u 5).g[3] == 3))
    ∧ nx (exec (.ja 5 true 0x2FFFF .plain) sRun) (fun t => nx (exec (.mov 5 3 4) t) (fun u => (spk u 5).pc == 0x2FFFF && (spk u 5).g[15] == 19))
    ∧ nx (exec (.ja 5 true 0x30000 .plain) sRun) (fun t => (spk t 5).fcode == 2)
    ∧ nx (exec (.br 5 .eq true 0x1FFE0 .plain) sRun) (fun t => (spk t 5).fcode == 2)
    ∧ nx (exec (.jr 5 false 3 .branch) sRun) (fun t => (spk t 5).fcode == 0xF) := by decide +kernel
theorem witness_RepeatAndBreak : (rg (spk sRun 5) 0).toNat = 0 ∧ 1 ≤ (63 : BitVec 6).toNat + 1 ∧ (63 : BitVec 6).toNat + 1 ≤ 64
    ∧ nx (exec (.rep 5 (.imm 63) .plain) sRun) (fun t => repn (spk t 5).tsw == 64
        && nx (exec (.mov 5 3 4) t) (fun u => repn (spk u 5).tsw == 63 && (spk u 5).pc == 17))
    ∧ nx (exec (.rep 5 (.imm 0) .plain) sRun) (fun t => nx (exec (.mov 5 3 4) t) (fun u => repn (spk u 5).tsw == 0 && (spk u 5).pc == 18))
    ∧ nx (exec (.rep 5 (.reg 0) .plain) sRun) (fun t => (spk t 5).fcode == 0xE)
    ∧ nx (exec (.rep 5 (.imm 0) .branch) sRun) (fun t => (spk t 5).fcode == 0xD) := by decide +kernel
theorem witness_BreakHaltsOrFaults : sRun.pwr.vdbgGood = true ∧ (reg { sRun with regs := [(0x305C, 1)] } 0x305C).getLsbD (coreOf 5) = true
    ∧ nx (exec (.brk 5 0xAB) { sRun with regs := [(0x305C, 1)] }) (fun t => (spk t 5).st == .halted && (spk t 5).pc == 16)
    ∧ nx (exec (.brk 5 0xAB) { sRun with pwr := { sRun.pwr with vdbgGood := false } })
        (fun t => (spk t 5).fcode == 0x12 && (spk t 5).fdetail == 0xAB) := by decide +kernel
/-- Spokes 5 and 37 are pair 0. -/
def sPair (w : Word) : State := { blk with
  spokes := [(5, { spr with pair := some (0, true) }), (37, { spr with pair := some (0, false), g := spr.g.set 7 w })]
  avl := { ({} : Avl) with pairs := [(0, { ({} : Pair) with st := .running, leader := 5, follower := 37, ckpt := some (contextOf spr) })] } }
theorem witness_PairStoresCommitOnAgreement : canIssue (sPair 7) 5 = true
    ∧ canIssue (setPair (sPair 7) 0 { pairAt (sPair 7) 0 with nL := (pairAt (sPair 7) 0).nL + 1 }) 37 = true
    ∧ (spk (sPair 7) 5).elastic = false ∧ (spk (sPair 7) 37).elastic = false ∧ (spk (sPair 7) 5).badRegs = []
    ∧ (pairAt (sPair 7) 0).leader.toNat = 5 ∧ (pairAt (sPair 7) 0).follower.toNat = 37 ∧ (pairAt (sPair 7) 0).nL = (pairAt (sPair 7) 0).nF
    ∧ refusing (sPair 7) (clusterOf 5) (wordsOf 16 4) true = []
    ∧ nx (exec (.st 5 .b4 7 4 1 3 allClean) (sPair 7)) (fun t => t.mem.cells == [] && (pairAt t 0).gate.length == 1
        && nx (exec (.st 37 .b4 7 4 1 3 allClean) t) (fun u => u.mem.cells == [(16, 7)] && (pairAt u 0).gate == []))
    ∧ nx (exec (.st 5 .b4 7 4 1 3 allClean) (sPair 8)) (fun t =>
        nx (exec (.st 37 .b4 7 4 1 3 allClean) t) (fun u => u.mem.cells == [] && (pairAt u 0).mismatch)) := by decide +kernel

/-! ## Reports, program memory, pairs, watchdogs, takeover -/

/-- sRun with a buffered report, a truncated message that waits, and a group that has stood blocked. -/
def sRep : State := { with5 (fun p => { p with st := .blocked, wait := some (.input 7 3) }) with
  sysBuf := blk.sysBuf.set 0 [0xABCD]
  chans := [(7, { ({} : Chan) with reader := ⟨.spoke, 5⟩, writer := ⟨.spoke, 6⟩ }), (9, { ({} : Chan) with waiting := [words 3], fifo := words 5 })]
  dl := [(0, { ({} : DlGroup) with elapsed := 1024 })] }
theorem witness_DeliveriesAndProgramChecks_LateDeliveries : sRep.sysBuf[0] = [0xABCD] ∧ (chan sRep 1023).fifo.length < 8 ∧ (chan sRep 9).waiting = [words 3]
    ∧ (chan sRep 9).fifo.length + (words 3).length ≤ 8
    ∧ nx (exec (.systemReportDeliver 0) sRep) (fun t => t.sysBuf[0] == [] && (chan t 1023).fifo == [⟨0xABCD, true, false, false, false⟩])
    ∧ nx (exec (.truncatedMessageEnter 9) sRep) (fun t => (chan t 9).fifo.length == 8 && (chan t 9).waiting == []) := by decide +kernel
/-- A group of one blocked spoke that nobody feeds. -/
def sDead : State := { sRep with
  spokes := sRep.spokes.map fun e => (e.1, { e.2 with dlgroup := if e.1 = 5 then some 1 else none }), dl := [(1, { ({} : DlGroup) with elapsed := 1024 })] }
theorem witness_DeliveriesAndProgramChecks_DeadlockDetected : 1024 ≤ (tget {} sDead.dl 1).elapsed ∧ dlAllBlocked sDead 0 1 = true ∧ dlFed sDead 0 1 = false
    ∧ nx (exec (.deadlockDetected 0 1) sDead) (fun t => (tget {} t.dl 1).deadlock && nx (exec (.deadlockDetected 0 1) t) (fun u => u == t)) = true := by
  decide +kernel
theorem witness_DeliveriesAndProgramChecks_ProgramChecks : (spk sRun 5).listed = true ∧ (spk sRun 5).pc.toNat / 4 < 49152
    ∧ nx (exec (.programRereadComplete 5 false true) sRun) (fun t => (spk t 5).st == .run)
    ∧ nx (exec (.programRereadComplete 5 false false) sRun) (fun t => (spk t 5).fcode == 3)
    ∧ nx (exec (.programScrub 51 49151 .double true) sRun) (fun t => t.spokes == sRun.spokes) := by decide +kernel
/-- Pair 0 with an agreed checkpoint of another PC, in a given state. -/
def sPairSt (st : PairState) (f : Pair → Pair) : State := { sPair 7 with
  avl := { ({} : Avl) with pairs := [(0, f { ({} : Pair) with st := st, leader := 5, follower := 37, ckpt := some (contextOf { spr with pc := 8 }) })] } }
theorem witness_PairReplayVoteAndRetirement_PairCheckpoint : (pairAt (sPairSt .running (fun p => { p with since := 10000, nL := 3 })) 0).nF
      ≠ (pairAt (sPairSt .running (fun p => { p with since := 10000, nL := 3 })) 0).nL
    ∧ nx (exec (.forcedCheckpoint 0) (sPairSt .running (fun p => { p with since := 10000, nL := 3 })))
      (fun t => (pairAt t 0).pend == some (contextOf (spk (sPair 7) 5)) && (pairAt t 0).since == 0) = true := by decide +kernel
theorem witness_PairReplayVoteAndRetirement_PairReplay :
    nx (exec (.pairMismatch 0) (sPairSt .running id)) (fun t => (pairAt t 0).st == .replay && (spk t 5).pc == 8 && (spk t 37).pc == 8)
    ∧ nx (exec (.replayEnd 0 .agree) (sPairSt .replay id)) (fun t => (pairAt t 0).st == .running && (pairAt t 0).cntTrans == 1)
    ∧ nx (exec (.replayEnd 0 .elsewhere) (sPairSt .replay id)) (fun t => (pairAt t 0).st == .replay && (spk t 37).pc == 8)
    ∧ nx (exec .avlPairCntRead (sPairSt .replay fun p => { p with cntTrans := 3, cntLast := 2, cntForced := 1 }))
      (fun t => t.host.rdata == 0x01020003 && (pairAt t 0).cntTrans == 0) := by decide +kernel
/-- No spare core is left. -/
def sNoSpare : State := { sPairSt .replay id with
  cores := blk.cores.map fun c => if c.role = .spare then { c with role := .retired } else c }
theorem witness_PairReplayVoteAndRetirement_VotesAndRetirement : idleSpares sNoSpare = [] ∧ idleSpares blk = [48, 49, 50, 51] ∧ serves blk 0 = true
    ∧ (spk (sPairSt .vote fun p => { p with voter := some 48 }) 5).pair = some (0, true)
    ∧ nx (exec (.replayEnd 0 .samePoint) sNoSpare) (fun t => (pairAt t 0).st == .safe && (spk t 5).fcode == 0x20)
    ∧ nx (exec (.voteEnd 0 .noMajority) (sPairSt .vote fun p => { p with voter := some 48 })) (fun t => (spk t 37).st == .stopped)
    ∧ nx (exec (.voteEnd 0 .leaderWins) (sPairSt .vote fun p => { p with voter := some 48 }))
      (fun t => (t.cores.toArray[1]?.map (·.role)) == some .retired && (t.cores.toArray[48]?.map (·.logical)) == some 1)
    ∧ nx (exec (.avlRetire 0) sRun) (fun t => (t.cores.toArray[0]?.map (·.role)) == some .retired && (spk t 5).st == .stopped) := by
  decide +kernel
/-- Watchdogs that have run out, and one that the host feeds. -/
def sWdg : State := { sRun with regs := [(0x2000, 0x40064), (0x212C, 50), (0x213C * 65536 + 5, 100)] }
theorem witness_WatchdogsAndTakeover_Watchdogs : (item sWdg 0x213C 5).toNat % 2 ^ 16 = 100 ∧ (reg sWdg 0x2000).getLsbD 18 = true ∧ sWdg.avl.clLeft[0] = 0
    ∧ inMaint sWdg 0 = false ∧ (reg sWdg 0x212C).toNat % 2 ^ 16 = 50
    ∧ nx (exec (.avlSwdgFeed 5) sWdg) (fun t => (spk t 5).wdgLeft == 100)
    ∧ nx (exec (.spokeWdgExpiry 5) sWdg) (fun t => (spk t 5).fcode == 0x21)
    ∧ nx (exec (.avlClFeed .host 0) sWdg) (fun t => t.avl.clLeft[0] == 100)
    ∧ nx (exec (.clusterWdgExpiry 0) sWdg) (fun t => (reg t 0x2008).getLsbD 5 && t.spokes == sWdg.spokes)
    ∧ nx (exec (.avlBwdgFeed 0xA5A5) sWdg) (fun t => nx (exec (.avlBwdgFeed 0x5A5A) t) (fun u => u.avl.bwdgLeft == 50))
    ∧ nx (exec .blockWdgExpiry sWdg) (fun t => (reg t 0x210C).getLsbD 0)
    ∧ nx (exec (.clockFault .osc) sWdg) (fun t => (reg t 0x2160).getLsbD 4)
    ∧ nx (exec (.clockFault .sclk) sWdg) (fun t => t.coreReset)
    ∧ nx (exec (.recoveryComplete 0) { sWdg with avl := { sWdg.avl with recovering := 1 } }) (fun t => t.avl.recovering == 0) := by
  decide +kernel
/-- Link 0 up in a mode; it is the first tandem link where the mode is tandem. -/
def sLink (mode : Nat) (k : Link) : State := { blk with
  regs := [(0xE000, 0x11), (0xE004, BitVec.ofNat 32 mode), (0xE41C, 0x3F00)], str := { ({} : Streams) with links := [(0, { k with up := true, sync := true })] } }
theorem witness_WatchdogsAndTakeover_ClockFaultOfQuad : (link (sLink 2 {}) (4 * (0 : Fin 16).val + (0 : Fin 4).val)).up = true
    ∧ nx (exec (.clockFault (.quad 0)) (sLink 2 {})) (fun t => !(link t 0).up) = true := by decide +kernel
/-- A standby or active block in sync whose partner is lost. -/
def sRole (r : BitVec 2) : State := { sLink 7 {} with
  avl := { ({} : Avl) with role := r }, regs := [(0xE000, 0x11), (0xE004, 7), (0xE418, 2), (0xE41C, 0x3F00), (0xE420, 0x10000)]
  str := { ({} : Streams) with inSync := true, links := [(0, { ({} : Link) with up := true, sync := true })] } }
theorem witness_WatchdogsAndTakeover_TakeoverRoles : (reg (sRole 2) 0xE418).getLsbD 1 = true ∧ tandemUp (sRole 2) ≠ []
    ∧ nx (exec .avlTkovTake (sRole 2)) (fun t => t.avl.role == 1)
    ∧ nx (exec .avlTkovYield (sRole 1)) (fun t => t.avl.role == 3)
    ∧ nx (exec .takeRequestReceived (sRole 1)) (fun t => t.avl.role == 3)
    ∧ nx (exec .yieldConfirmReceived (sRole 2)) (fun t => t.avl.role == 1) := by decide +kernel

/-! ## Memory banks, the host window, the shadow loader -/

/-- blk with bank 3 under a handover. -/
def sHand (h : Option Handover) : State := { blk with
  mem := { blk.mem with banks := blk.mem.banks.set 3 { blk.mem.banks[3] with pending := h } }
  spokes := [(5, { spr with resv := some (3 * 65536) })] }
theorem witness_BankHandoverMothAndRepair_BankHandover : (sHand none).mem.banks[3].pending = none ∧ ownerCode 0x13 = true ∧ ownerCode 13 = false
    ∧ bankIdle (sHand (some ⟨0x13, none⟩)) 3 = true
    ∧ nx (exec (.handoverGo 3 0x13 true 31) (sHand none)) (fun t => t.mem.banks[3].pending == some ⟨0x13, some 31⟩)
    ∧ nx (exec (.handoverGo 3 0 false 0) (sHand none)) (fun t => t.mem.banks[3].pending == none && (reg t 0x7068).getLsbD 5)
    ∧ nx (exec (.handoverGo 3 13 false 0) (sHand none)) (fun t => (reg t 0x7068).getLsbD 6)
    ∧ nx (exec (.handoverGo 3 0x13 false 0) (sHand (some ⟨1, none⟩))) (fun t => (reg t 0x7068).getLsbD 6)
    ∧ nx (exec (.handoverCancel 3) (sHand (some ⟨1, some 0⟩))) (fun t => t.mem.banks[3].pending == none)
    ∧ nx (exec (.handoverCancel 3) (sHand (some ⟨1, none⟩))) (fun t => t == sHand (some ⟨1, none⟩))
    ∧ nx (exec (.handoverComplete 3) (sHand (some ⟨0x13, none⟩)))
      (fun t => t.mem.banks[3].owner == 0x13 && (spk t 5).resv == none && mayAccess t 0x13 3 true && !mayAccess t 0 3 false) := by
  decide +kernel
/-- blk with scrubbing and marching on. -/
def sMoth (f : Memory → Memory) : State := { blk with mem := f blk.mem, regs := [(0x7808, 3)] }
theorem witness_BankHandoverMothAndRepair_MothAndRepair : (reg (sMoth id) 0x7808).getLsbD 0 = true ∧ (reg (sMoth id) 0x7808).getLsbD 1 = true
    ∧ errAt (sMoth id) 5 = 0 ∧ (sMoth id).mem.errs = [] ∧ (sMoth id).mem.spWait = [] ∧ (⟨0, 1, 2⟩ : RowRef).phys = blk.mem.banks[0].phys ∧ rowsUsed blk.mem 0 1 < 64 ∧ blk.mem.roles[32] = .spare
    ∧ nx (exec (.mothScrubVisit 5 ⟨.corr1, .clean⟩ .clean) (sMoth id)) (fun t => (reg t 0x700C) == 1 && (reg t 0x7008).getLsbD 0)
    ∧ nx (exec (.marchRegion 69631 [] .pass) (sMoth id)) (fun t => t.mem.region == 0 && t.mem.passes == 1)
    ∧ nx (exec (.rowRemap 0 []) (sMoth fun m => { m with rowCopies := [⟨0, 1, 2⟩] }))
      (fun t => t.mem.rowCopies == [] && remapLen t.mem == 1 && (reg t 0x7008).getLsbD 7)
    ∧ nx (exec (.bankSwap []) (sMoth fun m => { m with copying := some (0, 32), due := [7] }))
      (fun t => t.mem.banks[0].phys == 32 && poisoned t 7 && t.mem.due == [] && t.mem.roles[32] == .service)
    ∧ nx (exec (.memCmdRow 0) (sMoth fun m => { m with rowDue := [⟨0, 1, 2⟩] })) (fun t => t.mem.rowCopies == [⟨0, 1, 2⟩])
    ∧ nx (exec (.memCmdSpare 0) (sMoth id)) (fun t => t.mem.copying == some (0, 32))
    ∧ nx (exec .memCmdClr (sMoth fun m => { m with spDone := true })) (fun t => !t.mem.spDone)
    ∧ nx (exec .remapAck { sMoth (fun m => { m with remap := Vector.replicate 3 [1, 2, 3], unmir := 3 }) with regs := [(0x782C, 1)] }) (fun t => t.mem.unmir == 1) := by
  decide +kernel
/-- HOST owns every bank; the window stands at byte 16, with AUTOINC. -/
def sHostWin : State := { sHost with regs := [(0x700C, 0x20001), (0x7010, 0x130002), (0x783C, 0x80000010)] }
theorem witness_HostWindowAndShadowLoader_HostMemoryWindow : (reg sHostWin 0x783C).toNat / 4 % 2 ^ 24 * 4 = 16 ∧ mayAccess sHostWin 0x13 (bankOf (16 / 32)) true = true
    ∧ mayAccess { sMem with regs := sHostWin.regs } 0x13 (bankOf (16 / 32)) true = false
    ∧ nx (exec (.memHostDataWrite 0x12345678 ⟨.clean, .clean⟩) sHostWin) (fun t =>
        t.mem.cells == [(16, 0x78), (17, 0x56), (18, 0x34), (19, 0x12)] && reg t 0x783C == 0x80000014)
    ∧ nx (exec (.memHostDataRead ⟨.clean, .clean⟩) { sHostWin with mem := { sHostWin.mem with cells := [(16, 0x34), (17, 0x92)] } })
      (fun t => t.host.rdata == 0x9234)
    ∧ nx (exec (.memHostDataWrite 1 ⟨.clean, .clean⟩) { sMem with regs := sHostWin.regs })
      (fun t => t.mem.cells == sMem.mem.cells && t.host.err && (reg t 0x24).toNat / 2 ^ 20 % 8 == 4)
    ∧ nx (exec (.memErrcntRead 0) sHostWin) (fun t => t.host.rdata == 0x20001 && reg t 0x700C == 0)
    ∧ nx (exec (.memNownRead 0) sHostWin) (fun t => t.host.rdata == 0x130002 && reg t 0x7010 == 0x130000) := by decide +kernel
/-- PEN owns every bank; a shadow load of engine 1 with its relocation table runs from word 4. -/
def sShadow : State := { blk with
  mem := { blk.mem with cells := [(128, 0x34), (129, 0x32), (640, 9), (641, 1)], banks := blk.mem.banks.map fun k => { k with owner := 0x12 } }
  regs := [(0x7844, 0x48200004)] }
theorem witness_HostWindowAndShadowLoader_ShadowLoader : (reg sShadow 0x7844).toNat / 2 ^ 21 % 64 = 1 ∧ (reg sShadow 0x7844).getLsbD 30 = true
    ∧ (reg sShadow 0x7844).getLsbD 27 = true ∧ (eng sShadow 1).pending = false
    ∧ (List.range 32).all (fun i => mayAccess sShadow 0x12 (bankOf (4 + i)) false) = true
    ∧ nx (exec (.penldGo 0x80200004) blk) (fun t => (reg t 0x7844).getLsbD 30 && (reg t 0x7844).toNat % 2 ^ 28 == 0x200004)
    ∧ nx (exec (.penldGo 0x80200004) sShadow) (fun t => !(reg t 0x7844).getLsbD 30 && (reg t 0x7844).getLsbD 29)
    ∧ nx (exec (.penldDone []) sShadow) (fun t => !(reg t 0x7844).getLsbD 30
        && tget {} (eng t 1).store (if (eng sShadow 1).active then 0 else 256) == ⟨0x234, true, true, false⟩
        && tget (0, false) (eng t 1).reloc (if (eng sShadow 1).active then 0 else 256) == (9, true))
    ∧ nx (exec (.penldDone (List.replicate 31 ⟨.clean, .clean⟩ ++ [⟨.due, .due⟩])) sShadow) (fun t => (reg t 0x7844).getLsbD 29) := by decide +kernel

/-! ## The lock unit -/

/-- blk with the host's address at 16 and a lock entry. -/
def sUnit (e : LockEntry) : State := { blk with regs := [(0x6030, 16)], lck := { ({} : Locks) with table := [(0, e)] } }
theorem witness_LockUnitCommands : (reg (sUnit {}) 0x6030).toNat / 4 % 2 ^ 24 * 4 = 16 ∧ findLock (sUnit {}) 16 = none ∧ freeLock (sUnit {}) = some 0
    ∧ findLock (sUnit ⟨.held, 16, 0x1005, []⟩) 16 = some 0
    ∧ nx (exec .lckHostAcq (sUnit {})) (fun t => lockEnt t 0 == ⟨.held, 16, 0x5000, []⟩ && reg t 0x6038 == 0)
    ∧ nx (exec .lckHostAcq (sUnit ⟨.held, 16, 0x1005, [0x1006]⟩)) (fun t => (lockEnt t 0).waiters == [0x1006, 0x5000]
        && nx (exec .lckHostCancel t) (fun u => (lockEnt u 0).waiters == [0x1006]))
    ∧ nx (exec .lckHostRel (sUnit ⟨.held, 16, 0x5000, []⟩)) (fun t => lockEnt t 0 == {})
    ∧ nx (exec (.lckForce 0) (sUnit ⟨.halted, 16, 0x1005, []⟩)) (fun t => (lockEnt t 0).st == .abandoned)
    ∧ nx (exec (.lckClear 0) (sUnit ⟨.abandoned, 16, 0, []⟩)) (fun t => lockEnt t 0 == {})
    ∧ nx (exec (.lockHolderLoss 0x1005) { sUnit {} with lck := { ({} : Locks) with table := [(0, ⟨.held, 16, 0x1005, []⟩)], losses := [0x1005] } })
      (fun t => (lockEnt t 0).st == .abandoned && t.lck.losses == [] && reg t 0x6050 == 0x1005) := by decide +kernel
/-- A context of engine 1 whose outbox goes to the lock unit. -/
def sCtxLock (f : Locks → Locks) : State := { sUnit {} with
  lck := f {}
  pen := { ({} : Pens) with engines := [(1, { ({} : Engine) with ctxs := [(2, { ({} : Ctx) with st := .run, outCh := some 7, inCh := some 8 })] })] }
  chans := [(7, { ({} : Chan) with reader := ⟨.lock, 0⟩, fifo := [⟨16, true, false, false, false⟩] }), (8, {})] }
theorem witness_LockRequestsOfContexts : (ctxAt (sCtxLock id) 1 2).outCh = some 7 ∧ (ctxAt (sCtxLock id) 1 2).inCh = some 8
    ∧ (chan (sCtxLock id) 7).reader.kind = .lock
    ∧ nx (exec (.penLockRequest ⟨1, 2⟩) (sCtxLock id)) (fun t => (lockEnt t 0).holder == 0x2042 && (chan t 8).fifo == [⟨0, true, false, false, false⟩])
    ∧ nx (exec (.lockReplyDeliver ⟨1, 2⟩) (sCtxLock fun l => { l with replies := [(66, [5])] }))
      (fun t => (chan t 8).fifo == [⟨5, true, false, false, false⟩]) := by decide +kernel

/-! ## Links, streams, the tandem link -/

/-- A GEAR block of a partner. -/
def gearOf (tandem : Bool) (lo hi : BitVec 8) : GearBlock := ⟨tandem, lo, hi, 0, 1, true⟩
/-- Link 0 in a mode, as a record says. -/
def sLinkAs (mode : Nat) (k : Link) : State := { sLink mode {} with str := { ({} : Streams) with links := [(0, k)] } }
theorem witness_LinkBringUp : linkOn (sLinkAs 4 {}) 0 = true ∧ linkMode (sLinkAs 4 {}) 0 = 4 ∧ linkMode (sLinkAs 2 {}) 0 < 4
    ∧ max 1 1 ≤ min (pinnedHigh (sLinkAs 4 {}) 3) 2 ∧ min (pinnedHigh (sLinkAs 4 {}) 3) 2 < max 1 2
    ∧ nx (exec (.linkUp 0) (sLinkAs 2 {})) (fun t => (link t 0).up)
    ∧ nx (exec (.linkUp 0) (sLinkAs 4 {})) (fun t => !(link t 0).up && (link t 0).gear == .announcing && t.str.sent.length == 1)
    ∧ nx (exec (.gearAnnounce 0 (gearOf false 1 2)) (sLinkAs 4 { sync := true, gear := .announcing }))
      (fun t => (link t 0).gear == .confirming && (link t 0).major == 1)
    ∧ nx (exec (.gearAnnounce 0 (gearOf false 2 2)) (sLinkAs 4 { sync := true, gear := .announcing })) (fun t => (link t 0).gear == .failed)
    ∧ nx (exec (.gearConfirm 0 (gearOf false 1 1)) (sLinkAs 4 { sync := true, gear := .confirming, major := 1 })) (fun t => (link t 0).up)
    ∧ nx (exec (.gearConfirm 0 (gearOf false 1 2)) (sLinkAs 4 { sync := true, gear := .confirming, major := 1 })) (fun t => (link t 0).gear == .failed)
    ∧ nx (exec (.gearRetry 0) (sLinkAs 4 { gear := .failed })) (fun t => (link t 0).gear == .announcing)
    ∧ nx (exec (.linkDown 0) (sLinkAs 4 { sync := true, up := true })) (fun t => (link t 0).gear == .down) := by decide +kernel
/-- Link 0 up with rings of eight descriptors at words 64 (RX) and 72 (TX), one posted in each: a buffer of four words at word 100; STR
owns every bank. -/
def sRing (mode : Nat) (posted : Bool) (caps : BitVec 8) : State := { blk with
  mem := { blk.mem with
    banks := blk.mem.banks.map (fun k => { k with owner := 0x10 })
    cells := [(2048, 0x80), (2049, 0x0C), (2052, 4), (2304, 0x80), (2305, 0x0C), (2308, 64), (3200, 0xAA), (3232, 0xBB)] }
  regs := [(0xE000, 0x11), (0xE004, BitVec.ofNat 32 mode), (0xE014 * 65536, 0x30000800), (0xE014 * 65536 + 4, 0x30000900)]
  str := { ({} : Streams) with links := [(0, { ({} : Link) with
    up := true, sync := true, caps := caps, rxTail := if posted then 1 else 0, txTail := if posted then 1 else 0 })] } }
theorem witness_FramesInAndOut_FramesReceived : linkUp (sRing 2 true 0) 0 = true ∧ (sRing 2 true 0).mem.wf = true ∧ descWord (sRing 2 true 0) 0 false 0 = 64
    ∧ (wordAt (sRing 2 true 0) 64).toNat % 2 ^ 26 / 32 = 100 ∧ (wordAt (sRing 2 true 0) 64).toNat / 2 ^ 32 % 2 ^ 16 = 4
    ∧ refusing (sRing 2 true 0) 0x10 [64] true = [] ∧ refusing (sRing 2 true 0) 0x10 (bufWords 100 4) true = []
    ∧ nx (exec (.ethFrameReceived 0 ⟨[7, 8], 64, true, clean⟩) (sRing 2 true 0)) (fun t =>
        wordAt t 100 == 7 && wordAt t 101 == 8 && (link t 0).rxHead == 1 && (wordAt t 64).toNat / 2 ^ 128 % 2 ^ 32 == 2 ^ 31 + 64)
    ∧ nx (exec (.ethFrameReceived 0 ⟨[7, 8], 64, true, clean⟩) (sRing 2 false 0)) (fun t => t.mem == (sRing 2 false 0).mem && reg t 0xE430 == 1)
    ∧ nx (exec (.streamFrameReceived 0 ⟨0xEF, 5, [7, 8, 9, 10], false, .good, clean⟩) (sRing 4 true 0)) (fun t =>
        wordAt t 103 == 10 && (wordAt t 64).toNat / 2 ^ 128 % 2 ^ 32 == 2 ^ 31 + 0xEF * 2 ^ 16 + 128) := by decide +kernel
theorem witness_FramesInAndOut_BadFramesStayOut : (link (sRing 4 true 1) 0).caps.getLsbD 0 = true
    ∧ nx (exec (.ethFrameReceived 0 ⟨[7], 32, false, clean⟩) (sRing 2 true 0)) (fun t => t.mem == (sRing 2 true 0).mem && (link t 0).cnt[5] == 1)
    ∧ nx (exec (.streamFrameReceived 0 ⟨3, 5, [7], true, .badCrc, clean⟩) (sRing 4 true 1)) (fun t =>
        t.mem == (sRing 4 true 1).mem && t.str.sent == [(0, .block [0xB4, 3, 5, 0, 0, 0, 0, 0])]) := by decide +kernel
/-- An open TX descriptor over the buffer of sRing, and sRing with it open. -/
def open1 (r : Bool) (since : Nat) : OpenTx := ⟨0, 3, 5, true, r, none, false, 0, 0x4000000C80, [0xAA, 0xBB], since⟩
def sOpen (r : Bool) (since : Nat) : State := { sRing 4 true 1 with
  regs := tput (sRing 4 true 1).regs 0xE408 100
  str := { ({} : Streams) with links := [(0, { link (sRing 4 true 1) 0 with openTx := [open1 r since] })] } }
theorem witness_FramesSentAndTandem_FramesSent : descWord (sRing 2 true 0) 0 true 0 = 72 ∧ ((wordAt (sRing 2 true 0) 72).toNat / 2 ^ 32 % 2 ^ 15 + 31) / 32 = 2
    ∧ (wordAt (sRing 2 true 0) 72).getLsbD 57 = false ∧ openOf (sOpen false 0) 0 3 5 = some (open1 false 0)
    ∧ (reg (sOpen false 4999) 0xE408).toNat % 2 ^ 12 = 100
    ∧ nx (exec (.txFrameSend 0 clean []) (sRing 2 true 0)) (fun t => (match t.str.sent with
        | [(0, .eth b)] => b.length == 68 && b.getD 0 0 == 0xAA && b.getD 32 0 == 0xBB
        | _ => false) && (link t 0).txHead == 1 && (wordAt t 72).toNat / 2 ^ 128 % 2 ^ 32 == 2 ^ 31)
    ∧ nx (exec (.txFrameSend 0 clean []) (sRing 4 true 1)) (fun t => (match t.str.sent with
        | [(0, .frame st ws _)] => st.length == 8 && ws == [0xAA, 0xBB]
        | _ => false) && (link t 0).openTx.length == 1 && t.mem == (sRing 4 true 1).mem)
    ∧ nx (exec (.ack 0 3 5) (sOpen false 0)) (fun t => (link t 0).openTx == [])
    ∧ nx (exec (.retry 0 3 5 []) (sOpen false 0)) (fun t => (link t 0).openTx == [open1 true 5000] && t.str.sent.length == 1)
    ∧ nx (exec (.retry 0 3 5 []) { sOpen false 0 with mem := blk.mem }) (fun t => (link t 0).openTx == [])
    ∧ nx (exec (.retry 0 3 5 []) (sOpen true 0)) (fun t => (link t 0).openTx == [])
    ∧ nx (exec (.ackTimeout 0 3 5) (sOpen false 0)) (fun t => (link t 0).openTx == [])
    ∧ nx (exec (.ackTimeout 0 3 5) (sOpen false 4999)) (fun t => t == sOpen false 4999) := by decide +kernel
theorem witness_FramesSentAndTandem_RingTailAndTokens : nx (exec (.ringTailWrite 0 7) (sRing 2 false 0)) (fun t => (link t 0).rxTail == 7)
    ∧ nx (exec (.ringTailWrite 0 8) (sRing 2 false 0)) (fun t => (reg t 0xE008).getLsbD 4 && t.str == (sRing 2 false 0).str)
    ∧ pendTok (link (sLink 2 { txTok := some 9 }) 0) true = some 9
    ∧ nx (exec (.strTokenDeliver 0 true) { sLink 2 { txTok := some 9 } with regs := [(0xE020 * 65536 + 4, 7)] })
      (fun t => (chan t 7).fifo == [⟨9, true, false, false, false⟩]) := by decide +kernel
/-- The STANDBY side: STR owns every bank. -/
def sStandby : State := { sRole 2 with mem := { blk.mem with banks := blk.mem.banks.map fun k => { k with owner := 0x10 } } }
theorem witness_FramesSentAndTandem_TandemLink : linkUp (sRole 1) 0 = true ∧ 0 ∈ tandemLinks (sRole 1) ∧ refusing sStandby 0x10 [2097151] true = []
    ∧ 1000 * ((reg (sRole 1) 0xE420).toNat / 2 ^ 16) ≤ (sRole 1).bc - (sRole 1).str.hbLast
    ∧ nx (exec (.heartbeat 0 ⟨1, 77, true, false, true⟩) (sRole 1)) (fun t => t.str.peerCount == 77 && (reg t 0xE418).getLsbD 2 && t.avl.role == 1)
    ∧ nx (exec (.heartbeat 0 ⟨1, 77, true, false, true⟩) { sRole 1 with avl := { (sRole 1).avl with roleWindow := some 4000 } }) (fun t => t.avl.role == 2)
    ∧ nx (exec (.mirror 0 ⟨0xF0, 0, [BitVec.ofNat 256 (2097151 * 32 + 2 ^ 32), 0xABCD], true, .good, clean⟩) sStandby) (fun t => wordAt t 2097151 == 0xABCD)
    ∧ nx (exec (.ckptRecord 0 ⟨0xF1, 0, List.replicate 15 3, false, .good, clean⟩) { sRole 1 with avl := { (sRole 1).avl with pairs := [(3, { ({} : Pair) with mirror := true })] } })
      (fun t => (pairAt t 3).record == some (List.replicate 15 3))
    ∧ nx (exec .heartbeatSend (sRole 1)) (fun t => t.str.hbCount == 1 && t.str.sent.length == 1)
    ∧ nx (exec .peerLost (sRole 1)) (fun t => (reg t 0xE418).getLsbD 1)
    ∧ nx (exec (.mirrorSend 1 []) { sRole 1 with str := { (sRole 1).str with mirrorQ := [(5, 7)] } }) (fun t => t.str.mirrorQ == []
        && (match t.str.sent with | [(0, .frame _ ws _)] => ws == [BitVec.ofNat 256 (5 * 32 + 2 ^ 32), 7] | _ => false))
    ∧ nx (exec .tndResync { sRole 1 with regs := [(0xE424, 5)] }) (fun t => t.str.resync == [0, 2]) := by decide +kernel

/-! ## The fabric port -/

/-- The port up with credits; FAB owns every bank. -/
def sFab (f : Fabric → Fabric) : State := { blk with
  mem := { blk.mem with banks := blk.mem.banks.map fun k => { k with owner := 0x11 } }
  regs := [(0x12008, 1), (0x12014, 0x00A01005), (0x12050, 100), (0x12054, 0x8001), (0x1202C * 65536 + 9, 0x8200)]
  fab := f { ({} : Fabric) with up := true, crdWork := 5, crdExc := 2, crdData := 4, crdRsp := 3, crdResult := 2, nextOrder := 10, tokens := 8 } }
theorem witness_FabricPortAndDispatch_FabricPortAndMemory : refusing (sFab id) 0x11 (bufWords 100 3) true = [] ∧ refusing sMem 0x11 (bufWords 100 3) true ≠ []
    ∧ nx (exec .fabPortUp { sFab id with fab := {} }) (fun t => t.fab.up && t.fab.crdWork == 5 && t.fab.crdExc == 2 && t.fab.crdData == 5)
    ∧ nx (exec .fabPortDown (sFab id)) (fun t => !t.fab.up && (reg t 0x1200C).getLsbD 1)
    ∧ nx (exec .fabPortRestart (sFab id)) (fun t => !t.fab.up)
    ∧ nx (exec (.fabWrite true (100 * 32 + 3 * 2 ^ 32) #v[⟨7, 0⟩, ⟨8, 0⟩, ⟨9, 0⟩]) (sFab id)) (fun t => wordAt t 100 == 7 && wordAt t 102 == 9)
    ∧ nx (exec (.fabRead (100 * 32 + 1 * 2 ^ 32) []) (sFab id)) (fun t => t.fab.crdRsp == 2 && t.fab.sent.length == 1)
    ∧ nx (exec (.fabWrite true (100 * 32 + 3 * 2 ^ 32) #v[⟨7, 0⟩, ⟨8, 0⟩, ⟨9, 0⟩]) { sFab id with mem := blk.mem }) (fun t => t.mem.cells == [] && t.fab.crdRsp == 2)
    ∧ nx (exec (.fabRead (100 * 32 + 4 * 2 ^ 32) []) (sFab id)) (fun t => (reg t 0x1200C).getLsbD 2 && t.fab.crdData == 3)
    ∧ nx (exec (.fabWrite false 0 (Vector.replicate 3 ⟨0, 0⟩)) (sFab id)) (fun t => (reg t 0x1200C).getLsbD 2 && t.fab == (sFab id).fab)
    ∧ nx (exec (.creditReturn true) (sFab fun f => { f with rspQ := [.werr 5] })) (fun t => t.fab.sent == [.werr 5] && t.fab.crdRsp == 3)
    ∧ nx (exec (.creditReturn true) (sFab id)) (fun t => t.fab.crdRsp == 4)
    ∧ nx (exec (.creditReturn false) (sFab id)) (fun t => t.fab.crdResult == 3) := by decide +kernel
/-- A descriptor of class 9 with a ticket. -/
def desc9 (tk : Word) : Vector Word 32 := ((((Vector.replicate 32 0).set 0 0x01000000).set 1 tk).set 2 5).set 3 0x00070900
/-- An elastic spoke wired to the port through channel 7, and a queued descriptor. -/
def sDispatch : State := { sFab (fun f => { f with peloton := [(0, { ({} : Peloton) with st := .queued, ticket := 1, desc := desc9 1 })], queue := [(2 * 16, 0)] }) with
  spokes := [(5, { spr with elastic := true, egroup := 2 })]
  chans := [(7, { ({} : Chan) with writer := ⟨.fabric, 0⟩, reader := ⟨.spoke, 5⟩ })] }
theorem witness_FabricPortAndDispatch_DescriptorsDispatch : freePel (sFab id) = some 0 ∧ descRefused (sFab id) (desc9 1) false = false ∧ descRefused (sFab id) (Vector.replicate 32 0) true = true
    ∧ nextDesc sDispatch 2 = some 0 ∧ nextReady sDispatch 0 2 = some 5 ∧ workChan sDispatch 5 = some 7
    ∧ nx (exec (.workDescriptor (desc9 1)) (sFab id)) (fun t => (pel t 0).st == .queued && (pel t 0).ticket == 1 && t.fab.nextOrder == 11)
    ∧ nx (exec (.excDescriptor (Vector.replicate 32 0)) (sFab id)) (fun t => (pel t 0).st == .recorded && (pel t 0).status == 7)
    ∧ nx (exec (.workDescriptor (desc9 1)) (sFab fun f => { f with crdWork := 0 })) (fun t => (reg t 0x1200C).getLsbD 2)
    ∧ nx (exec (.dispatch 0 2) sDispatch) (fun t => (pel t 0).st == .dispatched && (pel t 0).spoke == some 5 && t.fab.queue == []
        && (tget none t.fab.deliver 7).map (·.words) == some ((desc9 1).toList.take 8)
        && nx (exec (.workMessageDeliver 7) t) (fun u => (chan u 7).fifo.map (·.word) == [0x01000000, 1, 5, 0x00070900])) := by decide +kernel
/-- A dispatched entry, and its result on channel 7. -/
def sResult (c2 : Word) : State := { sFab (fun f => { f with peloton := [(0, { ({} : Peloton) with
    st := .dispatched, ticket := 1, flow := 5, rver := 7, spoke := some 5, since := 4900 })] }) with
  chans := [(7, { ({} : Chan) with writer := ⟨.spoke, 5⟩, reader := ⟨.fabric, 0⟩
                                   fifo := [⟨1, false, false, false, false⟩, ⟨0x10000005, false, false, false, false⟩, ⟨c2, false, false, false, false⟩, ⟨9, true, false, false, false⟩] })] }
theorem witness_ResultsLeaveInFlowOrder : resultEntry (sResult 7) 5 [1, 0x10000005, 7, 9] = some 0 ∧ (7 : Word).toNat / 2 ^ 20 % 8 = 0
    ∧ bucketOpen (sResult 7) = true ∧ (reg (sResult 7) 0x12050).toNat % 2 ^ 24 ≤ (sResult 7).bc - (pel (sResult 7) 0).since
    ∧ nx (exec (.resultRecord 7) (sResult 7)) (fun t => (pel t 0).st == .recorded && (pel t 0).status == 0 && (chan t 7).fifo == []
        && nx (exec .pelotonRelease t) (fun u => u.fab.peloton == [] && u.fab.crdResult == 1 && u.fab.sent.length == 1))
    ∧ nx (exec (.resultTimeout 0) (sResult 7)) (fun t => (pel t 0).status == 2 && (reg t 0x1200C).getLsbD 3) := by decide +kernel

/-! ## Timers and performance counters -/

/-- blk with timer 2 in a state and a control word. -/
def sTmr (ctl : Word) (x : Timer) : State := { blk with timers := blk.timers.set 2 x, regs := [(0x8080, ctl), (0x8814 * 65536 + 8, 7), (0x8814 * 65536 + 9, 5), (0x8814 * 65536 + 10, 2)]
                                                        chans := [(7, { ({} : Chan) with writer := ⟨.timer, 2⟩ })] }
theorem witness_TimerCommandsAndEvents_TimerCommands :
    nx (exec (.tmrCapture 2) (sTmr 0 { count := 9 })) (fun t => (timer t 2).latch == 9)
    ∧ nx (exec (.tmrStop 2) (sTmr 0 { count := 9, run := true })) (fun t => !(timer t 2).run)
    ∧ nx (exec (.tmrReset 2) (sTmr 0 { count := 9, reload := 4, run := true })) (fun t => (timer t 2).count == 4 && !(timer t 2).run)
    ∧ nx (exec (.tmrLoadNow 2) (sTmr 0 { count := 9, reload := 4, run := true })) (fun t => (timer t 2).count == 4 && (timer t 2).run)
    ∧ nx (exec (.tmrClamp 2) (sTmr 0 { count := 9, reload := 4 })) (fun t => (timer t 2).count == 4)
    ∧ nx (exec (.tmrStart 2) (sTmr 0 { reload := 4 })) (fun t => (timer t 2).count == 4 && (timer t 2).run)
    ∧ nx (exec (.tmrStart 2) (sTmr 0 {})) (fun t => !(timer t 2).run && (reg t 0x80A4).getLsbD 13)
    ∧ nx (exec (.tmrReloadHiWrite 2 1) (sTmr 0 { reloadLo := 5 })) (fun t => (timer t 2).reload == 0x100000005)
    ∧ nx (exec (.tmrMatchHiWrite 2 1) (sTmr 0 { matchLo := 5 })) (fun t => (timer t 2).match_ == 0x100000005)
    ∧ nx (exec (.tmrCapqRead 2) (sTmr 0 {})) (fun t => t.host.rdata == 0)
    ∧ nx (exec (.tmrCapqRead 2) (sTmr 0 { capq := [(9, true), (8, false)] })) (fun t => t.host.rdata == 7 && (timer t 2).latch == 9) := by
  decide +kernel
/-- Control words: a linked timer 3 that stops; the same as a one-shot; a token; a match. -/
theorem witness_TimerCommandsAndEvents_TimerEvents : (sTmr 0x4300 { count := 1, reload := 4, run := true, owed := 1 }).dbg.frz = false
    ∧ (3 : Fin 32).val = (reg (sTmr 0x4300 {}) (0x8000 + 0x40 * (2 : Fin 32).val)).toNat / 2 ^ 8 % 32
    ∧ (0 : Nat) % tmrDiv (sTmr 0x4300 {}) 2 = tmrDiv (sTmr 0x4300 {}) 2 - 1 ∧ (item (sTmr 0 {}) 0x8814 (2 * 4)).toNat % 2 ^ 14 = 7
    ∧ nx (exec (.timerZero 2) (sTmr 0x4300 { count := 1, reload := 4, run := true, owed := 1 }))
      (fun t => (timer t 2).count == 4 && (timer t 2).run && (reg t 0x80A4).getLsbD 8 && (timer t 3).linkDue == [(2, 2)])
    ∧ nx (exec (.timerZero 2) (sTmr 0x6340 { count := 1, reload := 4, run := true, owed := 1 })) (fun t => !(timer t 2).run && (timer t 2).count == 4)
    ∧ nx (exec (.timerZero 2) (sTmr 0x1400300 { count := 1, reload := 4, run := true, owed := 1, seq := 5 }))
      (fun t => (chan t 7).fifo == [⟨0x10000005, true, false, false, false⟩] && (timer t 2).seq == 6)
    ∧ nx (exec (.timerMatch 2) (sTmr 0x380 { count := 6, match_ := 5, run := true, owed := 1 }))
      (fun t => (reg t 0x80A4).getLsbD 9 && (timer t 2).count == 5 && (timer t 2).run)
    ∧ nx (exec (.timerTokenDeliver 2) (sTmr 0 { tok := some 3 })) (fun t => (chan t 7).fifo == [⟨3, true, false, false, false⟩])
    ∧ (item (sTmr 0 {}) 0x8814 9).toNat % 4 = 1 ∧ (item (sTmr 0 {}) 0x8814 9).getLsbD 2 = true ∧ (item (sTmr 0 {}) 0x8814 10).toNat % 4 ≠ 1
    ∧ nx (exec (.timerCaptureInput 2 0 true) (sTmr 0 { past1 := 55 })) (fun t => (timer t 2).capq == [(55, false)])
    ∧ nx (exec (.timerCaptureInput 2 0 true) (sTmr 0 { past1 := 55, capq := List.replicate 4 (1, true) }))
      (fun t => (timer t 2).capq == List.replicate 4 (1, true) && (reg t 0x80A4).getLsbD 10)
    ∧ nx (exec (.timerCaptureInput 2 1 true) (sTmr 0 { capDue := [(1, 44, 4998)] })) (fun t => (timer t 2).capq == [(44, true)] && (timer t 2).capDue == []) := by
  decide +kernel
/-- A link action acts in the next bc, and a timer that it starts counts from there (R219, R220). -/
theorem test_link_next_bc : nx (step { sTmr 0 {} with timers := blk.timers.set 3 { ({} : Timer) with run := true, count := 9, linkDue := [(2, 2)] } })
    (fun t => !(timer t 3).run && (timer t 3).linkDue == []) = true := by decide +kernel
/-- A counter of core 1 above 2^32, selected. -/
def sPmc : State := { blk with
  regs := [(0x6814, 0x201)], pmc := { ({} : Pmc) with cores := [(1, { ({} : PmcCore) with ctr := (Vector.replicate 18 0).set 2 0x500000007 })] } }
theorem witness_PerformanceCounterCommands_PerformanceCounters : (reg sPmc 0x6814).toNat % 64 = 1 ∧ (reg sPmc 0x6814).toNat / 256 % 32 = 2
    ∧ nx (exec .pmcSnap sPmc) (fun t => (pmcCore t 1).shadow[2] == 0x500000007 && t.pmc.snapValid)
    ∧ nx (exec .pmcClear sPmc) (fun t => (pmcCore t 1).ctr[2] == 0)
    ∧ nx (exec .pmcFreeze sPmc) (fun t => t.pmc.frozen) ∧ nx (exec .pmcUnfreeze sPmc) (fun t => !t.pmc.frozen)
    ∧ nx (exec (.pmcDataLoRead .host) sPmc) (fun t => t.host.rdata == 7 && t.pmc.holdHost == 5) := by decide +kernel

/-! ## Power and field energy -/

/-- blk in downshift by sag and temperature. -/
def sDown : State := { blk with pwr := { blk.pwr with dsSag := true, sagAge := 2500, dsTherm := true, temps := Vector.replicate 8 2000 } }
theorem witness_RailsAndDownshift : 697 * 100 < blk.pwr.vset.toNat * 93 ∧ downshift sDown = true ∧ 659 * 100 < blk.pwr.vset.toNat * 88
    ∧ nx (exec (.sag 697) blk) (fun t => t.pwr.dsSag && (reg t 0x80C).getLsbD 8 && !(reg t 0x80C).getLsbD 9 && reg t 0x824 == 697)
    ∧ nx (exec (.sag 698) blk) (fun t => !t.pwr.dsSag)
    ∧ nx (exec (.sag 659) blk) (fun t => (reg t 0x80C).getLsbD 9)
    ∧ nx (exec (.downshiftExit 2000) sDown) (fun t => !t.pwr.dsSag && t.pwr.dsTherm && t.pwr.sagHold == 1000000000)
    ∧ nx (exec (.downshiftExit 1999) sDown) (fun t => t.pwr.dsSag)
    ∧ nx (exec (.pwrForceDs true) blk) (fun t => t.pwr.dsForced)
    ∧ nx (exec .sagMinRestart blk) (fun t => reg t 0x824 == 0xFFFF)
    ∧ nx (exec (.vcoreReset 659) blk) (fun t => t.coreReset && (reg t 0x80C).getLsbD 10)
    ∧ nx (exec (.railWarn false 743) blk) (fun t => (reg t 0x80C).getLsbD 11)
    ∧ nx (exec (.railWarn true 791) blk) (fun t => !t.pwr.vsdGood && nx (exec (.railWarn true 801) t) (fun u => u.pwr.vsdGood))
    ∧ nx (exec (.avsStep .clean) { blk with regs := [(0x810, 0xC82BC000), (0x814, 700)] }) (fun t => t.pwr.vset == 745 && t.pwr.avsWait == 10000000)
    ∧ nx (exec (.avsStep .failed) blk) (fun t => (reg t 0x80C).getLsbD 14) := by decide +kernel
theorem witness_TemperatureLedgerAndPmbus_TemperatureAgingLedger :
    nx (exec (.tempSample ((Vector.replicate 8 0).set 3 0x7FF)) blk) (fun t => t.coreReset && t.pwr.tripHold && t.pwr.dsTherm)
    ∧ nx (exec (.tempSample (Vector.replicate 8 0)) blk) (fun t => !t.coreReset && !t.pwr.dsTherm)
    ∧ nx (exec (.agingMeasure (Vector.replicate 16 1050) 0 2) { blk with pwr := { blk.pwr with ageRef := Vector.replicate 16 1000 } })
      (fun t => t.pwr.margins[0] == 500 && t.pwr.margins[1] == 0 && t.pwr.excluded == 2)
    ∧ nx (exec .ledgerHour blk) (fun t => reg t 0x870 == 1 && (reg t 0x80C).getLsbD 18)
    ∧ nx (exec .pwrTempMaxRead { blk with pwr := { blk.pwr with tempMax := some 9 } }) (fun t => t.host.rdata == 9 && t.pwr.tempMax == none)
    ∧ nx (exec (.nrgMeasPeakRead 1 false) { blk with nrg := blk.nrg.set 1 { ({} : NrgGroup) with iNow := 2, iPeak := 3 } })
      (fun t => t.host.rdata == 0x30002 && t.nrg[1].iPeak == 0) := by decide +kernel
/-- Two entries of the sequence table are valid; entry 3 gives telemetry and waits 1 ms for POWER_GOOD#. -/
def sPmb : State := { blk with
  pwr := { blk.pwr with seqTab := ((Vector.replicate 32 0).set 1 0x80000000).set 3 0x91000000 }, regs := [(0x84C, 4), (0x864, 0x5678)] }
/-- Every transfer of a step at once, or OPERATION failing; POWER_GOOD# after n ms. -/
def stepOf (op : XferEnd) (n : Option Nat) : SeqResult := ⟨.clean, op, .clean, n⟩
theorem witness_TemperatureLedgerAndPmbus_PmbusSequences : seqEntries sPmb = [1, 3] ∧ telEntries sPmb = [3] ∧ (reg sPmb 0x84C).getLsbD 2 = true
    ∧ stepTime true (seqEntry sPmb 1) (stepOf .clean none) = 0 ∧ stepTime true (seqEntry sPmb 3) (stepOf .clean none) = 1000000
    ∧ nx (exec .pmbUp sPmb) (fun t => t.pwr.seqRun == some (true, [1, 3])
        && nx (exec .pmbDown t) (fun u => u.pwr.seqRef && u.pwr.seqRun == some (true, [1, 3]))
        && nx (exec (.pmbSeqStep (stepOf .clean none)) t) (fun u => u.pwr.seqRun == some (true, [3])
          && nx (exec (.pmbSeqStep (stepOf .clean (some 0))) u) (fun v => v.pwr.seqRun == none && !(reg v 0x80C).getLsbD 15))
        && nx (exec (.pmbSeqStep (stepOf .failed none)) t) (fun u => u.pwr.seqRun == none && (reg u 0x80C).getLsbD 15 && reg u 0x868 == 0x100))
    ∧ nx (exec (.pmbSeqStep (stepOf .clean none)) { sPmb with pwr := { sPmb.pwr with seqRun := some (true, [3]), seqAge := 1000000 } })
      (fun t => t.pwr.seqRun == none && (reg t 0x80C).getLsbD 15)
    ∧ nx (exec .pmbDown sPmb) (fun t => t.pwr.seqRun == some (false, [3, 1])
        && nx (exec (.pmbSeqStep (stepOf .failed none)) t) (fun u => u.pwr.seqRun == some (false, [1])))
    ∧ nx (exec (.pmbRaw .clean) sPmb) (fun t => t.pwr.bus[0].length == 1 && t.pwr.bus[1] == [])
    ∧ nx (exec (.pmbRaw .failed) sPmb) (fun t => reg t 0x868 == 0x5678)
    ∧ nx (exec (.pmbRawrd .clean 0x1234) sPmb) (fun t => reg t 0x864 == 0x12345678)
    ∧ nx (exec (.pmbPoll [⟨3, Vector.replicate 4 .clean, #v[1, 2, 3, 4]⟩]) sPmb) (fun t => tget #v[0, 0, 0, 0] t.pwr.tel 3 == #v[1, 2, 3, 4]) := by
  decide +kernel
/-- Group 1 with VIO good and certified for 10 mA and 50 mW, in imago mode, with a ledger value and a measured VIO. -/
def sNrg (e : BitVec 16) (mv : Nat) : State := { blk with
  nrg := blk.nrg.set 1 { ({} : NrgGroup) with straps := ⟨50, 10, 50, 0⟩, vioGood := true, limE := 20, eNow := e }
  pwr := { blk.pwr with rails := blk.pwr.rails.set 1 (BitVec.ofNat _ mv) }
  chry := blk.chry.set 1 { ({} : Chrysalis) with active := false, causes := 0 } }
theorem witness_GovernorProtectsPins : (0 : Fin 64).val = (reg (sNrg 0 0) (0xC18 + 0x40 * 1)).toNat % 64
    ∧ exceeds (sNrg 20 1980) 1 = ⟨false, none, false, false⟩ ∧ exceeds (sNrg 21 1980) 1 = ⟨false, none, false, true⟩
    ∧ exceeds (sNrg 20 1981) 1 = ⟨true, none, false, false⟩
    ∧ nx (exec (.nrgLimitWrite 1 .pin 12) (sNrg 0 0)) (fun t => t.nrg[1].pinLim[0] == 9 && (reg t 0xC54).getLsbD 4)
    ∧ nx (exec (.nrgLimitWrite 1 .current 10) (sNrg 0 0)) (fun t => t.nrg[1].limI == 10 && !(reg t 0xC54).getLsbD 4)
    ∧ nx (exec (.nrgLimitWrite 1 .energy 51) (sNrg 0 0)) (fun t => t.nrg[1].limE == 50)
    ∧ nx (exec (.governorExceed 1) (sNrg 21 1980)) (fun t => (chry t 1).active && t.nrg[1].fold && !t.nrg[1].ovFloat && reg t 0xE08 == 0x9FF)
    ∧ nx (exec (.governorExceed 1) (sNrg 20 1981)) (fun t => (chry t 1).active && t.nrg[1].ovFloat && (chry t 1).causes.getLsbD 3
        && nx (exec (.vioBelowOvLevel 1) { t with pwr := (sNrg 0 1980).pwr }) (fun u => !u.nrg[1].ovFloat))
    ∧ nx (exec (.vioLost 1 1601) (sNrg 0 0)) (fun t => !t.nrg[1].vioGood && (chry t 1).active && (reg t 0xC54).getLsbD 5)
    ∧ nx (exec (.vioGood 2 1621) (sNrg 0 0)) (fun t => t.nrg[2].vioGood && (chry t 2).pc == 16) := by decide +kernel

/-! ## Chrysalis mode: the words are written out from R148's encoding -/

/-- Group g's sequencer runs at word 32 of its store, with VIO good. -/
def sSeq (g : Fin 8) (w : BitVec 24) (c : Chrysalis) : State := { blk with
  nrg := blk.nrg.set g { ({} : NrgGroup) with vioGood := true, limE := 20 }
  chry := blk.chry.set g { c with active := true, started := true, fast := true, pc := 32, store := c.store.set 0 w } }
theorem witness_SequencerAndChrysalisControl_SequencerInstructions : (sSeq 1 0 {}).nrg[1].ovFloat = false
    ∧ chryDoes (sSeq 1 0x103141 {}) 1 (.drive false 3 5 true) = true ∧ chryDoes (sSeq 1 0x6C0030 {}) 1 .illegal = true
    ∧ chryDoes (sSeq 1 0x7000AB {}) 1 .illegal = true
    ∧ nx (exec (.chryDrive 1 false 3 5 true) (sSeq 1 0x103141 {})) (fun t => (pinAt t 69).level && (pinAt t 69).out && !(pinAt t 70).out && (chry t 1).pc == 33)
    ∧ nx (exec (.chryFloat 1 3 5) (sSeq 1 0x203140 {})) (fun t => !(pinAt t 69).out && (chry t 1).pc == 33)
    ∧ nx (exec (.chrySample 1 3 true) (sSeq 1 0x303000 {})) (fun t => (chry t 1).s == 1)
    ∧ nx (exec (.chryWaitt 1 9) (sSeq 1 0x400009 {})) (fun t => (chry t 1).pc == 33)
    ∧ nx (exec (.chryWaitp 1 3 true 9 false) (sSeq 1 0x503809 {})) (fun t => !(chry t 1).f && (chry t 1).pc == 33)
    ∧ nx (exec (.chryWaitp 1 3 true 9 true) (sSeq 1 0x503809 {})) (fun t => (chry t 1).f && (chry t 1).pc == 33)
    ∧ nx (exec (.chryLoopDec 1 7) (sSeq 1 0x600007 { k := 1 })) (fun t => (chry t 1).pc == 7 && (chry t 1).k == 0)
    ∧ nx (exec (.chryLoopDec 1 7) (sSeq 1 0x600007 {})) (fun t => (chry t 1).pc == 33 && (chry t 1).k == 0)
    ∧ nx (exec (.chryLoopJumpF0 1 7) (sSeq 1 0x680007 { f := true })) (fun t => (chry t 1).pc == 33)
    ∧ nx (exec (.chryLoopJump 1 47) (sSeq 1 0x6C002F {})) (fun t => (chry t 1).pc == 47)
    ∧ nx (exec (.chryLoopJump 1 48) (sSeq 1 0x6C0030 {})) (fun t => !(chry t 1).halted && (chry t 1).pc == 32)
    ∧ nx (exec (.sequencerIllegalWord 1) (sSeq 1 0x6C0030 {})) (fun t => (chry t 1).halted && (reg t 0xC6C).getLsbD 13)
    ∧ nx (exec (.chryLoopLoad 1 9) (sSeq 1 0x640009 {})) (fun t => (chry t 1).k == 9) := by decide +kernel
theorem witness_SequencerAndChrysalisControl_SequencerBoot : chryDoes (sSeq 0 0x7000AB {}) 0 (.send false 0xAB) = true
    ∧ nx (exec (.chryShiftSend 0 false 0xAB) (sSeq 0 0x7000AB {})) (fun t => (chry t 0).sent == [0xAB] && (chry t 0).cs)
    ∧ nx (exec (.chryShiftDummy 0 true 7) (sSeq 0 0x7A0007 {})) (fun t => (chry t 0).dummies == 8 && !(chry t 0).cs)
    ∧ nx (exec (.chryShiftStream 0 true [0xABCD]) (sSeq 0 0x7E0000 {})) (fun t => (chry t 0).a == 4 && t.cfg.copies[0].st == .writing)
    ∧ nx (exec (.chryStoreCocoon 0) (sSeq 0 0x800000 { s := 7, a := 4 })) (fun t => w32 (tget 0 t.cfg.copies[0].words 0) 1 == 7)
    ∧ nx (exec (.chryStoreResult 0) (sSeq 0 0x840000 { s := 7 })) (fun t => (chry t 0).result == 7)
    ∧ nx (exec (.chryStoreAddr 0) (sSeq 0 0x880000 { s := 7 })) (fun t => (chry t 0).a == 7)
    ∧ nx (exec (.chryCmp 0 0) (sSeq 0 0x940000 {})) (fun t => (chry t 0).pc == 33)
    ∧ nx (exec (.chryHalt 1) (sSeq 1 0 {})) (fun t => (chry t 1).halted && nx (exec (.chryWaitt 1 3) t) (fun u => u == t)) := by decide +kernel
theorem witness_SequencerAndChrysalisControl_ChrysalisControl : (sSeq 1 0 {}).nrg[1].eNow.toNat < (sSeq 1 0 {}).nrg[1].limE.toNat
    ∧ (chry (sSeq 1 0 { causes := 0 }) 1).causes = 0
    ∧ nx (exec (.chryHold 1 true true) (sNrg 0 0)) (fun t => (chry t 1).active && (chry t 1).causes.getLsbD 5 && (chry t 1).pc == 40)
    ∧ nx (exec (.chryHold 1 false true) (sNrg 0 0)) (fun t => !(chry t 1).active)
    ∧ nx (exec (.chryRelease 1 true) (sSeq 1 0 { causes := 0b11000 })) (fun t => (chry t 1).causes == 0)
    ∧ nx (exec (.chryRelease 1 false) (sSeq 1 0 { causes := 0b01000 })) (fun t => (chry t 1).causes == 0)
    ∧ nx (exec (.chryRelease 1 false) (sSeq 1 0 { causes := 0b11000 })) (fun t => (chry t 1).causes == 0b11000 && (reg t 0xC6C).getLsbD 14)
    ∧ nx (exec (.chryFastSelect 1 true) (sSeq 1 0 {})) (fun t => (chry t 1).fast)
    ∧ nx (exec (.chrysalisReturn 1) (sSeq 1 0 { causes := 0 })) (fun t => !(chry t 1).active && (chry t 1).causes == 0) := by decide +kernel
/-- R153: the first word of the default safe-state program, and the one that loops. -/
theorem witness_SequencerWords : chryDecode 0x940000 = .cmp ∧ chryDecode 0xA00000 = .illegal ∧ chryDecode 0x100001 = .drive false 0 0 true ∧ chryDecode (romWords.getD 16 0) = .drive true 0 63 false ∧ chryDecode (romWords.getD 20 0) = .loopJump 16 := by decide +kernel

/-! ## Pin engines -/

/-- Context 2 of engine 1, in imago mode, at its turn. -/
def pen1 : CtxId := ⟨1, 2⟩
/-- Neither loop nor seam. -/
def wb : WordBits := ⟨false, false⟩
/-- A running context that owns pins 4 to 7 of its group and has channels 7 in and 8 out. -/
def cx : Ctx := { ({} : Ctx) with st := .run, pc := 10, own := true, base := 4, count := 4, inCh := some 7, outCh := some 8, ta := 3, tb := 5 }
/-- Group 0 in imago mode; engine 1 runs context 2. -/
def sPen (x : Ctx) (f : Engine → Engine) : State := { blk with
  chry := blk.chry.set 0 { ({} : Chrysalis) with active := false, causes := 0 }
  regs := [(0xA020, 0x401)], pen := { ({} : Pens) with engines := [(1, f { ({} : Engine) with ctxs := [(2, x)] })] } }
/-- sPen with channels 7 and 8 holding words. -/
def sPenCh (x : Ctx) (i o : Chan) : State := { sPen x id with chans := [(7, { i with reader := ⟨.engine, 66⟩ }), (8, { o with writer := ⟨.engine, 66⟩ })] }
theorem atTurn_pen1 : AtTurn (sPen cx id) pen1 := ⟨by decide, by decide⟩
theorem witness_PenRegisterWords : AtTurn (sPen cx id) pen1 ∧ (penForm (sPen cx id) (.bLa pen1 ⟨true, false⟩ 99)).isSome = true
    ∧ (penForm (sPen { cx with inbox := some (7, true) } id) (.take pen1 wb 0 true .refill)).isSome = true
    ∧ (penForm (sPen { cx with trig := true } id) (.auxTriggerWait pen1 wb 7)).isSome = true
    ∧ (penForm (sPen cx id) (.hold pen1 wb 7 .low 3 false)).isSome = true := by
  refine ⟨atTurn_pen1, ?_, ?_, ?_, ?_⟩ <;> decide +kernel
theorem witness_PutWritesOwnedPins : AtTurn (sPen cx id) pen1 ∧ cx.own = true := ⟨atTurn_pen1, rfl⟩
theorem test_pen_words :
    nx (exec (.bLa pen1 wb 99) (sPen cx id)) (fun t => (ctxAt t 1 2).pc == 99 && (ctxAt t 1 2).ta == 2)
    ∧ nx (exec (.bLa pen1 wb 99) (sPen { cx with ta := 1 } id)) (fun t => (ctxAt t 1 2).pc == 11 && (ctxAt t 1 2).ta == 0)
    ∧ nx (exec (.auxNop pen1 ⟨true, false⟩ 3) (sPen { cx with loop0 := 4 } id)) (fun t => (ctxAt t 1 2).pc == 4 && (ctxAt t 1 2).delay == 3)
    ∧ nx (exec (.samp pen1 wb 0 3 true) (sPen { cx with cdir := true } id)) (fun t => (ctxAt t 1 2).cap == 0x80000000 && (ctxAt t 1 2).capn == 1)
    ∧ nx (exec (.put pen1 wb .pins 0x3F) (sPen cx id)) (fun t => (pinAt t 4).level && (pinAt t 7).level && !(pinAt t 8).level && !(pinAt t 3).level)
    ∧ nx (exec (.put pen1 wb .dirs 0x3F) (sPen { cx with own := false } id)) (fun t => !(pinAt t 4).out && (reg t 0xA03C).getLsbD 7)
    ∧ nx (exec (.put pen1 wb .tb 0x3F) (sPen cx id)) (fun t => (ctxAt t 1 2).tb == 0x3F) := by decide +kernel
theorem witness_EmitCopyAndSend : fills (ctxAt (sPen cx id) 1 2) = false ∧ copyValue cx 0 .revTa = some 0xC0000000
    ∧ (chan (sPenCh cx {} { fifo := words 5, staged := [1, 2, 3] }) 8).staged.length < 4
    ∧ nx (exec (.emit pen1 wb 0 1) (sPen { cx with emt := 0x80000000, emtl := 1 } id)) (fun t => (pinAt t 5).level && (ctxAt t 1 2).emtl == 0)
    ∧ nx (exec (.copy pen1 wb .cap .revTa 0) (sPen cx id)) (fun t => (ctxAt t 1 2).cap == 0xC0000000)
    ∧ nx (exec (.copy pen1 wb .ta .inbox 0) (sPen { cx with inbox := some (9, true) } id)) (fun t => (ctxAt t 1 2).ta == 9 && (ctxAt t 1 2).e)
    ∧ nx (exec (.copy pen1 wb .ta .status 0) (sPenCh { cx with emtl := 3 } {} {})) (fun t => (ctxAt t 1 2).ta == 0xC02)
    ∧ nx (exec (.send pen1 wb 0 false true .ta 0) (sPenCh cx {} { fifo := words 4, staged := [1, 2, 9] }))
      (fun t => (chan t 8).fifo.map (·.word) == [0, 1, 2, 3, 1, 2, 9, 3] && (chan t 8).staged == [])
    ∧ nx (exec (.send pen1 wb 0 true true .ta 0) (sPenCh cx {} { fifo := words 8 })) (fun t => (ctxAt t 1 2).st == .blocked)
    ∧ nx (exec (.send pen1 wb 0 true false .ta 0) (sPenCh cx {} { fifo := words 8 })) (fun t => (chan t 8).fifo.length == 8 && reg t 0xA834 == 1) := by
  decide +kernel
theorem witness_EngineChannelsWaitsAndWakes_InboxAndOutbox : (capBit (sPen cx id) (.samp pen1 wb 0 0 true)).isSome = true ∧ sends { cx with autosend := true, cfl := 1 } = true
    ∧ fills { cx with autofill := true } = true
    ∧ nx (exec (.take pen1 wb 0 true .ta) (sPen cx id)) (fun t => (ctxAt t 1 2).st == .blocked)
    ∧ nx (exec (.take pen1 wb 0 false .ta) (sPen cx id)) (fun t => (ctxAt t 1 2).pc == 11)
    ∧ nx (exec (.takeMsg pen1 wb 0 true) (sPenCh { cx with inbox := some (1, false) }
        { fifo := [⟨2, false, false, false, false⟩, ⟨3, false, false, false, false⟩, ⟨4, true, false, false, false⟩] } {}))
      (fun t => (ctxAt t 1 2).ta == 1 && (ctxAt t 1 2).tb == 2 && (ctxAt t 1 2).cap == 3 && (ctxAt t 1 2).emt == 4 && (ctxAt t 1 2).e)
    ∧ nx (exec (.takeMsg pen1 wb 0 true) (sPenCh { cx with inbox := some (1, false) } { fifo := words 2 } {})) (fun t => (ctxAt t 1 2).st == .blocked)
    ∧ nx (exec (.samp pen1 wb 0 0 true) (sPen { cx with autosend := true, cfl := 1 } id)) (fun t => (ctxAt t 1 2).outbox == some 1)
    ∧ nx (exec (.samp pen1 wb 0 0 true) (sPen { cx with autosend := true, cfl := 1, outbox := some 9 } id)) (fun t => reg t 0xA834 == 1)
    ∧ nx (exec (.auxEmitTa pen1 wb 0) (sPen { cx with autofill := true, inbox := some (0x80000000, true) } id))
      (fun t => (ctxAt t 1 2).ta == 7 && (ctxAt t 1 2).emtl == 31)
    ∧ nx (exec (.inboxFill pen1) (sPenCh cx { fifo := words 2 } {})) (fun t => (ctxAt t 1 2).inbox == some (0, false) && (chan t 7).fifo.length == 1)
    ∧ nx (exec (.outboxSend pen1) (sPenCh { cx with outbox := some 6 } {} {})) (fun t => (chan t 8).fifo == [⟨6, true, false, false, false⟩]) := by
  decide +kernel
theorem witness_EngineChannelsWaitsAndWakes_WaitsAndWakes : (ctxAt (sPen { cx with outbox := some 0 } id) 1 2).trig = false ∧ penServes (sPen cx id) 1 2 = true
    ∧ (penWord (eng (sPen cx fun e => { e with store := [(11, ⟨0x785, false, false, false⟩)] }) 1) false 11).insn = 0x780 + (5 : BitVec 6).setWidth 12
    ∧ nx (exec (.hold pen1 wb 7 .rise 0 true) (sPen cx id)) (fun t => (ctxAt t 1 2).wait == some (.pin .rise 0 7))
    ∧ nx (exec (.wake pen1 0 0x10 0) (sPen { cx with st := .waiting, wait := some (.pin .high 0 7) } fun e => { e with store := [(11, ⟨0x785, false, false, false⟩)] }))
      (fun t => (ctxAt t 1 2).ta == 5 && (ctxAt t 1 2).pc == 12 && (ctxAt t 1 2).delay == 7)
    ∧ nx (exec (.wake pen1 0x10 0x10 0) (sPen { cx with st := .waiting, wait := some (.pin .rise 0 7) } id)) (fun t => (ctxAt t 1 2).st == .waiting)
    ∧ nx (exec (.wake pen1 0 0x10 0) (sPen { cx with st := .waiting, wait := some (.pin .rise 0 7) }
        fun e => { e with reflex := some 1, store := [(11, ⟨0x785, false, false, false⟩)] }))
      (fun t => (eng t 1).due == [2] && (ctxAt t 1 2).wait == some (.met 7))
    ∧ nx (exec (.wake pen1 0 0 0) (sPen { cx with st := .blocked, wait := some .retry, inbox := some (8, false) } fun e => { e with store := [(10, ⟨0x509, false, false, false⟩)] }))
      (fun t => (ctxAt t 1 2).ta == 8 && (ctxAt t 1 2).pc == 11)
    ∧ nx (exec (.wake pen1 0 0 0) (sPen { cx with st := .waiting, wait := some (.outbox 2) } id)) (fun t => (ctxAt t 1 2).pc == 11 && (ctxAt t 1 2).delay == 2)
    ∧ nx (exec (.engineTrigger pen1) { sPen cx id with cad := { ({} : Cadence) with trigQ := [⟨1, 2, 4999, false⟩] } }) (fun t => (ctxAt t 1 2).trig && t.cad.trigQ == [])
    ∧ nx (exec (.engineTrigger pen1) { sPen { cx with trig := true } id with cad := { ({} : Cadence) with trigQ := [⟨1, 2, 4999, false⟩] } })
      (fun t => (reg t 0xA03C).getLsbD 9) := by decide +kernel
theorem witness_EngineBanksAndFaults_ProgramBankSwitch : (eng (sPen cx id) 1).pending = false ∧ penTurn (sPen cx fun e => { e with pending := true }) 1 2 = true
    ∧ nx (exec (.bankSwitch 1) (sPen { cx with st := .off } id)) (fun t => (eng t 1).active && !(eng t 1).pending && (reg t 0xA03C).getLsbD 0)
    ∧ nx (exec (.bankSwitch 1) (sPen cx id)) (fun t => (eng t 1).pending && !(eng t 1).active)
    ∧ nx (exec (.bankSwitch 1) (sPen cx fun e => { e with pending := true })) (fun t => (reg t 0xA03C).getLsbD 3)
    ∧ nx (exec (.penSwitchAll 1) (sPen cx id)) (fun t => (eng t 1).pending)
    ∧ nx (exec (.auxNop pen1 ⟨false, true⟩ 0) (sPen cx fun e => { e with pending := true })) (fun t => (ctxAt t 1 2).bank && (ctxAt t 1 2).pc == 11)
    ∧ nx (exec (.forceSwitch 1) (sPen cx fun e => { e with pending := true, forcing := true, reloc := [(266, (77, true))] }))
      (fun t => (ctxAt t 1 2).pc == 77 && (ctxAt t 1 2).bank && (eng t 1).active)
    ∧ nx (exec (.forceSwitch 1) (sPen cx fun e => { e with pending := true, forcing := true })) (fun t => (ctxAt t 1 2).st == .held && (ctxAt t 1 2).pc == 10)
    ∧ nx (exec (.penPwDataWrite 1 0x3ABC) { sPen cx id with regs := [(0xA020, 0x401), (0xA02C, 0x100FF)] })
      (fun t => tget {} (eng t 1).store 511 == ⟨0xABC, true, true, false⟩ && reg t 0xA02C == 0x10000) := by decide +kernel
theorem witness_EngineBanksAndFaults_EngineFaultsAndReadback : (pinAt { sPen cx id with pen := { (sPen cx id).pen with pins := [(9, ⟨true, true, none⟩)] } } 9).out = true
    ∧ nx (exec (.engineStoreReread pen1 true) (sPen cx id)) (fun t => reg t 0xA838 == 1)
    ∧ nx (exec (.engineStoreReread pen1 false) (sPen cx id)) (fun t => (ctxAt t 1 2).st == .held && (reg t 0xA03C).getLsbD 11)
    ∧ nx (exec (.engineIllegalWord pen1) (sPen cx id)) (fun t => (ctxAt t 1 2).hold == .illegal)
    ∧ nx (exec (.engineStoreScrub 1 false 3 true true) (sPen cx id)) (fun t => reg t 0xA838 == 1)
    ∧ nx (exec (.readbackMismatch 9 false) { sPen cx id with pen := { (sPen cx id).pen with pins := [(9, ⟨true, true, none⟩)] } }) (fun t => reg t 0xA818 == 1)
    ∧ nx (exec (.readbackMismatch 9 true) { sPen cx id with pen := { (sPen cx id).pen with pins := [(9, ⟨true, true, none⟩)] } })
      (fun t => reg t 0xA814 == 0x80000209 && reg t 0xA818 == 0x10000)
    ∧ nx (exec (.readbackMismatch 9 true) { sPen cx id with
        nrg := blk.nrg.set 0 { ({} : NrgGroup) with fold := true }, pen := { (sPen cx id).pen with pins := [(9, ⟨true, true, none⟩)] } })
      (fun t => (reg t 0xA01C).getLsbD 5 && reg t 0xA818 == 0)
    ∧ nx (exec .penRbCountRead { sPen cx id with regs := [(0xA818, 9)] }) (fun t => t.host.rdata == 9 && reg t 0xA818 == 0)
    ∧ nx (exec (.penCtxWrite 1 9) { sPen { cx with st := .off } id with regs := [(0xA034, 0x202)] }) (fun t => (ctxAt t 1 2).ta == 9)
    ∧ nx (exec (.penCtxWrite 1 9) { sPen cx id with regs := [(0xA034, 0x202)] }) (fun t => (ctxAt t 1 2).ta == 3) := by decide +kernel

/-! ## Cadence -/

/-- Axis 1 of a kind with weight 5 and wrap 1000. -/
def sAx (kind : Nat) (a : Axis) : State := { blk with
  cad := { ({} : Cadence) with axes := (Vector.replicate 17 {}).set 1 a }
  regs := [(0x4040, 5), (0x4044, BitVec.ofNat 32 (kind + 0x50000 + 16 * 9)), (0x404C, 1000), (0x4054, 0x10000), (0x4058, 1), (0x4064, 7 * 2 ^ 24), (0x4068, 0)] }
theorem witness_AxisCommandsAndEvents_AxisCommands : axKind (sAx 4 {}) 1 = 4 ∧ wrapOf (sAx 4 {}) 1 = 1000
    ∧ nx (exec (.axisEnable 1) (sAx 4 {})) (fun t => (axis t 1).enDue == some true && (axis (applyEnable t 1) 1).st == .tracking)
    ∧ nx (exec (.axisEnable 1) (sAx 0 {})) (fun t => !(reg t 0x4040).getLsbD 0 || (reg (sAx 0 {}) 0x4040).getLsbD 0)
    ∧ nx (exec (.axisDisable 1) (sAx 4 { st := .tracking })) (fun t => (axis t 1).st == .tracking && (axis (applyEnable t 1) 1).st == .off)
    ∧ nx (step { sAx 4 { st := .tracking, enDue := some false } with pending := [] }) (fun t => (axis t 1).st == .off)
    ∧ nx (exec (.setPos 1) (sAx 4 { st := .coasting })) (fun t => (axis t 1).p == 7 * 2 ^ 24 && (axis t 1).st == .tracking)
    ∧ nx (exec (.cadCapture 1) (sAx 4 { st := .stalled, p := 0x500000003, epoch := 9 }))
      (fun t => reg t 0x4064 == 3 && reg t 0x4068 == 5 && reg t 0x4070 == 0x13000009)
    ∧ nx (exec (.captureAll 2) (sAx 4 { p := 3 })) (fun t => reg t 0x4064 == 3)
    ∧ nx (exec .clrDis { sAx 4 {} with regs := [(0x4824, 9)] }) (fun t => reg t 0x4824 == 0)
    ∧ nx (exec (.cadPtpRateWrite 5) { blk with cad := { ({} : Cadence) with axes := (Vector.replicate 17 {}).set 0 { st := .coasting } } })
      (fun t => (axis t 0).st == .tracking && reg t 0x483C == 5) := by decide +kernel
theorem witness_AxisCommandsAndEvents_AxisEvents : 9 ∈ pinsOf (axKind (sAx 4 {}) 1) ((reg (sAx 4 {}) 0x4044).toNat / 16 % 512) ∧ hasSec (sAx 4 {}) 1 = false ∧ edgeOf 1 {} ⟨true, false⟩ = some .up ∧ edgeOf 3 {} ⟨true, true⟩ = some .down
    ∧ nx (exec (.axisEdge 1 false 0xFFFE 0) (sAx 4 { st := .tracking })) (fun t => (axis t 1).k == 0)
    ∧ nx (exec (.axisEdge 1 false 0xFFFF 0) (sAx 4 { st := .tracking, k := 995 })) (fun t => (axis t 1).k == 0 && (axis t 1).epoch == 1)
    ∧ nx (exec (.axisEdge 1 false 0 0xFFFF) (sAx 1 { st := .tracking, k := 0 })) (fun t => (axis t 1).k == 999 && (axis t 1).epoch == 0xFFFFFF)
    ∧ nx (exec (.zResync 1 false) (sAx 2 { st := .tracking, p := 900 * 2 ^ 24 })) (fun t => (axis t 1).p == 0 && (axis t 1).epoch == 1)
    ∧ nx (exec (.axisEdge 1 false 0xFFFF 0xFFFF) (sAx 1 { st := .tracking })) (fun t => (axis t 1).st == .coasting && (reg t 0x405C).getLsbD 16)
    ∧ nx (exec (.rxFault 9) (sAx 4 { st := .tracking })) (fun t => (axis t 1).st == .coasting && (reg t 0x405C).getLsbD 17)
    ∧ nx (exec (.lossTimeout 1) (sAx 4 { st := .tracking })) (fun t => (axis t 1).st == .coasting && (axis t 1).tLoss == 5000)
    ∧ nx (exec (.coastLimit 1) (sAx 4 { st := .coasting, tLoss := 4000 })) (fun t => (axis t 1).st == .stalled)
    ∧ nx (exec (.axisDisagree 1) { sAx 1 { st := .tracking, k := 100, p := 100 * 2 ^ 24, sec := 200 } with regs := [(0x4048, 0x630001), (0x404C, 1000)] })
      (fun t => (axis t 1).disAct && reg t 0x4824 == 0x80000101 && reg t 0x4828 == 0x64000000) := by decide +kernel
/-- Axis 1 with a redundant encoder on pins 20 and 21, bound 99. -/
def sSec (a : Axis) : State := { sAx 1 a with
  regs := [(0x4040, 5), (0x4044, 0x50091), (0x4048, 0x630029), (0x404C, 1000), (0x4054, 0x10000)] }
theorem witness_AxisCommandsAndEvents_Secondary : hasSec (sSec {}) 1 = true ∧ fld (sSec {}) 0x4054 16 16 = 1
    ∧ nx (exec (.lossTimeout 1) (sSec { st := .tracking, tSec := 4500 })) (fun t => (axis t 1).onSec && (axis t 1).st == .tracking)
    ∧ nx (exec (.lossTimeout 1) (sSec { st := .tracking, tTimeout := 4500 })) (fun t => !(axis t 1).onSec && (axis t 1).secLost && (axis t 1).st == .tracking)
    ∧ nx (exec (.lossTimeout 1) (sSec { st := .tracking })) (fun t => (axis t 1).secLost && (axis t 1).st == .coasting)
    ∧ nx (exec (.axisEdge 1 true 0xFFFF 0) (sSec { st := .tracking, sec := 3 })) (fun t => (axis t 1).sec == 4 && (axis t 1).k == 0)
    ∧ nx (exec (.axisEdge 1 true 0xFFFF 0) (sSec { st := .tracking, onSec := true, k := 3 })) (fun t => (axis t 1).k == 4)
    ∧ nx (exec (.axisEdge 1 false 0xFFFF 0) (sAx 4 { st := .coasting, u := 7 * 2 ^ 32, v := 3 }))
      (fun t => (axis t 1).k == 5 && (axis t 1).jump && (axis t 1).st == .tracking && (axis t 1).v == 3) := by decide +kernel
/-- Comparator 0 on axis 1 at target 6, the axis just past it. -/
def sEvt (x : Comparator) : State := { sAx 4 { st := .tracking, p := 7 * 2 ^ 24, pPrev := 5 * 2 ^ 24, k := 7 } with
  cad := { (sAx 4 { st := .tracking, p := 7 * 2 ^ 24, pPrev := 5 * 2 ^ 24, k := 7 }).cad with evts := [(0, { x with target := 6 * 2 ^ 24, dPrev := -1 })], stageLo := 3, epochQ := [4] }
  regs := (sAx 4 {}).regs ++ [(0x4800, 1)]
  chans := [(7, { ({} : Chan) with writer := ⟨.cadence, 0⟩ })] }
theorem witness_Comparators : evtAxis { ({} : Comparator) with cfg := 0x1041 } = 1 ∧ (reg (sEvt {}) 0x4810).toNat % 512 = 0
    ∧ 0 ≤ evtDelta (sEvt { cfg := 0x1041, st := .armed }) (evt (sEvt { cfg := 0x1041, st := .armed }) 0) (axis (sEvt {}) 1).p
    ∧ nx (exec (.cadEvtTgtHiWrite 9) (sEvt { cfg := 1 })) (fun t => (evt t 0).target == 0x900000003)
    ∧ nx (exec (.cadEvtCfgWrite 0x41) (sEvt {})) (fun t => (evt t 0).st == .armed && (evt t 0).cfg == 1)
    ∧ nx (exec (.comparatorFire 0) (sEvt { cfg := 0x1041, st := .armed, act := 7 })) (fun t => (evt t 0).st == .fired
        && (chan t 7).fifo == [⟨0x70200, true, false, false, false⟩] && (reg t 0x4880).getLsbD 0)
    ∧ nx (exec (.comparatorFire 0) (sEvt { cfg := 0x2041, st := .armed, act := 0x41 })) (fun t => t.cad.trigQ == [⟨1, 1, 5000, false⟩])
    ∧ nx (exec (.comparatorFire 0) (sEvt { cfg := 0x5041, st := .armed, act := 6 })) (fun t => t.cad.epochQ.contains 6)
    ∧ nx (exec (.comparatorRearm 0) { sEvt { cfg := 0x81, st := .fired } with cad := { (sEvt { cfg := 0x81, st := .fired }).cad with
        axes := (sAx 4 { st := .tracking, p := 5 * 2 ^ 24 }).cad.axes } }) (fun t => (evt t 0).st == .armed)
    ∧ nx (exec (.cadenceTokenDeliver 0) (sEvt { act := 7, pend := some 5 })) (fun t => (chan t 7).fifo == [⟨5, true, false, false, false⟩])
    ∧ nx (exec (.epochLineOpen 4) (sEvt {})) (fun t => (reg t 0x1058).getLsbD 4 && t.cad.epochQ == []) := by decide +kernel

/-! ## Configuration -/

/-- A block before its release whose loader, registers and start are as given; HOST owns every bank. -/
def sCfg (cold : Bool) (rs : List (Nat × Word)) (l : Loader) : State := { blk with
  released := false, coldStart := cold, regs := rs, cfg := l
  mem := { blk.mem with banks := blk.mem.banks.map fun k => { k with owner := 0x13, bsOwner := 4, pending := some ⟨2, some 5⟩ } } }
/-- A copy of one word. -/
def cp (st : CopyState) (w : MemWord) : Copy := { ({} : Copy) with st := st, words := [(3, w)] }
/-- Three VALID copies whose word 3 is w. -/
def cp3 (w : MemWord) : Vector Copy 3 := Vector.replicate 3 (cp .valid w)
theorem witness_ImageLoadCommitAndRelease : cfgBusy (sCfg false [] { molt := .staged }) = true ∧ cfgBusy (sCfg false [] {}) = false
    ∧ (readSource { sCfg false [(0x1020, 32)] {} with mem := blk.mem } []).2 = none ∧ (readSource (sCfg false [(0x1020, 32)] {}) []).2.isSome = true
    ∧ nx (exec (.cfgLoad []) (sCfg false [] { committed := true, st := .committed })) (fun t => (reg t 0x100C).getLsbD 21)
    ∧ nx (exec (.cfgLoad []) (sCfg false [] { molt := .staged })) (fun t => (reg t 0x100C).getLsbD 16)
    ∧ nx (exec (.cfgLoad []) { sCfg false [(0x1020, 32)] {} with mem := blk.mem }) (fun t => (reg t 0x100C).getLsbD 16 && t.cfg.st == .empty)
    ∧ nx (exec (.imageApplied []) (sCfg false [] { st := .applying })) (fun t => t.cfg.st == .applied)
    ∧ nx (exec (.imageApplied []) (sCfg false [] { st := .applying, copies := Vector.replicate 3 { cp .valid 7 with bad := [(3, true)] } }))
      (fun t => t.cfg.st == .empty && (reg t 0x100C).getLsbD 16)
    ∧ nx (exec .autoCommit (sCfg false [(0xE414, 2)] { st := .applied })) (fun t => t.cfg.committed
        && t.mem.banks[(9 : Fin 32)].owner == 4)
    ∧ nx (exec (.cfgCommit []) (sCfg true [] { st := .applied })) (fun t => t.cfg.st == .committed && t.mem.banks[(9 : Fin 32)].pending == none)
    ∧ nx (exec (.cfgCommit []) (sCfg true [] { st := .empty })) (fun t => (reg t 0x100C).getLsbD 21 && !t.cfg.committed)
    ∧ nx (exec .blockRelease { sCfg false [(0x4040, 1)] { st := .committed, committed := true } with
        spokes := [(5, { spr with st := .stopped }), (6, { spr with st := .stopped, deferredDecl := true })] })
      (fun t => t.bc == 0 && (spk t 5).st == .run && (spk t 6).st == .deferred && (axis t 1).st == .tracking) := by decide +kernel
/-- The boot image of a cold start stands in copy 0. -/
def sBoot : State := { sCfg true [] { copies := (Vector.replicate 3 {}).set 0 (cp .writing 7) } with chry := blk.chry.set 0 { ({} : Chrysalis) with bootDone := true } }
theorem witness_ImageLoadCommitAndRelease_boot : live sBoot = true ∧ (chry sBoot 0).bootDone = true ∧ sBoot.cfg.copies[(0 : Fin 3)].st = .writing ∧ sBoot.cfg.st = .empty := by
  decide +kernel
theorem witness_MoltCocoonAndRecheck : stagedRegions (sCfg false [] { regions := [0x20000003] }) = [.engine 3]
    ∧ nx (exec (.cfgStage []) (sCfg false [] { molt := .armed })) (fun t => (reg t 0x100C).getLsbD 16 && t.cfg.molt == .armed)
    ∧ nx (exec .cfgArm (sCfg false [] { molt := .staged })) (fun t => t.cfg.molt == .armed)
    ∧ nx (exec .cfgArm (sCfg false [] {})) (fun t => (reg t 0x100C).getLsbD 21)
    ∧ nx (exec .cfgAbort (sCfg false [] { molt := .armed, copies := (cp3 5).set 2 (cp .staged 6) })) (fun t => t.cfg.molt == .idle && t.cfg.copies == cp3 5)
    ∧ nx (exec .cfgAbort (sCfg false [] { molt := .copying })) (fun t => t.cfg.molt == .copying && (reg t 0x100C).getLsbD 21)
    ∧ nx (exec (.cfgEpochOpen 0x20) (sCfg false [] {})) (fun t => (reg t 0x1058) == 0x20 && t.mem.banks[(9 : Fin 32)].pending == some ⟨2, none⟩)
    ∧ nx (exec (.cfgEpochOpen 0x20) (sCfg false [] { molt := .armed, line := 5, regions := [0x20000003], copies := (cp3 5).set 2 (cp .staged 6) }))
      (fun t => t.cfg.molt == .applying && t.cfg.left == [.engine 3] && t.cfg.active == 2 && t.cfg.copies[(2 : Fin 3)] == cp .valid 6)
    ∧ nx (exec (.regionEnd (.engine 3)) (sCfg false [] { molt := .applying, left := [.engine 3] })) (fun t => t.cfg.molt == .copying)
    ∧ nx (exec .moltDone (sCfg false [] { molt := .copying, copies := (cp3 5).set 2 (cp .valid 6) })) (fun t => t.cfg.molt == .idle && t.cfg.copies == cp3 6)
    ∧ nx (exec .cfgResolve (sCfg false [] { active := 1, copies := (cp3 5).set 1 (cp .valid 6) })) (fun t => t.cfg.copies == cp3 6)
    ∧ nx (exec .cfgResolve (sCfg false [] {})) (fun t => (reg t 0x100C).getLsbD 21)
    ∧ nx (exec .cfgScan (sCfg false [] {})) (fun t => t.cfg.scanBusy)
    ∧ nx (exec (.cocoonScan []) (sCfg false [(0x1008, 2)] {})) (fun t => t.cfg.scanPasses == 1)
    ∧ nx (exec (.cocDataRead []) (sCfg false [(0x1088, 3)] { copies := cp3 7 })) (fun t => t.host.rdata == 7 && t.host.ack)
    ∧ nx (exec (.cocDataRead []) (sCfg false [(0x1088, 3)] {})) (fun t => t.host.err && !t.host.ack)
    ∧ (1 : Word) &&& rwlMask 0x3014 = 1
    ∧ lockedVal (sCfg false [(0x1008, 1), (0x3014, 9)] { committed := true, lockRef := [(0x3014, 1)] }) 0x3014 = 1
    ∧ (match readImage (sCfg false [(0x1008, 1), (0x3014, 9)] { committed := true, lockRef := [(0x3014, 0)] }) with
      | (v, some c) => v.regs == [(0x1008, 1), (0x3014, 9)] && lockedVal (asApplied v c) 0x3014 == 0 && lockedVal v 0x3014 == 1
      | (_, none) => false) = true := by decide +kernel

/-! ## Host port and debug wire -/

/-- Channel 7 from mailbox slot 0, channel 8 to it. -/
def sMbx (i o : List ChanWord) (x : TxSlot) : State := { blk with
  chans := [(7, { ({} : Chan) with writer := ⟨.mailbox, 0⟩, fifo := i }), (8, { ({} : Chan) with reader := ⟨.mailbox, 0⟩, fifo := o })]
  host := { ({} : HostPort) with tx := (Vector.replicate 8 {}).set 0 x } }
/-- A debug session of a level, with spoke 5 selected. -/
def sDbg (l : BitVec 2) (f : Debug → Debug) : State := { sRun with dbg := f { ({} : Debug) with session := true, level := l, runSel := 20 } }
theorem inSession_sDbg : InSession (sDbg 2 id) 2 := ⟨by decide +kernel, by decide +kernel, by decide +kernel⟩
theorem witness_HostRegistersAndMailbox : txChan (sMbx [] [] {}) 0 = some 7 ∧ rxChan (sMbx [] [] {}) 0 = some 8 ∧ rxChan (sMbx [] [] {}) 1 = none
    ∧ nx (exec (.registerWrite .host 0xA824 0x1FF) blk) (fun t => reg t 0xA824 == 0xFF && t.host.ack)
    ∧ nx (exec (.registerWrite (.spoke 5) 0xA824 0x1FF) sRun) (fun t => reg t 0xA824 == 0xFF)
    ∧ nx (exec (.registerWrite .debug 0xA824 0x1FF) (sDbg 2 id)) (fun t => reg t 0xA824 == 0xFF && t.dbg.status == 0)
    ∧ nx (exec (.registerWrite .host 0xA825 0) blk) (fun t => t.host.err && reg t 0x24 == 0x8014A825)
    ∧ nx (exec (.registerWrite .host 0x16000 0) blk) (fun t => t.host.err && reg t 0x24 == 0x80256000)
    ∧ nx (exec (.registerWrite .host 0x7FC 0) { blk with coreReset := true }) (fun t => t.host.err && reg t 0x24 == 0x803407FC)
    ∧ nx (exec (.mbxTxData 0 9) (sMbx [] [] { staged := [1, 2, 3] })) (fun t => t.host.tx[(0 : Fin 8)].staged == [1, 2, 3, 9])
    ∧ nx (exec (.mbxTxLast 0 9) (sMbx (words 6) [] { staged := [1] })) (fun t => (chan t 7).fifo.map (·.word) == [0, 1, 2, 3, 4, 5, 1, 9])
    ∧ nx (exec (.mbxTxLast 0 9) (sMbx (words 7) [] { staged := [1] })) (fun t => t.host.tx[(0 : Fin 8)].pend && (chan t 7).fifo.length == 7)
    ∧ nx (exec (.mbxTxData 0 9) (sMbx [] [] { staged := [1], pend := true })) (fun t => t.host.err && (reg t 0x418).getLsbD 2)
    ∧ nx (exec (.mbxTxLast 0 9) (sMbx [] [] { staged := [1, 2, 3, 4] })) (fun t => t.host.err && (reg t 0x418).getLsbD 1)
    ∧ nx (exec (.mbxPendingEnter 0) (sMbx (words 7) [] { staged := [1], pend := true })) (fun t => (chan t 7).fifo.length == 8)
    ∧ nx (exec (.mbxRxData 0) (sMbx [] [⟨6, true, false, false, false⟩] {})) (fun t => t.host.rdata == 6 && t.host.rxEom.getLsbD 0 && (chan t 8).fifo == [])
    ∧ nx (exec (.mbxRxData 0) (sMbx [] [] {})) (fun t => t.host.rdata == 0 && t.host.ack && (reg t 0x418).getLsbD 0)
    ∧ nx (exec (.mbxRxData 1) (sMbx [] [] {})) (fun t => t.host.err) := by decide +kernel
theorem witness_HostRegistersAndMailbox_commands : nx (exec (.blkGearsPin 1) { blk with regs := [(0x1C, 6)] }) (fun t => t.host.pins[(6 : Fin 7)] == 1)
    ∧ nx (exec (.blkGearsPin 2) { blk with regs := [(0x1C, 6)] }) (fun t => t.host.pins == blk.host.pins && (reg t 0x18).getLsbD 1)
    ∧ nx (exec (.blkRstCmd 0xC1A5) blk) (fun t => t.host.rstKey == some 5000 && !t.coreReset)
    ∧ nx (exec (.blkRstCmd 0x5A1C) { sRun with host := { ({} : HostPort) with rstKey := some 4000 } }) (fun t => t.coreReset && t.spokes == [])
    ∧ nx (exec (.blkRstCmd 0x5A1C) { sRun with host := { ({} : HostPort) with rstKey := some 3999 } }) (fun t => !t.coreReset && (reg t 0x18).getLsbD 3)
    ∧ nx (exec (.blkBcLoRead .host) { blk with bc := 2 ^ 32 + 6 }) (fun t => t.host.rdata == 6 && t.host.bcHold == 1)
    ∧ nx (exec (.blkBcLoRead (.spoke 5)) { sRun with bc := 2 ^ 32 + 6 }) (fun t => (spk t 5).bcHold == 1 && t.host.bcHold == 0)
    ∧ nx (exec (.blkBcLoRead .debug) { sDbg 2 id with bc := 2 ^ 32 + 6 }) (fun t => t.dbg.reply == 6 && t.dbg.bcHold == 1)
    ∧ nx (exec (.pmwRead .host 40 ⟨.clean, .clean⟩) { blk with progs := [(5, 0x12345600000007)] }) (fun t => t.host.rdata == 7)
    ∧ nx (exec (.strCntDataRead 0) { sLink 2 { cnt := (Vector.replicate 7 0).set 3 9 } with regs := [(0xE010, 0x300)] })
      (fun t => t.host.rdata == 9 && (link t 0).cnt[3] == 0) := by decide +kernel
/-- The outcome in which every word is clean. -/
def ck : ReadOutcome := ⟨.clean, .clean⟩
/-- A session at a level where bank 0 shows itself to the debugger. -/
def sView (l : BitVec 2) (v : Word) : State := { sDbg l id with regs := [(0x7004, v)], mem := { blk.mem with cells := [(16, 0x34), (17, 0x92)] } }
theorem witness_DebugFrames :
    nx (exec (.drwRd false 16 ck) (sDbg 1 id)) (fun t => t.dbg.status == 1 && reg t 0x3058 == 1)
    ∧ nx (exec (.drwId false false) { sDbg 1 id with pwr := { blk.pwr with vdbgGood := false } }) (fun t => t.dbg.status == 0 && t.regs == [])
    ∧ nx (exec (.drwId true true) (sDbg 1 id)) (fun t => t.dbg.status == 5 && t.dbg.reply == 0)
    ∧ nx (exec (.drwId true false) { blk with regs := [(0x3010, 1)] }) (fun t => t.dbg.session && t.dbg.level == 1 && t.dbg.reply == 0x01000101)
    ∧ nx (exec (.drwRd true 16 ck) (sView 0 0x10)) (fun t => t.dbg.status == 2)
    ∧ nx (exec (.drwRdc true 16 ck) (sView 1 0x10)) (fun t => t.dbg.status == 2)
    ∧ nx (exec (.drwRd true 16 ck) (sView 1 0x10)) (fun t => t.dbg.status == 0 && t.dbg.reply == 0x9234)
    ∧ nx (exec (.drwRdc true 16 ck) (sView 2 0x20)) (fun t => t.dbg.status == 0 && t.dbg.reply == 0x9234)
    ∧ nx (exec (.drwWr true 16 0xAB ck) (sView 2 0x20)) (fun t => t.dbg.status == 0 && t.mem.cells == [(16, 0xAB)])
    ∧ nx (exec (.drwWr true 16 0xAB ck) (sView 2 0x10)) (fun t => t.dbg.status == 3)
    ∧ nx (exec (.drwWr true 16 0xAB ck) { sView 2 0x20 with regs := [(0x300C, 1), (0x7004, 0x20)] }) (fun t => t.dbg.status == 2)
    ∧ nx (exec (.freezeRequest true) (sDbg 2 id)) (fun t => t.dbg.frz)
    ∧ nx (exec .dbgErrsRead { blk with regs := [(0x3058, 0x20003)] }) (fun t => t.host.rdata == 0x20003 && reg t 0x3058 == 0) := by decide +kernel
/-- Channels 7 from the terminal and 8 to it. -/
def sTerm (i o : List ChanWord) (ws : List Word) : State := { sDbg 2 (fun d => { d with term := if ws = [] then [] else [(0, ws)] }) with
  chans := [(7, { ({} : Chan) with writer := ⟨.terminal, 0⟩, fifo := i }), (8, { ({} : Chan) with reader := ⟨.terminal, 0⟩, fifo := o })] }
theorem inSession_sTerm : InSession (sTerm [] [] []) 2 := ⟨by decide +kernel, by decide +kernel, by decide +kernel⟩
theorem witness_DebugSessionsAndTerminal :
    nx (exec .authNew (sDbg 0 id)) (fun t => t.dbg.challenge.isSome && t.dbg.status == 0)
    ∧ nx (exec (.authCheck 2) (sDbg 0 fun d => { d with lockLeft := 5 })) (fun t => t.dbg.status == 2)
    ∧ nx (exec (.authCheck 2) (sDbg 1 id)) (fun t => t.dbg.level == 1 && t.dbg.lockLeft == 1000000000 && reg t 0x3058 == 0x10000)
    ∧ nx (exec .authDrop { sDbg 2 (fun d => { d with frz := true }) with
        regs := [(0x300C, 2)], spokes := [(5, { spr with st := .halted, prior := .blocked })] })
      (fun t => !t.dbg.session && !t.dbg.frz && (spk t 5).st == .blocked)
    ∧ nx (exec .sessionTimeout { sDbg 2 (fun d => { d with quiet := 100000000 }) with spokes := [(5, { spr with st := .halted })] }) (fun t => !t.dbg.session && (spk t 5).st == .halted)
    ∧ nx (exec .vdbgLoss (sDbg 2 id)) (fun t => !t.pwr.vdbgGood && !t.dbg.session)
    ∧ nx (exec .vdbgPowerGood { sDbg 2 (fun d => { d with lockLeft := 5 }) with pwr := { blk.pwr with vdbgGood := false } })
      (fun t => t.pwr.vdbgGood && t.dbg.lockLeft == 0)
    ∧ nx (exec (.dbgRstKeyWrite 0xD3B6) (sDbg 2 id)) (fun t => t.dbg.key1)
    ∧ nx (exec (.dbgRstKeyWrite 0x6B3D) (sDbg 2 fun d => { d with key1 := true })) (fun t => t.dbg.keyLeft == 10000000 && !t.dbg.key1)
    ∧ nx (exec (.dbgRstKeyWrite 7) (sDbg 2 fun d => { d with key1 := true, keyLeft := 9 })) (fun t => t.dbg.keyLeft == 0 && !t.dbg.key1)
    ∧ nx (exec .drwReset (sDbg 2 fun d => { d with keyLeft := 9 })) (fun t => t.coreReset && t.host.rstCause == 5)
    ∧ nx (exec .drwReset (sDbg 2 id)) (fun t => !t.coreReset && (reg t 0x3008).getLsbD 11) := by decide +kernel
theorem witness_DebugSessionsAndTerminal_terminal : termTx (sTerm [] [] []) 0 = some 7 ∧ termTx (sTerm [] [] []) 1 = none
    ∧ termNext (sTerm [] [⟨6, true, false, false, false⟩] []) = some (0, 8) ∧ termNext (sTerm [] [] []) = none
    ∧ nx (exec (.dbgTermTx 65) (sTerm [] [] [1, 2])) (fun t => tget [] t.dbg.term 0 == [1, 2, 65] && t.chans == (sTerm [] [] []).chans)
    ∧ nx (exec (.dbgTermTx 0x10041) (sTerm (words 6) [] [1])) (fun t => (chan t 7).fifo.map (·.word) == [0, 1, 2, 3, 4, 5, 1, 65] && t.dbg.status == 0)
    ∧ nx (exec (.dbgTermTx 0x10041) (sTerm (words 7) [] [1])) (fun t => (chan t 7).fifo.length == 7 && t.dbg.status == 4)
    ∧ nx (exec (.dbgTermTx 0x141) (sTerm [] [] [])) (fun t => t.dbg.status == 4)
    ∧ nx (exec .dbgTermRx (sTerm [] [⟨6, true, false, false, false⟩] [])) (fun t => t.dbg.reply == 0x80010006 && (chan t 8).fifo == [] && t.dbg.termLast == 0)
    ∧ nx (exec .dbgTermRx (sTerm [] [] [])) (fun t => t.dbg.reply == 0) := by decide +kernel
/-- The selected spoke in a state. -/
def sSel (f : Spoke → Spoke) : State := { sDbg 2 id with spokes := [(5, f spr)] }
theorem selected_sSel : InSession (sSel id) 2 ∧ Selected (sSel id) 5 :=
  ⟨⟨by decide +kernel, by decide +kernel, by decide +kernel⟩, by decide +kernel, by decide +kernel, by decide +kernel, by decide +kernel⟩
/-- A halted spoke that was blocked. -/
def hlt (sp : Spoke) : Spoke := { sp with st := .halted, prior := .blocked }
theorem witness_RunControl : decodeParcels 5 0x134 0 = .mov 5 3 4
    ∧ nx (exec .dbgHalt (sSel id)) (fun t => (spk t 5).st == .halted && (spk t 5).prior == .run && t.dbg.runDone && t.dbg.runPrior == 1)
    ∧ nx (exec .dbgHalt (sSel fun sp => { sp with flight := [{ device := false, dest := none, data := 0, sx := false, tear := false, err := false, pc := 16, seq := 0, words := [2], addr := 64, size := 4 }] })) (fun t => (spk t 5).st == .run && (spk t 5).req == some .halt && !t.dbg.runDone)
    ∧ nx (exec .dbgHalt (sSel fun sp => { sp with st := .blocked, wait := some (.lock 9 3) })) (fun t => (spk t 5).st == .halted && (spk t 5).prior == .run && (spk t 5).wait == none)
    ∧ nx (exec .dbgRelease (sSel hlt)) (fun t => (spk t 5).st == .blocked)
    ∧ nx (exec .dbgRun (sSel hlt)) (fun t => (spk t 5).st == .run && (spk t 5).pc == 16)
    ∧ nx (exec .dbgStep (sSel hlt)) (fun t => (spk t 5).req == some .halt && t.dbg.runRes == 1)
    ∧ nx (exec .dbgKill (sSel hlt)) (fun t => (spk t 5).st == .stopped && (spk t 5).cause == .kill)
    ∧ nx (exec .dbgRun (sSel fun sp => { sp with st := .stopped })) (fun t => (spk t 5).st == .run)
    ∧ nx (exec .dbgKill { sSel id with regs := [(0x300C, 4)] }) (fun t => (spk t 5).st == .run && t.dbg.runRes == 5)
    ∧ nx (exec (.dbgInsn 0x134) (sSel hlt)) (fun t => (spk t 5).g[3] == 4 && t.dbg.insnStat == 1)
    ∧ nx (exec (.dbgInsn 0x134) (sSel id)) (fun t => (spk t 5).g[3] == 3 && t.dbg.insnStat == 2) := by decide +kernel
theorem witness_RunPcOfHaltedSpoke :
    nx (exec (.drwRd true 0x2000000C ck) (sSel hlt)) (fun t => t.dbg.reply.toNat % 2 ^ 18 == 16)
    ∧ nx (exec (.dbgRunPcWrite 0x40099) (sSel hlt)) (fun t => (spk t 5).pc == 0x99)
    ∧ nx (exec (.dbgRunPcWrite 0x99) (sSel id)) (fun t => (spk t 5).pc == 16) := by decide +kernel

end Sys2Proof.Tests
end

/-! What an instruction of a spoke that stands alone completes with, or faults with. -/
namespace Sys2Proof.Proofs
open Sys2Proof.Machine Sys2Proof.Laws

variable {s : State} {g : Nat}

/-- An instruction that writes one g register with TSW completes. -/
theorem issue_put (h : Alone s g) (i : Ins) (hn : i.parcels ≤ 2) (rd : GReg) (r : RF)
    (hi : i.run (noteGrant s g) g (spk s g) = .done (put (spk s g) rd r)) (hr : repn r.2 = repn (spk s g).tsw) :
    Completed s (issue s g i) g i.parcels { spk s g with tsw := r.2, g := gSet (spk s g) rd r.1 } :=
  issue_regs h i hn r.2 _ _ _ _ (hi.trans (congrArg Act.done (put_eq _ _ _))) hr

/-- A fault is told by the spoke and the memory, before and after. -/
theorem faulted_congr {s s' t t' : State} {code : Nat} (h : Faulted s t g code) (hs : spk s g = spk s' g)
    (hsm : s.mem = s'.mem) (ht : spk t' g = spk t g) (htm : t'.mem = t.mem) : Faulted s' t' g code := by
  unfold Faulted at h ⊢
  rwa [ht, htm, ← hs, ← hsm]

theorem counts_mem {s t : State} (h : Counts s t) : t.mem = s.mem := by rw [h.1]

/-- The fault is counted, or not: the spoke and the memory are as the fault leaves them (R228). -/
theorem faulted_counted {s t : State} {code : Nat} (h : Faulted s t g code) (p : Prop) [Decidable p] (k : Nat) :
    Faulted s (if p then spokeEvent t k 0x15 else t) g code := by
  split
  · exact faulted_congr h rfl rfl (spk_spokeEvent _ _ _ _) (counts_mem (spokeEvent_counts _ _ _))
  · exact h

/-- The fault of an unpaired spoke with nothing under way (R61). -/
theorem issueFault_faulted (s : State) (g code detail : Nat) (hp : (spk s g).pair = none) (hs : (spk s g).slot = none)
    (hf : (spk s g).flight = []) (hq : (spk s g).req = none) : Faulted s (issueFault s g code detail) g code := by
  have hu := useSlot_counts s g false
  have hm := counts_mem hu
  have hex : ∀ u : State, spk u g = spk s g → u.mem = s.mem → Faulted s (exFault u g code detail) g code := by
    intro u hug hum
    rw [exFault_solo u g code detail (by rw [hug, hp])]
    exact faulted_congr (faultStop_faulted u g code detail (by rw [hug, hp]) (by rw [hug, hs]) (by rw [hug, hf])
      (by rw [hug, hq])) hug hum rfl rfl
  unfold issueFault
  refine faulted_counted (hex _ ?_ ?_) _ _
  · split <;> exact hu.spk g
  · split <;> exact hm

/-- An instruction that faults at EX stops a spoke that stands alone, with nothing else of it changed. -/
theorem issue_fault (h : Alone s g) (i : Ins) (hn : i.parcels ≤ 2) (code detail : Nat)
    (hi : i.run (noteGrant s g) g (spk s g) = .fault code detail) : Faulted s (issue s g i) g code := by
  have hspk : spk (setSpk (noteGrant s g) g (spk s g)) g = spk s g := by simp
  have hmem := counts_mem (noteGrant_counts s g)
  rw [issue_alone h i hn, hi]
  exact faulted_congr (issueFault_faulted (setSpk (noteGrant s g) g (spk s g)) g code detail (by rw [hspk, h.solo])
    (by rw [hspk, h.noSlot]) (by rw [hspk, h.noFlight]) (by rw [hspk, h.noReq])) hspk hmem rfl rfl

end Sys2Proof.Proofs

/-! Division by 0 (R109). -/
namespace Sys2Proof.Proofs
open Sys2Proof.Machine Sys2Proof.Laws

variable {s : State}

/-- The quotient that DIV by 0 gives (R109). -/
def zeroQuotient (ty : DivType) (a : Word) : Word :=
  if ty = .unsigned then 0xFFFFFFFF else if 0 ≤ a.toInt then 0x7FFFFFFF else 0x80000000

theorem signedEnd_eq (a : Word) :
    (if a.msb then 0x80000000 else 0x7FFFFFFF : Word) = if 0 ≤ a.toInt then 0x7FFFFFFF else 0x80000000 := by
  rw [word_neg]
  by_cases h : 0 ≤ a.toInt
  · rw [if_pos h, if_neg (by simpa using h)]
  · rw [if_neg h, if_pos (by simpa using h)]

theorem divide_zero (t : Word) (ty : DivType) (a : Word) : divide t ty a 0 = ⟨zeroQuotient ty a, a, true, false, true⟩ := by
  cases ty with
  | unsigned => rfl
  | signed => exact congrArg (DivResult.mk · a true false true) (signedEnd_eq a)
  | q31 => exact congrArg (DivResult.mk · a true false true) (signedEnd_eq a)

theorem mask20 : ∀ i : Fin 32, (0x20 : Word).getLsbD i.val = decide (i.val = 5) := by decide

/-- Setting DZ before or after Z, N, V and SV gives one word. -/
theorem tswDZ_are (t w : Word) : FlagsAre (t ||| 0x20) (tswDZ (tswZNV t (w == 0) w.msb true)) (w == 0) w.msb none true false := by
  intro i hi
  have h5 : (0x20 : Word).getLsbD i = decide (i = 5) := mask20 ⟨i, hi⟩
  rw [tswDZ, BitVec.getLsbD_or, bit_tswZNV _ _ _ _ _ hi, h5]
  simp only [BitVec.getLsbD_or, h5]
  grind

theorem repn_tswDZ (t : Word) : repn (tswDZ t) = repn t :=
  repn_of_bits _ _ fun i h1 h2 => by
    have h5 : (0x20 : Word).getLsbD i = decide (i = 5) := mask20 ⟨i, by omega⟩
    rw [tswDZ, BitVec.getLsbD_or, h5, decide_eq_false (by omega), Bool.or_false]

/-- Settles O12: with DZT = 0 the unit ends with what `divide_zero` gives, with DZT = 1 in the fault of `issue_fault`. -/
theorem divideByZero : Obligations.DivideByZero := by
  intro s g ty rq rr ra rb h hne hz
  constructor
  · intro hd
    refine ⟨_, tswDZ (tswZNV (spk s g).tsw _ _ true), zeroQuotient ty (rg (spk s g) ra), rfl, rfl, tswDZ_are _ _, ?_⟩
    refine issue_regs h (insDiv ty rq rr ra rb) (Nat.le_refl 2) _ _ _ _ _ ?_ (by rw [repn_tswDZ, repn_tswZNV])
    simp only [insDiv, hne, hz, modeDZT, hd, divide_zero, divFlags, tswSV, wg_eq]
    rfl
  · intro hd
    refine ⟨_, rfl, issue_fault h (insDiv ty rq rr ra rb) (Nat.le_refl 2) 0xC 0 ?_⟩
    simp [insDiv, hne, hz, modeDZT, hd]

end Sys2Proof.Proofs

/-! MUL (R105): rounding, and products that need no saturation. -/
namespace Sys2Proof.Proofs
open Sys2Proof.Machine Sys2Proof.Laws

/-- The rounding mode of the model is the one that the statements number (R89). -/
theorem roundMode_eq (t : Word) (rov : Rov) :
    roundMode t rov = match rounding t rov with | .trn => 0 | .rnu => 1 | .rne => 2 | .rnz => 3 := by
  cases rov with
  | tsw =>
    have h : (t >>> 8).toNat % 4 = 2 * (t.getLsbD 9).toNat + (t.getLsbD 8).toNat := by
      simp only [BitVec.toNat_ushiftRight, Nat.shiftRight_eq_div_pow, BitVec.getLsbD, Nat.toNat_testBit]
      omega
    simp only [roundMode, rounding, h]
    cases t.getLsbD 9 <;> cases t.getLsbD 8 <;> rfl
  | _ => rfl

/-- X / b rounded to the nearest even, as the model and as the statements have it (R101). -/
theorem nearestEven_eq (x b : Int) (hb : 0 < b) :
    (if 2 * (x - x / b * b) < b then x / b else if 2 * (x - x / b * b) > b then x / b + 1
      else if x / b % 2 = 0 then x / b else x / b + 1) =
    if 2 * (x % b) = b then 2 * ((x / b + 1) / 2) else (2 * x + b) / (2 * b) := by
  have hr0 := Int.emod_nonneg x (Int.ne_of_gt hb)
  have hrb := Int.emod_lt_of_pos x hb
  have hx := Int.mul_ediv_add_emod x b
  have hr : x - x / b * b = x % b := by rw [Int.mul_comm]; omega
  have hq : ∀ q, 2 * (b * q) ≤ 2 * x + b → 2 * x + b < 2 * (b * q) + 2 * b → (2 * x + b) / (2 * b) = q := fun q h1 h2 =>
    ((Int.ediv_emod_unique (r := 2 * x + b - 2 * (b * q)) (by omega)).2 ⟨by rw [Int.mul_assoc]; omega, by omega, by omega⟩).1
  have hs : b * (x / b + 1) = b * (x / b) + b := by rw [Int.mul_add, Int.mul_one]
  rw [hr]
  rcases Int.lt_trichotomy (2 * (x % b)) b with h | h | h
  · rw [if_pos h, if_neg (Int.ne_of_lt h), hq (x / b) (by omega) (by omega)]
  · rw [if_neg (by omega), if_neg (by omega), if_pos h]
    split <;> omega
  · rw [if_neg (by omega), if_pos h, if_neg (Int.ne_of_gt h), hq (x / b + 1) (by omega) (by omega)]

/-- Rounding, as the model and as the statements have it (R101). -/
theorem roundTo_eq (t : Word) (rov : Rov) (k : Nat) (x : Int) :
    roundTo (rounding t rov) k x = rounded (roundMode t rov) k x := by
  have hb : (0 : Int) < 2 ^ k := Int.pow_pos (by decide)
  rw [roundMode_eq]
  cases rounding t rov with
  | trn => exact Int.fdiv_eq_ediv_of_nonneg x (Int.le_of_lt hb)
  | rnu =>
    simp only [roundTo, rounded, Int.pow_succ]
    rw [Int.fdiv_eq_ediv_of_nonneg _ (by omega), Int.mul_comm 2 ((2 : Int) ^ k)]
  | rne =>
    simp only [roundTo, rounded, Int.pow_succ, Int.fdiv_eq_ediv_of_nonneg x (Int.le_of_lt hb)]
    rw [nearestEven_eq x _ hb, Int.mul_comm 2 ((2 : Int) ^ k)]
  | rnz =>
    simp only [roundTo, rounded]
    split
    · rw [Int.tdiv_eq_ediv_of_nonneg ‹_›]
    · rw [← Int.tdiv_eq_ediv_of_nonneg (by omega), Int.neg_tdiv, Int.neg_neg]

theorem scalarOf_val (t : Word) (x : Int) : (scalarOf t x).val = BitVec.ofInt 32 (stored (t.getLsbD 10) x) := storeSat_eq _ _

/-- A value in range is stored as it is, and nothing overflows. -/
theorem stored_inside {x : Int} (h0 : -2147483648 ≤ x) (h1 : x ≤ 2147483647) (sat : Bool) : stored sat x = x ∧ outside x = false := by
  cases sat <;> simp [stored, outside] <;> omega

/-- A value in range makes the scalar result that no format narrows. -/
theorem scalarOf_inside (t : Word) {x : Int} (h0 : -2147483648 ≤ x) (h1 : x ≤ 2147483647) :
    scalarOf t x = ⟨BitVec.ofInt 32 x, false, false⟩ := by
  obtain ⟨hs, ho⟩ := stored_inside h0 h1 (modeSAT t)
  rw [scalarOf, storeSat_eq, overflows_eq, hs, ho, Bool.false_and]

/-- The upper half of a product of two words is a word. -/
theorem highProduct_range (a b : Word) :
    -2147483648 ≤ a.toInt * b.toInt / 2 ^ 32 ∧ a.toInt * b.toInt / 2 ^ 32 ≤ 2147483647 := by
  have ha := a.toInt_lt
  have ha' := a.le_toInt
  have hb := b.toInt_lt
  have hb' := b.le_toInt
  have hab : (a.toInt * b.toInt).natAbs ≤ 2147483648 * 2147483648 := by
    rw [Int.natAbs_mul]
    exact Nat.mul_le_mul (by omega) (by omega)
  omega

theorem q15lo_eq (a : Word) : q15lo a = lowHalf a := by
  rw [q15lo, lowHalf, BitVec.setWidth_eq_extractLsb' (by decide)]

/-- What MUL stores and its flags: those of the exact value (R105). -/
theorem mulFlags_eq (t : Word) (ty : MulType) (rov : Rov) (a b : Word) :
    mulFlags t ty rov a b = ((scalarOf t (mulExact t ty rov a b)).val, flagsOf t (scalarOf t (mulExact t ty rov a b))) := by
  cases ty with
  | int => rfl
  | inth =>
    obtain ⟨h0, h1⟩ := highProduct_range a b
    simp only [mulFlags, mulExact, scalarOf_inside t h0 h1, asrInt]
    rw [Int.fdiv_eq_ediv_of_nonneg _ (by decide)]
  | q31 => simp only [mulFlags, mulExact, roundTo_eq]
  | q15 => simp only [mulFlags, mulExact, q15lo_eq]

/-- Settles O10: each type of MUL is the scalar result of its exact value (`mulFlags_eq`). -/
theorem mulResult : Obligations.MulResult := by
  intro s g ty rov rd ra rb h
  refine ⟨_, _, rfl, scalar_are _ _, ?_⟩
  rw [← scalarOf_val]
  exact issue_put h (insMul ty rov rd ra rb) (Nat.le_refl 2) rd _ (congrArg (Act.done <| put _ rd ·) (mulFlags_eq _ ty rov _ _))
    (repn_flagsOf _ _)

end Sys2Proof.Proofs

/-! The shifts by a signed count (R104). -/
namespace Sys2Proof.Proofs
open Sys2Proof.Machine Sys2Proof.Laws

variable {s : State}

/-- The count of a shift is the low byte of its register, signed. -/
theorem shiftCount_eq (w : Word) : shiftCount w = (w.setWidth 8).toInt := by
  rw [shiftCount, BitVec.setWidth_eq_extractLsb' (by decide)]

/-- Every shift is an instruction on registers that puts the result of `shiftFlags`. -/
theorem shiftForm_run {i : Instr} {g : SpokeId} {n : Nat} {rd : GReg} {k : ShiftKind} {a : Word} {c : Int}
    (hf : shiftForm s i = some (g, n, rd, k, a, c)) :
    ∃ ins : Ins, exec i s = .next (issue s g ins) ∧ ins.parcels = n ∧ n ≤ 2
      ∧ ∀ u, ins.run u g (spk s g) = .done (put (spk s g) rd (shiftFlags (spk s g).tsw k a c)) := by
  unfold shiftForm at hf
  simp only [← shiftCount_eq] at hf
  split at hf <;> cases hf
  all_goals exact ⟨_, rfl, rfl, by decide, fun _ => rfl⟩

/-- A logical shift moves the bits by the count, in either direction. -/
theorem lslBy_bit (a : Word) (c : Int) {j : Nat} (hj : j < 32) :
    (lslBy a c).getLsbD j = if (j : Int) - c < 0 ∨ 31 < (j : Int) - c then false else a.getLsbD (j - c).toNat := by
  unfold lslBy
  by_cases hc : 0 ≤ c
  · have e : ((j : Int) - c).toNat = j - c.toNat := by omega
    rw [if_pos hc, BitVec.getLsbD_shiftLeft, e]
    split
    · have hlt : j < c.toNat := by omega
      simp [hlt]
    · have hge : ¬ j < c.toNat := by omega
      simp [hj, hge]
  · have e : ((j : Int) - c).toNat = (-c).toNat + j := by omega
    rw [if_neg hc, BitVec.getLsbD_ushiftRight, e]
    split
    · exact BitVec.getLsbD_of_ge _ _ (by omega)
    · rfl

/-- An arithmetic right shift fills with bit 31. -/
theorem asrInt_bit (a : Word) {c : Int} (hc : 0 ≤ c) {j : Nat} (hj : j < 32) :
    (BitVec.ofInt 32 (asrInt a.toInt c.toNat)).getLsbD j =
      if 31 < (j : Int) + c then a.getLsbD 31 else a.getLsbD (j + c).toNat := by
  have hs : BitVec.ofInt 32 (asrInt a.toInt c.toNat) = a.sshiftRight c.toNat := by
    rw [asrInt, Int.fdiv_eq_ediv_of_nonneg _ (Int.le_of_lt (Int.pow_pos (by decide))), BitVec.sshiftRight, Int.shiftRight_eq_div_pow,
      Int.natCast_pow]
    rfl
  have e : ((j : Int) + c).toNat = c.toNat + j := by omega
  rw [hs, BitVec.getLsbD_sshiftRight, e, BitVec.msb_eq_getLsbD_last, decide_eq_false (show ¬ 32 ≤ j by omega), Bool.not_false,
    Bool.true_and]
  by_cases hin : c.toNat + j < 32
  · rw [if_pos hin, if_neg (by omega)]
  · rw [if_neg hin, if_pos (by omega)]

/-- A rotation takes each bit from where the count points, modulo 32. -/
theorem rotate_bit (a : Word) (c : Int) {j : Nat} (hj : j < 32) :
    (a.rotateLeft (c % 32).toNat).getLsbD j = a.getLsbD (((j : Int) - c) % 32).toNat := by
  rw [BitVec.getLsbD_rotateLeft, Bool.cond_decide]
  split
  · congr 1; omega
  · rw [decide_eq_true hj, Bool.true_and]; congr 1; omega

/-- The bits of a shift that cannot overflow. -/
theorem shiftFlags_bit (t : Word) {k : ShiftKind} (a : Word) {c : Int} (h : k ≠ .asr ∨ 0 ≤ c) {j : Nat} (hj : j < 32) :
    (shiftFlags t k a c).1.getLsbD j = shiftedBit k a c j := by
  cases k with
  | lsl => exact lslBy_bit a c hj
  | lsr =>
    have hbit := lslBy_bit a (-c) hj
    rwa [Int.sub_neg] at hbit
  | rot => exact rotate_bit a c hj
  | asr =>
    have hc : 0 ≤ c := h.resolve_left (by simp)
    simp only [shiftFlags, if_pos hc]
    exact asrInt_bit a hc hj

/-- A shift that cannot overflow has the flags of a logic result. -/
theorem shiftFlags_logic (t : Word) {k : ShiftKind} (a : Word) {c : Int} (h : k ≠ .asr ∨ 0 ≤ c) :
    (shiftFlags t k a c).2 = flagsLogic t (shiftFlags t k a c).1 := by
  cases k with
  | asr => simp only [shiftFlags, if_pos (h.resolve_left (by simp))]; rfl
  | _ => rfl

/-- An arithmetic left shift has the result and the flags of the exact product. -/
theorem shiftFlags_left (t a : Word) {c : Int} (hc : c < 0) :
    shiftFlags t .asr a c = ((scalarOf t (a.toInt * 2 ^ (-c).toNat)).val, flagsOf t (scalarOf t (a.toInt * 2 ^ (-c).toNat))) := by
  simp only [shiftFlags, if_neg (Int.not_le.2 hc)]

/-- The flags of a stored exact value, read off its word. -/
theorem scalarWord_are (t : Word) (x : Int) :
    FlagsAre t (flagsOf t (scalarOf t x)) ((scalarOf t x).val == 0) (scalarOf t x).val.msb none (outside x)
      (t.getLsbD 10 && outside x) := by
  rw [← overflows_eq, Bool.and_comm]
  exact flagsOf_are t (scalarOf t x)

theorem repn_shiftFlags (t : Word) (k : ShiftKind) (a : Word) (c : Int) : repn (shiftFlags t k a c).2 = repn t := by
  cases k with
  | asr => exact repn_flagsOf _ _
  | _ => exact repn_flagsLogic _ _

/-- Settles O8: every shift runs `shiftFlags` (`shiftForm_run`), whose result is read bit by bit, or as an exact product. -/
theorem shiftResult : Obligations.ShiftResult := by
  intro s i g n rd k a c hf h
  obtain ⟨ins, hex, rfl, hn, hrun⟩ := shiftForm_run hf
  refine ⟨_, _, _, hex, issue_put h ins hn rd _ (hrun _) (repn_shiftFlags _ k a c),
    fun hk => ⟨fun j hj => shiftFlags_bit _ a hk hj, ?_⟩, ?_⟩
  · rw [shiftFlags_logic _ a hk]
    exact flagsLogic_are _ _
  · rintro ⟨rfl, hc⟩
    rw [shiftFlags_left _ a hc]
    exact ⟨scalarOf_val _ _, scalarWord_are _ _⟩

end Sys2Proof.Proofs

/-! The element moves (R114). -/
namespace Sys2Proof.Proofs
open Sys2Proof.Machine Sys2Proof.Laws

/-- Element i, as the model and as the statements read it. -/
theorem elem_eq_lane (t : Bool) (v : MemWord) (i : Nat) : elem t v i = lane t v i := by
  rw [lane, BitVec.setWidth_ushiftRight_eq_extractLsb]
  rfl

theorem laneW_pos (t : Bool) : 0 < laneW t := by cases t <;> decide

theorem laneW_mul_lanes (t : Bool) : laneW t * lanes t = 256 := by cases t <;> rfl

/-- Elements of width w side by side: bit j is bit j % w of element j / w. -/
theorem getLsbD_foldl_elems (w n : Nat) (hw : 0 < w) (f : Nat → BitVec w) (hn : w * n ≤ 256) {j : Nat} (hj : j < 256) :
    ((List.range n).foldl (fun acc i => acc ||| ((f i).setWidth 256 <<< (w * i))) (0 : MemWord)).getLsbD j =
      (decide (j < w * n) && (f (j / w)).getLsbD (j % w)) := by
  induction n with
  | zero => simp
  | succ n ih =>
    have hlt : ∀ m, j < w * m ↔ j / w < m := fun m => by rw [Nat.div_lt_iff_lt_mul hw, Nat.mul_comm]
    rw [List.range_succ, List.foldl_append, List.foldl_cons, List.foldl_nil, BitVec.getLsbD_or,
      ih (Nat.le_trans (Nat.mul_le_mul_left w n.le_succ) hn), BitVec.getLsbD_shiftLeft, BitVec.getLsbD_setWidth]
    have hdm := Nat.div_add_mod j w
    have hm := Nat.mod_lt j hw
    rcases Nat.lt_trichotomy (j / w) n with h | h | h
    · have h0 : j < w * n := (hlt n).2 h
      have h1 : j < w * (n + 1) := (hlt _).2 (by omega)
      simp [h0, h1]
    · have h0 : ¬ j < w * n := by rw [hlt]; omega
      have h1 : j < w * (n + 1) := (hlt _).2 (by omega)
      have hsub : j - w * n = j % w := by rw [← h]; omega
      have hmod : j % w < 256 := Nat.lt_of_le_of_lt (Nat.mod_le j w) hj
      simp [h0, h1, h, hsub, hj, hmod]
    · have h1 : ¬ j < w * (n + 1) := by rw [hlt]; omega
      have h0 : ¬ j < w * n := by rw [hlt]; omega
      have hge : w ≤ j - w * n := by rw [Nat.mul_add] at h1; omega
      simp [h0, h1, BitVec.getLsbD_of_ge _ _ hge]

/-- Element i of a register made of elements is the value given, modulo the element width (R77). -/
theorem lane_ofElems (t : Bool) (f : Nat → Int) {i : Nat} (hi : i < lanes t) :
    lane t (ofElems t f) i = (BitVec.ofInt (laneW t) (f i)).toInt := by
  unfold lane
  congr 1
  apply BitVec.eq_of_getLsbD_eq
  intro j hj
  have hw := laneW_pos t
  have htot := laneW_mul_lanes t
  have hle : laneW t * (i + 1) ≤ laneW t * lanes t := Nat.mul_le_mul_left _ hi
  rw [Nat.mul_add, Nat.mul_one] at hle
  have hbit := getLsbD_foldl_elems (laneW t) (lanes t) hw (fun i => BitVec.ofInt (laneW t) (f i)) (Nat.le_of_eq htot)
    (j := laneW t * i + j) (by omega)
  rw [Nat.mul_add_div hw, Nat.div_eq_of_lt hj, Nat.mul_add_mod, Nat.mod_eq_of_lt hj,
    decide_eq_true (show laneW t * i + j < laneW t * lanes t by omega), Bool.true_and] at hbit
  rw [BitVec.getLsbD_setWidth, BitVec.getLsbD_ushiftRight, decide_eq_true hj, Bool.true_and]
  exact hbit

/-- An element takes the low bits of a word. -/
theorem ofInt_laneW (t : Bool) (w : Word) : BitVec.ofInt (laneW t) w.toInt = w.setWidth (laneW t) :=
  BitVec.signExtend_eq_setWidth_of_le w (by cases t <;> decide)

theorem ofInt_lane (t : Bool) (v : MemWord) (i : Nat) : (BitVec.ofInt (laneW t) (lane t v i)).toInt = lane t v i := by
  rw [lane, BitVec.ofInt_toInt]

variable {s : State} {g : Nat}

/-- A vector instruction that writes one register and no flag completes. -/
theorem issue_setV (h : Alone s g) (i : Ins) (hn : i.parcels ≤ 2) (x : VReg) (w : MemWord)
    (hi : i.run (noteGrant s g) g (spk s g) = .done (setV (spk s g) x w)) :
    Completed s (issue s g i) g i.parcels { spk s g with v := (spk s g).v.set x w } :=
  issue_regs h i hn _ _ _ _ _ hi rfl

/-- Element k is one that the register has, and so no illegal one (R87). -/
theorem elementOk_of_lt {t : Bool} {k : BitVec 4} (hk : k.toNat < lanes t) : elementOk t k = true := by
  cases t
  · rfl
  · exact decide_eq_true hk

theorem elemIns_run {t : Bool} {k : BitVec 4} (hk : k.toNat < lanes t) (rs ws : List SpokeReg) (f : Spoke → Spoke)
    (u : State) (g : Nat) (sp : Spoke) : (elemIns t k rs ws f).run u g sp = .done (f sp) :=
  if_pos (elementOk_of_lt hk)

/-- Settles O15: each move completes without flags, and `lane_ofElems` reads the elements of what it writes. -/
theorem elementMoves : Obligations.ElementMoves := by
  intro s g tt k x y r h hk
  refine ⟨⟨_, _, rfl, issue_setV h (insVins tt k x r) (Nat.le_refl 2) x _ (elemIns_run hk _ _ _ _ _ _), fun i hi => ?_⟩, ⟨_, rfl, ?_⟩,
    ⟨_, _, rfl, issue_setV h (insVspl tt x r) (Nat.le_refl 2) x _ rfl, fun i hi => ?_⟩,
    ⟨_, rfl, issue_setV h (insVmovv x y) (Nat.le_refl 2) x _ rfl⟩, ⟨_, rfl, issue_setV h (insVzero x) (Nat.le_refl 2) x _ rfl⟩⟩
  · rw [vecIns, lane_ofElems tt _ hi]
    split
    · rw [ofInt_laneW]
    · rw [elem_eq_lane, ofInt_lane]
  · refine issue_regs h (insVext tt k r y) (Nat.le_refl 2) _ _ _ _ _ ((elemIns_run hk _ _ _ _ _ _).trans ?_) rfl
    rw [wg_eq, elem_eq_lane]
  · rw [lane_ofElems tt _ hi, ofInt_laneW]

end Sys2Proof.Proofs

/-! The word of a pin engine's context: behind it (R124, R125), and what its pins take (R123, R132, R133, R154). -/
namespace Sys2Proof.Proofs
open Sys2Proof.Machine Sys2Proof.Laws

variable {s u : State}

/-! What the reads of engines, contexts and pins give after an update. -/
@[simp] theorem eng_setEng (s : State) (e j : Nat) (g : Engine) : eng (setEng s e g) j = if j = e then g else eng s j :=
  tget_tput _ _ _ _ _

@[simp] theorem eng_setCtx (s : State) (e c j : Nat) (y : Ctx) :
    eng (setCtx s e c y) j = if j = e then { eng s e with ctxs := tput (eng s e).ctxs c y } else eng s j :=
  eng_setEng s e j _

theorem ctxAt_eq (s : State) (e c : Nat) : ctxAt s e c = tget {} (eng s e).ctxs c := rfl

@[simp] theorem ctxAt_setCtx_self (s : State) (e c : Nat) (y : Ctx) : ctxAt (setCtx s e c y) e c = y := by simp [ctxAt_eq]

theorem ctxAt_setCtx_ne (s : State) {e c i j : Nat} (y : Ctx) (h : i ≠ e ∨ j ≠ c) : ctxAt (setCtx s e c y) i j = ctxAt s i j := by
  rw [ctxAt_eq, eng_setCtx]
  split
  · next he =>
    subst he
    exact tget_tput_ne _ _ _ (h.resolve_left fun hne => hne rfl)
  · rfl

@[simp] theorem pinAt_setCtx (s : State) (e c p : Nat) (y : Ctx) : pinAt (setCtx s e c y) p = pinAt s p := rfl
@[simp] theorem pinAt_engStat (s : State) (e i p : Nat) : pinAt (engStat s e i) p = pinAt s p := rfl
@[simp] theorem pinAt_setPin (s : State) (q p : Nat) (y : Pin) : pinAt (setPin s q y) p = if p = q then y else pinAt s p :=
  tget_tput _ _ _ _ _

/-! The result of a word, where no bank switch is pending. -/

theorem finishSwitch_calm {e : Nat} (h : (eng s e).pending = false) : finishSwitch s e = s := by simp [finishSwitch, h]

theorem completeCtx_calm {g : Engine} (h : g.pending = false) (b : WordBits) (n : Nat) (y : Ctx) (pc : Option (BitVec 8)) :
    completeCtx g b n y pc = wordDone y b.loop n pc := by
  have hst : (if n + y.carry > 0 ∨ y.pause ≠ 0 then CtxState.delay else .run)
      = if n + y.carry = 0 ∧ y.pause = 0 then .run else .delay := by
    rw [← ite_not]
    exact ite_congr (by rw [not_or, Classical.not_not, Nat.not_lt, Nat.le_zero]) (fun _ => rfl) fun _ => rfl
  cases pc <;> simp only [completeCtx, seamSwitch, h, hst] <;> rfl

theorem settlePen_done {e : Nat} (h : (eng u e).pending = false) (s : State) (c : Nat) (b : WordBits) (n : Nat) (y : Ctx)
    (pc : Option (BitVec 8)) : settlePen s e c b n (.done u y pc) = setCtx u e c (wordDone y b.loop n pc) := by
  rw [settlePen, completeCtx_calm h]
  exact finishSwitch_calm (by simp [h])

/-! The pins and the STAT of an engine, and nothing else. -/

theorem reg_engStat (s : State) (e i k : Nat) :
    reg (engStat s e i) k = if k = penStat e then reg s (penStat e) ||| (1 : Word) <<< i else reg s k := by
  have he : engReg e 0x1C = penStat e := by simp only [engReg, penStat]; omega
  rw [engStat, he, reg_orReg]

/-- State u is state s in all but the pins and STAT of engine e. -/
structure OnlyPins (s u : State) (e : Nat) : Prop where
  rest : ∃ pins regs, u = { s with pen := { s.pen with pins := pins }, regs := regs }
  stat : ∀ k, k ≠ penStat e → reg u k = reg s k

theorem OnlyPins.refl (s : State) (e : Nat) : OnlyPins s s e := ⟨⟨_, _, rfl⟩, fun _ _ => rfl⟩

theorem OnlyPins.eng_eq {e : Nat} (h : OnlyPins s u e) (j : Nat) : eng u j = eng s j := by
  obtain ⟨_, _, rfl⟩ := h.rest
  rfl

theorem OnlyPins.ctxAt_eq {e : Nat} (h : OnlyPins s u e) (i j : Nat) : ctxAt u i j = ctxAt s i j := by
  rw [Proofs.ctxAt_eq, h.eng_eq, Proofs.ctxAt_eq]

theorem OnlyPins.setPin {e : Nat} (h : OnlyPins s u e) (p : Nat) (y : Pin) : OnlyPins s (setPin u p y) e := by
  refine ⟨?_, h.stat⟩
  obtain ⟨_, _, rfl⟩ := h.rest
  exact ⟨_, _, rfl⟩

theorem onlyPins_engStat (s : State) (e i : Nat) : OnlyPins s (engStat s e i) e :=
  ⟨⟨_, _, rfl⟩, fun k hk => by rw [reg_engStat, if_neg hk]⟩

/-- A context that changes after the pins and STAT of its engine is all that differs with them. -/
theorem OnlyPins.onlyCtx {x : CtxId} (h : OnlyPins s u x.engine) (y : Ctx) : OnlyCtx s (setCtx u x.engine x.ctx y) x := by
  refine ⟨fun e c hne => ?_, fun e he => ?_, fun g hg => ?_, ?_, fun k hk _ => h.stat k hk⟩
  · rw [ctxAt_setCtx_ne u y hne, h.ctxAt_eq]
  · rw [eng_setCtx, if_neg he, h.eng_eq]
  · rw [hg, eng_setCtx, if_pos rfl, h.eng_eq]
  · obtain ⟨_, _, rfl⟩ := h.rest
    rfl

/-- A word that completes with the pins and STAT alone touched: the context is behind it (R124, R125). -/
theorem penRow_done {x : CtxId} (hx : AtTurn s x) (b : WordBits) (n : Nat) {f : State → Nat → Ctx → PenRes} {y : Ctx}
    {pc : Option (BitVec 8)} (hf : f s x.engine (ctxAt s x.engine x.ctx) = .done u y pc) (hu : OnlyPins s u x.engine) :
    penRow x b n f s = .next (setCtx u x.engine x.ctx (wordDone y b.loop n pc)) := by
  simp only [penRow, act, hx.turn, if_true, hf]
  rw [settlePen_done (by rw [hu.eng_eq]; exact hx.calm)]

/-! What owned pins take. -/

/-- A pin takes a level, or a direction, with which the pull of the safe state goes (R123, R154). -/
def pinTakes (dirs v : Bool) (y : Pin) : Pin := if dirs then { y with out := v, pull := none } else { y with level := v }

/-- The first n pins from pin lo take the low bits of a word. -/
def takeBits (dirs : Bool) (v : Word) (lo n : Nat) (s : State) : State :=
  (List.range n).foldl (fun s i => setPin s (lo + i) (pinTakes dirs (bit v i) (pinAt s (lo + i)))) s

theorem takeBits_succ (dirs : Bool) (v : Word) (lo n : Nat) (s : State) :
    takeBits dirs v lo (n + 1) s =
      setPin (takeBits dirs v lo n s) (lo + n) (pinTakes dirs (bit v n) (pinAt (takeBits dirs v lo n s) (lo + n))) := by
  simp only [takeBits, List.range_succ, List.foldl_append, List.foldl_cons, List.foldl_nil]

theorem onlyPins_takeBits (dirs : Bool) (v : Word) (lo n e : Nat) (s : State) : OnlyPins s (takeBits dirs v lo n s) e := by
  induction n with
  | zero => exact .refl s e
  | succ n ih =>
    rw [takeBits_succ]
    exact ih.setPin _ _

theorem pinAt_takeBits (dirs : Bool) (v : Word) (lo n : Nat) (s : State) (p : Nat) :
    pinAt (takeBits dirs v lo n s) p = if lo ≤ p ∧ p < lo + n then pinTakes dirs (bit v (p - lo)) (pinAt s p) else pinAt s p := by
  induction n generalizing p with
  | zero => rw [if_neg (by omega)]; rfl
  | succ n ih =>
    rw [takeBits_succ, pinAt_setPin]
    by_cases hp : p = lo + n
    · subst hp
      rw [if_pos rfl, ih, if_neg (by omega), if_pos (by omega), Nat.add_sub_cancel_left]
    · rw [if_neg hp, ih]
      exact ite_congr (propext (by omega)) (fun _ => rfl) fun _ => rfl

theorem groupOfEng_val (e : Fin 64) : (groupOfEng e).val = e.val / 8 := Nat.mod_eq_of_lt (by omega)

theorem writePins_owned {y : Ctx} (ho : y.own = true) (s : State) (e : Fin 64) (dirs : Bool) (n : Nat) (v : Word) :
    writePins s e y dirs n v = takeBits dirs v (64 * (e.val / 8) + y.base) n s := by
  rw [writePins, if_neg (by simp [ho]), groupOfEng_val]
  rfl

theorem writePins_unowned {y : Ctx} (ho : y.own = false) (s : State) (e : Nat) (dirs : Bool) (n : Nat) (v : Word) :
    writePins s e y dirs n v = if n = 0 then s else engStat s e 7 := if_pos (by simp [ho])

theorem onlyPins_writePins (s : State) (e : Fin 64) (y : Ctx) (dirs : Bool) (n : Nat) (v : Word) :
    OnlyPins s (writePins s e y dirs n v) e := by
  cases ho : y.own with
  | true => rw [writePins_owned ho]; exact onlyPins_takeBits ..
  | false =>
    rw [writePins_unowned ho]
    split
    · exact .refl s e
    · exact onlyPins_engStat s e 7

/-- The owned pins take the bits, and every other pin is as it was (R123). -/
theorem pinAt_writePins (s : State) (e : Fin 64) (y : Ctx) (dirs : Bool) (n : Nat) (v : Word) (p : Nat) :
    pinAt (writePins s e y dirs n v) p =
      if y.own = true ∧ 64 * (e.val / 8) + y.base ≤ p ∧ p < 64 * (e.val / 8) + y.base + n then
        pinTakes dirs (bit v (p - (64 * (e.val / 8) + y.base))) (pinAt s p) else pinAt s p := by
  cases ho : y.own with
  | true => rw [writePins_owned ho, pinAt_takeBits]; simp only [true_and]
  | false =>
    simp only [writePins_unowned ho, Bool.false_eq_true, false_and, if_false]
    split
    · rfl
    · exact pinAt_engStat ..

/-- A write of a context that owns no pin sets NOTOWN (R123). -/
theorem notown_writePins {y : Ctx} (ho : y.own = false) {n : Nat} (hn : 0 < n) (s : State) (e : Nat) (dirs : Bool) (v : Word) :
    (reg (writePins s e y dirs n v) (penStat e)).getLsbD 7 = true := by
  rw [writePins_unowned ho, if_neg (by omega), reg_engStat, if_pos rfl, BitVec.getLsbD_or]
  exact Bool.or_true _

/-! PUT (R133). -/

theorem exec_put (s : State) (x : CtxId) (b : WordBits) (dst : PutDst) (imm : BitVec 6) :
    exec (.put x b dst imm) s = penRow x b 0 (fun s e c => penPut s e c dst imm) s := rfl

/-- The immediate of PUT, zero-extended, keeps its six bits. -/
theorem bit_imm (imm : BitVec 6) {i : Nat} (hi : i < 6) : bit (imm.setWidth 32) i = imm.getLsbD i := by
  rw [bit, BitVec.getLsbD_setWidth, decide_eq_true (by omega), Bool.true_and]

/-- PUT of PINS or DIRS: the pins and STAT that `writePins` leaves, and the context behind the word. -/
theorem put_pins {x : CtxId} (hx : AtTurn s x) (b : WordBits) (imm : BitVec 6) (dirs : Bool) :
    exec (.put x b (if dirs then .dirs else .pins) imm) s =
      .next (setCtx (writePins s x.engine (ctxAt s x.engine x.ctx) dirs (min (ctxAt s x.engine x.ctx).count 6) (imm.setWidth 32))
        x.engine x.ctx (wordDone (ctxAt s x.engine x.ctx) b.loop 0 none)) :=
  (exec_put ..).trans (penRow_done hx b 0 (by cases dirs <;> rfl) (onlyPins_writePins ..))

/-- PUT that writes a register of the context touches nothing else. -/
theorem put_reg {x : CtxId} (hx : AtTurn s x) (b : WordBits) (dst : PutDst) (imm : BitVec 6) {y : Ctx}
    (hy : penPut s x.engine (ctxAt s x.engine x.ctx) dst imm = .done s y none) :
    ∃ t, exec (.put x b dst imm) s = .next t ∧ OnlyCtx s t x ∧ t.pen.pins = s.pen.pins
      ∧ ctxAt t x.engine x.ctx = wordDone y b.loop 0 none :=
  ⟨_, (exec_put ..).trans (penRow_done hx b 0 hy (.refl s _)), (OnlyPins.refl s _).onlyCtx _, rfl, ctxAt_setCtx_self ..⟩

/-- Settles O48: PINS and DIRS end with what `writePins` leaves of the pins (`pinAt_writePins`) and of STAT (`notown_writePins`),
TA and TB with their register alone (`put_reg`). -/
theorem putWritesOwnedPins : Obligations.PutWritesOwnedPins := by
  rintro s x b imm c lo n hx rfl rfl rfl
  refine ⟨fun dst hdst => ?_, put_reg hx b .ta imm rfl, put_reg hx b .tb imm rfl⟩
  obtain ⟨dirs, rfl⟩ : ∃ dirs : Bool, dst = if dirs then .dirs else .pins :=
    hdst.elim (fun h => ⟨false, h⟩) fun h => ⟨true, h⟩
  refine ⟨_, put_pins hx b imm dirs, (onlyPins_writePins ..).onlyCtx _, ctxAt_setCtx_self .., fun ho hn => ?_, fun p => ?_⟩
  · rw [reg_setCtx]
    exact notown_writePins ho hn ..
  · rw [pinAt_setCtx, pinAt_writePins]
    split
    · next hp =>
      rw [bit_imm imm (by omega)]
      cases dirs <;> rfl
    · rfl

end Sys2Proof.Proofs

/-! A frame of the debug wire in a session, and the debug-only registers that it reaches (R318 to R322, R339). -/
namespace Sys2Proof.Proofs
open Sys2Proof.Machine Sys2Proof.Laws

variable {s : State}

/-- The state in which a good frame of a session acts: the session's clock restarts and DBG_FRAMES counts it (R324). -/
def framed (s : State) : State := bump (onDbg s fun d => { d with quiet := 0 }) 0x3054

theorem frame_eq {n : Nat} (h : InSession s n) (f : State → State) : frame s true f = f (framed s) := by
  rw [frame, if_neg (by rw [h.good]; decide), if_neg (by decide), startSession, if_pos h.started]
  rfl

/-- From level 1 a read of the debug-only register r replies what the register gives. -/
theorem frameRead_debugOnly {a w : Word} {t : State} {r : Nat} (hl : 1 ≤ s.dbg.level.toNat) (ha : a.toNat = 0x20000000 + r)
    (hr : r < 0x30) (h4 : r % 4 = 0) (o : ReadOutcome) (ht : dbgOnlyRead s r false = (t, w)) :
    frameRead s a o false = frameReply t 0 w := by
  have hbus : busRead s a.toNat o false = (t, 0, w) := by
    rw [busRead, if_neg (by omega), if_neg (by omega), if_neg (by omega), if_pos (by omega), ha, Nat.add_sub_cancel_left, ht]
  have hallowed : ¬ (¬ authReg a.toNat ∧ s.dbg.level.toNat < if false = true then 2 else 1) := by
    rw [if_neg Bool.false_ne_true]
    omega
  rw [frameRead, if_neg hallowed, hbus]

/-- The state in which a WR frame to another register acts: the first write of the reset key is void (R325). -/
def keyVoided (s : State) : State := onDbg s fun d => { d with key1 := false }

/-- At level 2 a write of a debug-only register r other than DBG_RST_KEY leaves what the register takes. -/
theorem frameWrite_debugOnly {a v : Word} {t : State} {r : Nat} (hl : 2 ≤ s.dbg.level.toNat) (ha : a.toNat = 0x20000000 + r)
    (hr : r < 0x2C) (h4 : r % 4 = 0) (o : ReadOutcome)
    (ht : dbgOnlyWrite (keyVoided s) r v = .inl t) :
    frameWrite s a v o = frameReply t 0 0 := by
  have hkey : a ≠ 0x2000002C := by bv_omega
  have hbus : busWrite (keyVoided s) a.toNat v o = (t, 0) := by
    rw [busWrite, if_neg (by omega), if_neg (by omega), if_neg (by omega), if_neg (by omega), if_pos (by omega), ha,
      Nat.add_sub_cancel_left, ht]
  have hallowed : ¬ (¬ authReg a.toNat ∧ (keyVoided s).dbg.level.toNat < 2) :=
    fun h => Nat.not_lt_of_le hl h.2
  rw [keyVoided] at hbus hallowed
  simp only [frameWrite, if_neg hkey, if_neg hallowed, hbus]

end Sys2Proof.Proofs

/-! DBG_RUN_PC (R330). -/
namespace Sys2Proof.Proofs
open Sys2Proof.Machine Sys2Proof.Laws

variable {s : State} {g : SpokeId}

theorem repn_setRepn_zero (t : Word) : repn (setRepn t 0) = 0 := by
  have hmask : ∀ i : Fin 7, (~~~(0x007F0000 : Word)).getLsbD (16 + i.val) = false := by decide
  have hbits : (setRepn t 0).extractLsb' 16 7 = 0 := by
    refine BitVec.eq_of_getLsbD_eq fun i hi => ?_
    simp only [setRepn, BitVec.getLsbD_extractLsb', BitVec.getLsbD_or, BitVec.getLsbD_and, hmask ⟨i, hi⟩]
    simp
  rw [repn, hbits]
  rfl

/-- DBG_RUN_SEL with TYPE 0 names the one spoke of its number (R326). -/
theorem selSpokes_eq (h : s.dbg.runSel.toNat = 4 * g.val) : selSpokes s = [g.val] := by
  have htype : bits s.dbg.runSel 0 2 = 0 := by simp [bits, h]
  have hnum : bits s.dbg.runSel 2 11 = g.val := by
    simp only [bits, h, Nat.shiftRight_eq_div_pow]
    omega
  simp only [selSpokes, htype, hnum]

/-- What a write of DBG_RUN_PC makes of a halted spoke. -/
def withRunPc (v : Word) (x : Spoke) : Spoke :=
  { x with pc := v.setWidth 18, tsw := if bit v 31 then x.tsw else setRepn x.tsw 0 }

/-- A write of DBG_RUN_PC changes the selected spoke where it is halted, and no other. -/
theorem writeRunPc_spokes (h : s.dbg.runSel.toNat = 4 * g.val) (v : Word) :
    (writeRunPc s v).spokes
      = if (spk s g).st = .halted then tput s.spokes g (withRunPc v (spk s g)) else s.spokes := by
  simp only [writeRunPc, selSpokes_eq h, List.foldl_cons, List.foldl_nil, spk_onDbg]
  by_cases hh : (spk s g).st = .halted
  · simp only [hh, if_true, withRunPc]
    rfl
  · simp only [hh, if_false]
    rfl

theorem orAll_pair (m n : Nat) : orAll [m, n] = BitVec.ofNat 32 (m + n) := by
  simp [orAll]

/-- The value of DBG_RUN_PC has the PC of the selected halted spoke in its low 18 bits, below the KEEPREP bit. -/
theorem runPcRead_halted (h : s.dbg.runSel.toNat = 4 * g.val) (hh : (spk s g).st = .halted) :
    ∃ w, dbgOnlyRead s 0x0C false = (s, w) ∧ w.toNat % 2 ^ 18 = (spk s g).pc.toNat := by
  refine ⟨orAll [(spk s g).pc.toNat, b2n s.dbg.keepRep * 2 ^ 31], ?_, ?_⟩
  · simp only [dbgOnlyRead, selSpokes_eq h, List.head?_cons, hh, if_true]
  · have hpc := (spk s g).pc.isLt
    rw [orAll_pair, BitVec.toNat_ofNat]
    omega

/-- The wire address of DBG_RUN_PC is register 0x0C of the debug-only window. -/
theorem runPc_addr : (0x2000000C : Word).toNat = 0x20000000 + 0x0C := rfl

/-- A read of DBG_RUN_PC replies the PC of the selected halted spoke, and changes no spoke. -/
theorem exec_runPcRead (hs : InSession s 2) (hg : Selected s g) (hh : (spk s g).st = .halted) :
    ∃ t, exec (.drwRd true 0x2000000C ⟨.clean, .clean⟩) s = .next t ∧ t.dbg.status = 0
      ∧ t.dbg.reply.toNat % 2 ^ 18 = (spk s g).pc.toNat ∧ t.spokes = s.spokes := by
  obtain ⟨w, hw, hpc⟩ := runPcRead_halted (s := framed s) hg.sel hh
  have hl : 1 ≤ (framed s).dbg.level.toNat := Nat.le_of_succ_le hs.level
  have hr : frameRead (framed s) 0x2000000C ⟨.clean, .clean⟩ false = frameReply (framed s) 0 w :=
    frameRead_debugOnly hl runPc_addr (by decide) (by decide) _ hw
  exact ⟨_, congrArg Host.Outcome.next ((frame_eq hs _).trans hr), rfl, hpc, rfl⟩

/-- DBG_RUN_PC_WRITE leaves the spokes as `writeRunPc` does. -/
theorem exec_runPcWrite (hs : InSession s 2) (hg : Selected s g) (v : Word) :
    ∃ t, exec (.dbgRunPcWrite v) s = .next t
      ∧ t.spokes = if (spk s g).st = .halted then tput s.spokes g (withRunPc v (spk s g)) else s.spokes := by
  have hl : 2 ≤ (framed s).dbg.level.toNat := hs.level
  have hw : frameWrite (framed s) 0x2000000C v ⟨.clean, .clean⟩
      = frameReply (writeRunPc (keyVoided (framed s)) v) 0 0 :=
    frameWrite_debugOnly hl runPc_addr (by decide) (by decide) _ rfl
  exact ⟨_, congrArg Host.Outcome.next ((frame_eq hs _).trans hw), writeRunPc_spokes (s := keyVoided (framed s)) hg.sel v⟩

/-- Settles O60: the read is `exec_runPcRead`, and the write leaves the spokes of `exec_runPcWrite`. -/
theorem runPcOfHaltedSpoke : Obligations.RunPcOfHaltedSpoke := by
  intro s g v hs hg
  obtain ⟨t, ht, hsp⟩ := exec_runPcWrite hs hg v
  refine ⟨fun hh => ⟨exec_runPcRead hs hg hh, t, ht, ?_⟩, fun hn => ⟨t, ht, by rw [hsp, if_neg hn]⟩⟩
  have hspk (h : Nat) : spk t h = if h = g.val then withRunPc v (spk s g) else spk s h := by
    rw [spk, hsp, if_pos hh, tget_tput]
    rfl
  have hself : spk t g = withRunPc v (spk s g) := (hspk g).trans (if_pos rfl)
  rw [hself]
  refine ⟨rfl, rfl, hh, fun hk => ?_, fun hk => if_pos hk, fun h hne => (hspk h).trans (if_neg hne)⟩
  rw [withRunPc, if_neg (by rw [bit, hk]; decide)]
  exact repn_setRepn_zero _

end Sys2Proof.Proofs
